-- ==== Sys2Proof/Word.lean ====
section
/-! DEFINITION. Bytes and the plainest arithmetic of the units (00_scope, Units, numbers and ranges). -/

namespace Sys2Proof

/-- One byte of a frame or of a block. -/
abbrev Byte := BitVec 8

/-- The least whole number at or above `a ÷ b` (the ceiling of R4 and R43). -/
def ceilDiv (a b : Nat) : Nat := (a + b - 1) / b

end Sys2Proof
end

