-- ==== Sys2Proof/Syntax.lean ====
section
/-! DEFINITION. The commands: one constructor for each row of spec/opcode_table.json, in the table's order. A row
whose step takes a frame from the receive queue has no operand of its own: its operand is the frame at the head of
that queue (R183). -/

namespace Sys2Proof

/-- The commands the engine takes. -/
inductive Instr where
  /-- POWER_ON (R49): main power returns. -/
  | powerOn
  /-- RESET_LINE (R182): the reset line is released. -/
  | resetLine
  /-- BACKUP_SUPPLY_LOSS (R34): the backup supply fails. -/
  | backupSupplyLoss
  /-- CLOCK_TICK (R30): a second of the timebase is complete. -/
  | clockTick
  /-- INGEST_FRAME_ARRIVAL (R183): the bytes of a whole frame, its check word last, arrive on the Ingest Link. -/
  | ingestFrameArrival (bytes : List Byte)
  /-- FRAME_TRANSMIT (R184): the Ingest Link takes the head frame of the transmit queue. -/
  | frameTransmit
  /-- INGEST_LINK_RESET (R185): a loss of the Ingest Link. -/
  | ingestLinkReset
  /-- INGEST_LINK_READY (R182): the Ingest Link reports itself up again. -/
  | ingestLinkReady
  /-- MEDIA_LINK_RESET (R157): a loss of the Media Link. -/
  | mediaLinkReset
  /-- MEDIA_LINK_READY (R137): the Media Link reports itself up again. -/
  | mediaLinkReady
  /-- MALFORMED_FRAME (R189): the head frame of the receive queue, of bad form, is taken. -/
  | malformedFrame
  /-- BEGIN (R72): a BEGIN frame is taken. -/
  | beginFrame
  /-- DATA (R81): a DATA frame is taken. -/
  | dataFrame
  /-- END (R91): an END frame is taken. -/
  | endFrame
  /-- READ (R102): a READ frame is taken. -/
  | readFrame
  /-- ERASE (R20): an ERASE frame is taken. -/
  | eraseFrame
  /-- READ_RECORD (R194): a READ RECORD request is taken. -/
  | readRecord
  /-- LOAD_INITIATOR (R53): a LOAD INITIATOR request is taken. -/
  | loadInitiator
  /-- LOAD_CLASS (R41): a LOAD CLASS request is taken. -/
  | loadClass
  /-- SET_VOLUME (R25): a SET VOLUME request is taken. -/
  | setVolume
  /-- SET_ZONE (R26): a SET ZONE request is taken. -/
  | setZone
  /-- PLACE_HOLD (R116): a PLACE HOLD request is taken. -/
  | placeHold
  /-- RELEASE_HOLD (R118): a RELEASE HOLD request is taken. -/
  | releaseHold
  /-- TRIGGER (R45): a TRIGGER request is taken. -/
  | trigger
  /-- EXTEND_RETENTION (R46): an EXTEND RETENTION request is taken. -/
  | extendRetention
  /-- CLOSE (R17): a CLOSE request is taken. -/
  | closeSegment
  /-- SET_CLOCK (R35): a SET CLOCK request is taken. -/
  | setClock
  /-- ADJUST_CLOCK (R36): an ADJUST CLOCK request is taken. -/
  | adjustClock
  /-- SWEEP (R130): a SWEEP request is taken. -/
  | sweep
  /-- LOAD_SCAN (R161): a LOAD SCAN request is taken. -/
  | loadScan
  /-- CANCEL_SCAN (R164): a CANCEL SCAN request is taken. -/
  | cancelScan
  /-- RELEASE_SCAN (R163): a RELEASE SCAN request is taken. -/
  | releaseScan
  /-- RESUME_REISSUE (R152): a RESUME request whose disposition is not Abandon is taken. -/
  | resumeReissue
  /-- RESUME_ABANDON (R155): a RESUME request with disposition Abandon is taken. -/
  | resumeAbandon
  /-- COLLECT_ACTIVITY (R112): a COLLECT ACTIVITY request is taken. -/
  | collectActivity
  /-- COLLECTION_EXAMINE (R113): the unfinished collection examines its next segment. -/
  | collectionExamine
  /-- CLEAR_CONDITIONS (R176): a CLEAR CONDITIONS request is taken. -/
  | clearConditions
  /-- SET_NOTICE (R177): a SET NOTICE request is taken. -/
  | setNotice
  /-- SET_TIMEOUTS (R195): a SET TIMEOUTS request is taken. -/
  | setTimeouts
  /-- RESTART (R196): a RESTART request is taken. -/
  | restart
  /-- MEDIA_GRANT (R146): the Media Arbiter makes one grant. -/
  | mediaGrant
  /-- MSTATUS (R140): the bytes of a response other than an MDATA arrive on the Media Link. -/
  | mstatus (bytes : List Byte)
  /-- MDATA (R140): the bytes of an MDATA response arrive on the Media Link. -/
  | mdata (bytes : List Byte)
  /-- SCAN_VISIT (R165): the Running scan makes a visit. -/
  | scanVisit
  /-- MEDIA_TIMEOUT (R141): the timer of a tag slot, 0 to 15, has run out. -/
  | mediaTimeout (slot : Nat)
  /-- TRANSFER_IDLE (R96): the idle timer of a context, 0 to 31, has run out. -/
  | transferIdle (context : Nat)
  /-- PASS_BEGIN (R127): the Sweeper begins a pass. -/
  | passBegin
  /-- SWEEPER_VISIT (R128): the Sweeper makes one visit. -/
  | sweeperVisit
  /-- WALKER_VISIT (R120): the Hold Walker makes one visit. -/
  | walkerVisit
  /-- MAIN_POWER_LOSS (R34): main power is lost. -/
  | mainPowerLoss
  /-- RESET_LINE_HELD (R182): the reset line is asserted. -/
  | resetLineHeld
  deriving DecidableEq, Repr

end Sys2Proof
end

