-- ==== Sys2Proof/Decode.lean ====
section
/-! DEFINITION. The table's words. spec/opcode_table.json gives no row any bits ("fields" is empty in every row and
no row has "fixed"), so no word spells a command. The layout of the frames the commands take is R186's and stands in
Machine/Operands.lean. -/

namespace Sys2Proof

/-- The command that a word of the table spells: none, since the table gives no row any bits. -/
def decodeTableWord (_nbits _w : Nat) : Option Instr := none

end Sys2Proof
end

