-- ==== Sys2Proof/Config.lean ====
section
/-! DEFINITION. The numbers the manual fixes for the part. The manual leaves no value of the part open, so no
constant here is a free value. -/

namespace Sys2Proof.Config

/-- Blocks of a segment (00_scope, Units). -/
def segmentBlocks : Nat := 16384

/-- Bytes of a block (00_scope, Units; R48). -/
def blockBytes : Nat := 4096

/-- Segments of a zone (R4). -/
def zoneSegments : Nat := 4096

/-- Segments of the label area, 0 to 7 (R6), and of a staging window (R50). -/
def labelSegments : Nat := 8

/-- Seconds of a day (00_scope, Time). -/
def daySeconds : Nat := 86400

/-- The expiry day that means Permanent (00_scope, Time; R44). -/
def permanentDay : Nat := 1048575

/-- The last value of the clock, 1,048,574:86,399, as seconds (R31). -/
def topStop : Nat := 1048574 * 86400 + 86399

/-- Frames the receive queue holds (R183). -/
def receiveLimit : Nat := 64

/-- Frames the transmit queue holds (R184). -/
def transmitLimit : Nat := 2048

/-- The intake limit of the transmit queue (R184). -/
def intakeLimit : Nat := 1024

/-- The word that carries an absent optional value (R187). -/
def absentWord : Nat := 4294967295

/-- The modulus of the content fold (R47). -/
def foldModulus : Nat := 4294967291

/-- The check word's polynomial with its x^0 term most significant (R188). -/
def checkPolynomial : BitVec 32 := 2197175160#32

/-- The initiator number that stands for the engine in a payload (R187). -/
def engineInitiator : Nat := 32

end Sys2Proof.Config
end

