-- ==== Sys2Proof/Machine/State.lean ====
section
/-! DEFINITION. The engine's state: every record, table, queue, counter, flag and line the manual gives it, as plain
data, and its value after reset. -/

namespace Sys2Proof.Machine

/-! ### Named values -/

/-- The refusal codes (R186). -/
inductive Code where
  | unknownInitiator | suspended | notDisposer | notOfficer | noVolume | outOfRange | labelDenied | readOnly
  | inhibitDenied | keyDenied | stateDenied | notExpired | classMismatch | classUndefined | segmentBusy | clockUnset
  | held | countLong | spanBlocked | tagInUse | busy | format | lowering | tableFull | eraseInProgress | limit
  | eraseFailed | overrun | transferIdle | faultLost | mediaFault
  deriving DecidableEq, Repr

/-- The eighteen outcome conditions, in the order of the table of section 9.1 (R187). -/
inductive Cond where
  | keyDenied | wormDenied | inhibitDenied | labelDenied
  | countLong | countShort | overrun | frameCheck | transferIdle
  | mediaFault | mediaSoft | mediaLate | eraseFailed
  | digestMismatch | faultLost | faultDiscarded
  | clockClamped | clockUnset
  deriving DecidableEq, Repr

/-- The five accrued groups (R175). -/
inductive Group where
  | protection | transfer | media | integrity | clock
  deriving DecidableEq, Repr

/-- A set of conditions, carried as R187 carries it: bit k for condition k. -/
abbrev CondSet := BitVec 18

/-- A set of groups, carried as R187 carries it: PROTECTION bit 0 to CLOCK bit 4. -/
abbrev GroupSet := BitVec 5

/-- The state of a link (R137, R182). -/
inductive LinkState where
  | ready | lost
  deriving DecidableEq, Repr

/-- The statuses of a REPLY (R191). -/
inductive Status where
  | done | short | faulted | refused | clamped | unchanged
  deriving DecidableEq, Repr

/-- The kind of an operation reported to the Condition Unit (R173). -/
inductive OpKind where
  | beginTransfer
  | readTransfer
  | eraseSegment
  | control (request : Nat)
  | scan
  | clock
  | media
  | frame
  | startUp
  deriving DecidableEq, Repr

/-- An operation as it reports to the Condition Unit: its initiator, where none is the engine, its tag, absent for
the engine, and its kind (R173). -/
structure Operation where
  initiator : Option Nat
  tag : Option Nat
  kind : OpKind
  deriving DecidableEq, Repr

/-! ### Frames -/

/-- A frame: the header fields of R186 as numbers, and the payload's bytes. -/
structure Frame where
  kind : Nat
  initiator : Nat
  tag : Nat
  flags : Nat
  volume : Nat
  cls : Nat
  status : Nat
  code : Nat
  segment : Nat
  offset : Nat
  count : Nat
  payloadLength : Nat
  payload : List Byte
  deriving DecidableEq, Repr

/-- An entry of the receive queue: a frame whose header arrived whole, or one too short to hold a header. -/
inductive RxFrame where
  | whole (frame : Frame)
  | cutShort
  deriving DecidableEq, Repr

/-- The frame check state of a port: the register of R188 and the count of bytes received. -/
structure FrameCheck where
  register : BitVec 32
  count : Nat
  deriving DecidableEq, Repr

/-- The frame check state at the start of a frame and after a reset: every register bit 1, no byte (R188, R197). -/
def FrameCheck.cleared : FrameCheck := { register := 4294967295#32, count := 0 }

/-! ### Initiator Table (R50) -/

/-- The state of an initiator entry. -/
inductive InitiatorState where
  | absent | enabled | suspended
  deriving DecidableEq, Repr

/-- A staging window: a volume and a base segment. -/
structure Window where
  volume : Nat
  base : Nat
  deriving DecidableEq, Repr

/-- An initiator entry. An Absent entry's other fields hold no value; they stand as in `InitiatorEntry.absent`. -/
structure InitiatorEntry where
  state : InitiatorState
  key : Nat
  officer : Bool
  disposer : Bool
  readOnly : Bool
  volumes : BitVec 4
  window : Option Window
  deriving DecidableEq, Repr

/-- An Absent entry (R50). -/
def InitiatorEntry.absent : InitiatorEntry :=
  { state := .absent, key := 0, officer := false, disposer := false, readOnly := false, volumes := 0#4,
    window := none }

/-- Entry 0 of a part never powered before (R51). -/
def InitiatorEntry.first : InitiatorEntry :=
  { state := .enabled, key := 0, officer := true, disposer := false, readOnly := false, volumes := 15#4,
    window := none }

/-! ### Retention Map (R1 to R7) -/

/-- The five segment states (section 1.4). `opened` is the state Open. -/
inductive SegmentState where
  | blank | opened | closed | expired | erasing
  deriving DecidableEq, Repr

/-- A segment descriptor (R7). Times are seconds, day × 86,400 + second. -/
structure Segment where
  state : SegmentState
  cls : Option Nat
  key : Option Nat
  generation : Nat
  appendPoint : Nat
  foldA : Nat
  foldB : Nat
  closeTime : Option Nat
  expiry : Option Nat
  triggerDay : Option Nat
  holdCount : Nat
  readSince : Bool
  writtenSince : Bool
  suspect : Bool
  truncated : Bool
  faultPending : Bool
  continuedFrom : Option Nat
  writer : Option Nat
  deriving DecidableEq, Repr

/-- A segment that comes into being (R7). -/
def Segment.fresh : Segment :=
  { state := .blank, cls := none, key := none, generation := 0, appendPoint := 0, foldA := 1, foldB := 0,
    closeTime := none, expiry := none, triggerDay := none, holdCount := 0, readSince := false,
    writtenSince := false, suspect := false, truncated := false, faultPending := false, continuedFrom := none,
    writer := none }

/-- The five state counts of a volume (R3, R23). -/
structure StateCounts where
  blank : Nat
  opened : Nat
  closed : Nat
  expired : Nat
  erasing : Nat
  deriving DecidableEq, Repr

/-- A zone descriptor (R4). -/
structure Zone where
  writeInhibit : Bool
  spanning : Bool
  deriving DecidableEq, Repr

/-- A zone that comes into being (R4). -/
def Zone.fresh : Zone := { writeInhibit := false, spanning := true }

/-- The three states of a volume (R2). -/
inductive VolumeState where
  | absent | online | readOnly
  deriving DecidableEq, Repr

/-- A volume descriptor with its zones and segments (R1, R3, R4). An Absent volume stands as `Volume.absent`. The
segments are the entries that differ from a fresh one, by rising number; a number below the count that is not
listed is a fresh Blank segment. -/
structure Volume where
  state : VolumeState
  count : Nat
  writeInhibit : Bool
  commonKey : Bool
  counts : StateCounts
  zones : List Zone
  segments : List (Nat × Segment)
  deriving DecidableEq, Repr

/-- An Absent volume: no count, no zones, no segments (R2). -/
def Volume.absent : Volume :=
  { state := .absent, count := 0, writeInhibit := false, commonKey := false,
    counts := { blank := 0, opened := 0, closed := 0, expired := 0, erasing := 0 }, zones := [], segments := [] }

/-! ### Class Table (R39) and Compliance Clock (R29) -/

/-- A retention period (00_scope, Time). -/
structure Period where
  months : Nat
  days : Nat
  deriving DecidableEq, Repr

/-- A Defined class entry (R39). The post-trigger period is present when `triggered` is yes. -/
structure ClassEntry where
  base : Period
  post : Option Period
  permanent : Bool
  triggered : Bool
  readProtection : Bool
  deriving DecidableEq, Repr

/-- The entry classes 0 and 1 start with (R40). -/
def ClassEntry.start : ClassEntry :=
  { base := { months := 0, days := 0 }, post := none, permanent := false, triggered := false,
    readProtection := false }

/-- The state of the clock (R29). -/
inductive ClockState where
  | running | unset
  deriving DecidableEq, Repr

/-- The Compliance Clock (R29). Value and mark are seconds. -/
structure Clock where
  value : Nat
  state : ClockState
  backupValid : Bool
  mark : Nat
  deriving DecidableEq, Repr

/-! ### Transfer Context Table (R76, R101) -/

/-- The five states of a write context (R77). -/
inductive WriteState where
  | streaming | draining | aborting | faulted | reissuing
  deriving DecidableEq, Repr

/-- A pending media write (R84) with its place in the Write Buffer (R83). The media tag is present while its MWRITE
is sent and unanswered. -/
structure PendingWrite where
  segment : Nat
  offset : Nat
  count : Nat
  mediaTag : Option Nat
  confirmed : Bool
  data : List Byte
  deriving DecidableEq, Repr

/-- A write context (R76). The last five fields are the model's own bookkeeping: the start of the transfer (R79), by
which R92 counts the blocks confirmed; the code of the first fatal condition (R95); whether no Terminated reply is
due (R95, R98); whether the initiator's entry has become Absent since admission (R54). -/
structure WriteContext where
  state : WriteState
  initiator : Nat
  tag : Nat
  volume : Nat
  current : Nat
  next : Option Nat
  received : Nat
  remaining : Nat
  forwardSegment : Nat
  forwardOffset : Nat
  confirmedOffset : Nat
  pending : List PendingWrite
  credit : Nat
  closeFlag : Option Bool
  outcome : CondSet
  idle : Option Nat
  startSegment : Nat
  startOffset : Nat
  fatal : Option Code
  silent : Bool
  removed : Bool
  deriving DecidableEq, Repr

/-- The progress of a media read (R101, R166). -/
inductive Progress where
  | waiting | sent | arrived | failed
  deriving DecidableEq, Repr

/-- An entry of a read list (R101) or of a scan read list (R166). -/
structure ReadEntry where
  offset : Nat
  count : Nat
  mediaTag : Option Nat
  progress : Progress
  data : List Byte
  deriving DecidableEq, Repr

/-- Why a read stopped (R101). -/
inductive ReadEnding where
  | short | faulted
  deriving DecidableEq, Repr

/-- A read context (R101); its state is Reading. -/
structure ReadContext where
  initiator : Nat
  tag : Nat
  volume : Nat
  segment : Nat
  requested : Nat
  firstOffset : Nat
  served : Nat
  list : List ReadEntry
  delivered : Nat
  ending : Option ReadEnding
  outcome : CondSet
  deriving DecidableEq, Repr

/-- An entry of the Transfer Context Table. -/
inductive Context where
  | free
  | write (w : WriteContext)
  | read (r : ReadContext)
  deriving DecidableEq, Repr

/-! ### Media Port and Arbiter (R138, R145) -/

/-- The three media commands (R136). -/
inductive MediaKind where
  | mwrite | mread | merase
  deriving DecidableEq, Repr

/-- A media command: its kind, volume, segment, offset and count; an MERASE has offset and count 0. -/
structure MediaCommand where
  kind : MediaKind
  volume : Nat
  segment : Nat
  offset : Nat
  count : Nat
  deriving DecidableEq, Repr

/-- The four classes of work (R145). -/
inductive MediaClass where
  | write | read | erase | verify
  deriving DecidableEq, Repr

/-- The block entry that takes an answer (R138): an entry of a write or read context, an entry of the erase queue,
or a media read of the Active scan. Which entry of that block it is, the media tag and the command say. -/
inductive Owner where
  | write (context : Nat)
  | read (context : Nat)
  | erase
  | scan
  deriving DecidableEq, Repr

/-- A request for a tag slot (R145). -/
structure Request where
  command : MediaCommand
  owner : Owner
  deriving DecidableEq, Repr

/-- A tag slot (R138). -/
inductive Slot where
  | free
  | busy (command : MediaCommand) (cls : MediaClass) (owner : Option Owner) (timer : Nat)
  | busyLate
  deriving DecidableEq, Repr

/-- The Media Arbiter's queues and the class granted last (R145). -/
structure Arbiter where
  write : List Request
  read : List Request
  erase : List Request
  verify : List Request
  last : MediaClass
  deriving DecidableEq, Repr

/-- The Arbiter at start-up (R145). -/
def Arbiter.start : Arbiter := { write := [], read := [], erase := [], verify := [], last := .verify }

/-! ### Fault Record File (R147) -/

/-- The state of a record in use. -/
inductive RecordState where
  | held | reissuing
  deriving DecidableEq, Repr

/-- The kind of a media failure of a write (R147). -/
inductive FaultKind where
  | writeFault | writeTimeout | linkReset
  deriving DecidableEq, Repr

/-- The state a context returns to after a successful reissue (R147). -/
inductive Continuation where
  | resumeStreaming | resumeDraining
  deriving DecidableEq, Repr

/-- A pending write that a record holds, with its place in the Write Buffer (R147, R83). -/
structure RecordWrite where
  segment : Nat
  offset : Nat
  count : Nat
  needsReissue : Bool
  data : List Byte
  deriving DecidableEq, Repr

/-- The place a settled record names: volume, segment and fault offset (R147). -/
structure FaultPlace where
  volume : Nat
  segment : Nat
  offset : Nat
  deriving DecidableEq, Repr

/-- A fault record in use (R147). -/
structure FaultRecord where
  state : RecordState
  settled : Bool
  context : Nat
  initiator : Nat
  tag : Nat
  place : Option FaultPlace
  kind : FaultKind
  writes : List RecordWrite
  continuation : Continuation
  reissues : Nat
  created : Nat
  resumer : Option (Nat × Nat)
  deriving DecidableEq, Repr

/-! ### Holds, Sweeper, erase queue (R114, R126, R131) -/

/-- The state of a hold in use with the fields it brings (R114, R115). -/
inductive HoldPhase where
  | placing (front : Nat)
  | active
  | releasing (front raisedTo : Nat)
  deriving DecidableEq, Repr

/-- A hold in use (R114). -/
structure Hold where
  phase : HoldPhase
  reference : Nat
  volume : Nat
  first : Nat
  last : Nat
  filter : Option Nat
  placed : Nat
  deriving DecidableEq, Repr

/-- The Sweeper's state with its cursor (R126). -/
inductive SweepState where
  | idle
  | passing (volume segment : Nat)
  /-- Passing, with a cursor whose segment was removed under it by SET VOLUME: the next visit moves it to the volume
  above (R129; log 39). -/
  | leaving (volume : Nat)
  deriving DecidableEq, Repr

/-- The Expiry Sweeper (R126). -/
structure Sweeper where
  state : SweepState
  passAgain : Bool
  deriving DecidableEq, Repr

/-- An entry of the erase queue (R131). -/
structure EraseEntry where
  volume : Nat
  segment : Nat
  requester : Option (Nat × Nat)
  mediaTag : Option Nat
  progress : Progress
  deriving DecidableEq, Repr

/-! ### Verify Engine (R159) -/

/-- Why a scan stopped (R159). -/
inductive StopCause where
  | mismatch | mediaFault | cancel | linkReset
  deriving DecidableEq, Repr

/-- The state of a descriptor that is not Empty (R159). -/
inductive ScanPhase where
  | loaded
  | running
  | done
  | stopped (cause : StopCause)
  deriving DecidableEq, Repr

/-- An entry of a range list (R159). -/
structure ScanRange where
  volume : Nat
  first : Nat
  count : Nat
  deriving DecidableEq, Repr

/-- A cursor: an entry, from 1, and a real segment number (R159). -/
structure ScanCursor where
  entry : Nat
  segment : Nat
  deriving DecidableEq, Repr

/-- A segment read: its read end and its running fold (R166). -/
structure SegmentRead where
  readEnd : Nat
  foldA : Nat
  foldB : Nat
  deriving DecidableEq, Repr

/-- A scan descriptor that is not Empty (R159). -/
structure Scan where
  phase : ScanPhase
  ranges : List ScanRange
  scanThrough : Bool
  cursor : Option ScanCursor
  examined : Nat
  mismatched : Nat
  skipped : Nat
  segmentRead : Option SegmentRead
  list : List ReadEntry
  cancelRequested : Bool
  outcome : CondSet
  deriving DecidableEq, Repr

/-! ### Condition Unit (R174 to R179) and Control Unit (R112, R113) -/

/-- A notice cause (R178). -/
inductive Cause where
  | groupSet (group : Group) (cond : Cond) (op : Operation)
  | faultRecord (number : Nat)
  | scanEnd (phase : ScanPhase)
  deriving DecidableEq, Repr

/-- The Last Outcome record when it is not empty (R174). -/
structure LastOutcome where
  op : Operation
  outcome : CondSet
  time : Nat
  deriving DecidableEq, Repr

/-- The Condition Unit. `causes` is the model's own scratch list: the notice causes of the step in hand, empty
between steps (R178). -/
structure Conditions where
  accrued : CondSet
  last : Option LastOutcome
  noticeNumber : Nat
  noticeInitiator : Nat
  enables : GroupSet
  causes : List Cause
  deriving DecidableEq, Repr

/-- An entry of a collection's reply (R113). -/
structure ActivityEntry where
  segment : Nat
  readSince : Bool
  writtenSince : Bool
  deriving DecidableEq, Repr

/-- An unfinished collection (R113). -/
structure Collection where
  initiator : Nat
  tag : Nat
  volume : Nat
  nextSegment : Nat
  entries : List ActivityEntry
  deriving DecidableEq, Repr

/-! ### Stops and the whole state -/

/-- What stops the engine with a fault: nothing. Every failure the manual names (a failed check word, a media
fault, a timeout) is an effect on the state, so no meaning raises a fault and the type has no constructor. -/
inductive Fault
  deriving DecidableEq, Repr

/-- The refusals of a step. -/
inductive Refusal where
  /-- A command that has no meaning yet, by its mnemonic. Only an arm of exec raises it; no arm does now. Safe: the
  model stops where the engine goes on. -/
  | notModelled (mnemonic : String)
  deriving DecidableEq, Repr

/-- The engine's state. -/
structure State where
  /-- Main power is present (R34). -/
  mainPower : Bool
  /-- The backup supply holds (R34; log 7). -/
  backupSupply : Bool
  /-- The reset line is held (R182). -/
  resetHeld : Bool
  /-- The Ingest Link (R182). -/
  ingestLink : LinkState
  /-- The Media Link (R137). -/
  mediaLink : LinkState
  /-- The frame check state of the Ingest Port (R188). -/
  ingestCheck : FrameCheck
  /-- The frame check state of the Media Port (R188). -/
  mediaCheck : FrameCheck
  /-- The model's own view of the Ingest Link's output: the bytes of the frame sent last (R184, R186). -/
  ingestOut : List Byte
  /-- The model's own view of the Media Link's output: the bytes of the command sent last (R139, R190). -/
  mediaOut : List Byte
  /-- The receive queue, oldest first (R183). -/
  rxQueue : List RxFrame
  /-- The transmit queue, oldest first (R184). -/
  txQueue : List Frame
  /-- The Initiator Table (R50). -/
  initiators : Vector InitiatorEntry 32
  /-- The volumes 1 to 4 of the Retention Map, volume v at index v − 1 (R1). -/
  volumes : Vector Volume 4
  /-- The Class Table; none is Undefined (R39). -/
  classes : Vector (Option ClassEntry) 64
  /-- The Compliance Clock (R29). -/
  clock : Clock
  /-- The Transfer Context Table (R76). -/
  contexts : Vector Context 32
  /-- The 16 tag slots (R138). -/
  slots : Vector Slot 16
  /-- The Media Arbiter (R145). -/
  arbiter : Arbiter
  /-- The Fault Record File, record n at index n − 1; none is Free (R147). -/
  records : Vector (Option FaultRecord) 4
  /-- The Hold Table, slot n at index n − 1; none is Free (R114). -/
  holds : Vector (Option Hold) 64
  /-- The walk queue, head first (R119). -/
  walkQueue : List Nat
  /-- The Expiry Sweeper (R126). -/
  sweeper : Sweeper
  /-- The erase queue, oldest first (R131). -/
  eraseQueue : List EraseEntry
  /-- The Active scan descriptor; none is Empty (R159). -/
  scanActive : Option Scan
  /-- The Queued scan descriptor; none is Empty (R159). -/
  scanQueued : Option Scan
  /-- The Condition Unit (R174 to R179). -/
  conditions : Conditions
  /-- The unfinished collection of the Control Unit (R113, R193). -/
  collection : Option Collection
  /-- The idle time, in seconds (R195). -/
  idleTime : Nat
  /-- The media timeout, in seconds (R195). -/
  mediaTimeout : Nat
  /-- The commands that are waiting, first in first out. -/
  pending : List Instr
  deriving DecidableEq, Repr

/-- The engine after reset: a part that has never been powered before, right after its first power-on (R1, R29, R40,
R51, R100, R109, R114, R126, R137, R138, R145, R147, R159, R177, R181, R182, R195, R197). The clock is Unset, so the
start-up operation has raised CLOCK_UNSET (R32, R181); every notice enable is no, so it made no notice. -/
def State.reset : State :=
  { mainPower := true
    backupSupply := true
    resetHeld := false
    ingestLink := .lost
    mediaLink := .lost
    ingestCheck := FrameCheck.cleared
    mediaCheck := FrameCheck.cleared
    ingestOut := []
    mediaOut := []
    rxQueue := []
    txQueue := []
    initiators := (Vector.replicate 32 InitiatorEntry.absent).setIfInBounds 0 InitiatorEntry.first
    volumes := Vector.replicate 4 Volume.absent
    classes := ((Vector.replicate 64 none).setIfInBounds 0 (some ClassEntry.start)).setIfInBounds 1
      (some ClassEntry.start)
    clock := { value := 0, state := .unset, backupValid := false, mark := 0 }
    contexts := Vector.replicate 32 .free
    slots := Vector.replicate 16 .free
    arbiter := Arbiter.start
    records := Vector.replicate 4 none
    holds := Vector.replicate 64 none
    walkQueue := []
    sweeper := { state := .idle, passAgain := true }
    eraseQueue := []
    scanActive := none
    scanQueued := none
    conditions :=
      { accrued := 131072#18
        last := some
          { op := { initiator := none, tag := none, kind := .startUp }, outcome := 131072#18, time := 0 }
        noticeNumber := 0
        noticeInitiator := 0
        enables := 0#5
        causes := [] }
    collection := none
    idleTime := 30
    mediaTimeout := 5
    pending := [] }

end Sys2Proof.Machine
end

