-- ==== Sys2Proof/Machine/Operands.lean ====
section
/-! DEFINITION. The operands: the layout of frames (R186), the carriage of values in payload words (R187), the check
word (R188), the form of a frame (R189), and the parameters of control requests (section 10.4). -/

namespace Sys2Proof.Machine

/-! ### Numbers of named values (R186, R187) -/

/-- The number of a refusal code (R186). -/
def Code.number : Code → Nat
  | .unknownInitiator => 1
  | .suspended => 2
  | .notDisposer => 3
  | .notOfficer => 4
  | .noVolume => 5
  | .outOfRange => 6
  | .labelDenied => 7
  | .readOnly => 8
  | .inhibitDenied => 9
  | .keyDenied => 10
  | .stateDenied => 11
  | .notExpired => 12
  | .classMismatch => 13
  | .classUndefined => 14
  | .segmentBusy => 15
  | .clockUnset => 16
  | .held => 17
  | .countLong => 18
  | .spanBlocked => 19
  | .tagInUse => 20
  | .busy => 21
  | .format => 22
  | .lowering => 23
  | .tableFull => 24
  | .eraseInProgress => 25
  | .limit => 26
  | .eraseFailed => 27
  | .overrun => 28
  | .transferIdle => 29
  | .faultLost => 30
  | .mediaFault => 31

/-- The number of a status (R186). -/
def Status.number : Status → Nat
  | .done => 1
  | .short => 2
  | .faulted => 3
  | .refused => 4
  | .clamped => 5
  | .unchanged => 6

/-- The number of a condition, from 0 at KEY_DENIED in the order of section 9.1 (R187). -/
def Cond.number : Cond → Nat
  | .keyDenied => 0
  | .wormDenied => 1
  | .inhibitDenied => 2
  | .labelDenied => 3
  | .countLong => 4
  | .countShort => 5
  | .overrun => 6
  | .frameCheck => 7
  | .transferIdle => 8
  | .mediaFault => 9
  | .mediaSoft => 10
  | .mediaLate => 11
  | .eraseFailed => 12
  | .digestMismatch => 13
  | .faultLost => 14
  | .faultDiscarded => 15
  | .clockClamped => 16
  | .clockUnset => 17

/-- The number of a group (R187). -/
def Group.number : Group → Nat
  | .protection => 0
  | .transfer => 1
  | .media => 2
  | .integrity => 3
  | .clock => 4

/-- The word of an operation kind (R187). -/
def OpKind.word : OpKind → Nat
  | .beginTransfer => 1
  | .readTransfer => 4
  | .eraseSegment => 5
  | .control request => 32 + request
  | .scan => 64
  | .clock => 65
  | .media => 66
  | .frame => 67
  | .startUp => 68

/-- The number of a segment state (R187). -/
def SegmentState.number : SegmentState → Nat
  | .blank => 0
  | .opened => 1
  | .closed => 2
  | .expired => 3
  | .erasing => 4

/-- The number of a volume state (R187, R2). -/
def VolumeState.number : VolumeState → Nat
  | .absent => 0
  | .online => 1
  | .readOnly => 2

/-- The number of an initiator state (R187, R50). -/
def InitiatorState.number : InitiatorState → Nat
  | .absent => 0
  | .enabled => 1
  | .suspended => 2

/-- The number of a clock state (R187, R29). -/
def ClockState.number : ClockState → Nat
  | .running => 0
  | .unset => 1

/-- The number of a fault kind (R187, R147). -/
def FaultKind.number : FaultKind → Nat
  | .writeFault => 0
  | .writeTimeout => 1
  | .linkReset => 2

/-- The number of a continuation (R187, R147). -/
def Continuation.number : Continuation → Nat
  | .resumeStreaming => 0
  | .resumeDraining => 1

/-- The number of the state of a record in use; Free is 0 (R187, R147). -/
def RecordState.number : RecordState → Nat
  | .held => 1
  | .reissuing => 2

/-- The number of the state of a hold in use; Free is 0 (R187, R114). -/
def HoldPhase.number : HoldPhase → Nat
  | .placing _ => 1
  | .active => 2
  | .releasing _ _ => 3

/-- The number of a stop cause (R187, R159). -/
def StopCause.number : StopCause → Nat
  | .mismatch => 0
  | .mediaFault => 1
  | .cancel => 2
  | .linkReset => 3

/-- The number of the state of a descriptor that is not Empty; Empty is 0 (R187, R159). -/
def ScanPhase.number : ScanPhase → Nat
  | .loaded => 1
  | .running => 2
  | .done => 3
  | .stopped _ => 4

/-- The stop cause of a state, present when Stopped (R159). -/
def ScanPhase.cause : ScanPhase → Option StopCause
  | .stopped cause => some cause
  | .loaded => none
  | .running => none
  | .done => none

/-! ### Words and bytes (R187) -/

/-- A 32-bit word as four bytes, most significant first (R187). -/
def wordBytes (w : Nat) : List Byte :=
  [BitVec.ofNat 8 (w / 16777216), BitVec.ofNat 8 (w / 65536), BitVec.ofNat 8 (w / 256), BitVec.ofNat 8 w]

/-- A payload of words as bytes (R187). -/
def wordsBytes (ws : List Nat) : List Byte := ws.flatMap wordBytes

/-- Four bytes as a word, the first most significant (R48, R187). -/
def byteWord (a b c d : Byte) : Nat := ((a.toNat * 256 + b.toNat) * 256 + c.toNat) * 256 + d.toNat

/-- The words of a run of bytes, in order (R48, R187). -/
def payloadWords : List Byte → List Nat
  | a :: b :: c :: d :: rest => byteWord a b c d :: payloadWords rest
  | _ => []

/-- A two-byte header field, most significant byte first (R186). -/
def halfBytes (n : Nat) : List Byte := [BitVec.ofNat 8 (n / 256), BitVec.ofNat 8 n]

/-- An optional value in a word (R187). -/
def optionWord (v : Option Nat) : Nat := v.getD Config.absentWord

/-- A yes/no value in a word (R187). -/
def flagWord (b : Bool) : Nat := if b then 1 else 0

/-- A word read as an optional value (R187). -/
def wordOption (w : Nat) : Option Nat := if w = Config.absentWord then none else some w

/-- A word read as a signed adjustment (section 10.4, ADJUST CLOCK). -/
def signedWord (w : Nat) : Int := if w < 2147483648 then (w : Int) else (w : Int) - 4294967296

/-! ### The check word (R188) -/

/-- One bit of the check word: the register shifts one place toward its least significant end, and is combined with
the polynomial when its least significant bit differed from the data bit (R188). -/
def checkBit (register : BitVec 32) (bit : Bool) : BitVec 32 :=
  if register.getLsbD 0 != bit then (register >>> 1) ^^^ Config.checkPolynomial else register >>> 1

/-- One byte of the check word, its bits taken least significant first (R188). -/
def checkByte (register : BitVec 32) (b : Byte) : BitVec 32 :=
  [0, 1, 2, 3, 4, 5, 6, 7].foldl (fun r i => checkBit r (b.getLsbD i)) register

/-- The register after a run of bytes (R188). -/
def checkRegister (bytes : List Byte) : BitVec 32 := bytes.foldl checkByte FrameCheck.cleared.register

/-- The check word of a run of bytes: the register inverted (R188). -/
def checkWord (bytes : List Byte) : Nat := (~~~ checkRegister bytes).toNat

/-- The frame check state after a run of bytes (R188). -/
def checkState (bytes : List Byte) : FrameCheck := { register := checkRegister bytes, count := bytes.length }

/-- An arriving frame without its check word (R188). -/
def checkedBody (bytes : List Byte) : List Byte := bytes.take (bytes.length - 4)

/-- A receiver compares the check word it computes with the four bytes that end the frame (R188). A run of fewer than
four bytes holds no check word, and fails (log 49). -/
def checkPasses (bytes : List Byte) : Bool :=
  decide (4 ≤ bytes.length) &&
    (bytes.drop (bytes.length - 4) == wordBytes (checkWord (checkedBody bytes)))

/-! ### Frame layout (R186, R190) -/

/-- The header of sixteen bytes (R186). -/
def Frame.header (f : Frame) : List Byte :=
  [BitVec.ofNat 8 f.kind, BitVec.ofNat 8 f.initiator, BitVec.ofNat 8 f.tag, BitVec.ofNat 8 f.flags,
   BitVec.ofNat 8 f.volume, BitVec.ofNat 8 f.cls, BitVec.ofNat 8 f.status, BitVec.ofNat 8 f.code] ++
  halfBytes f.segment ++ halfBytes f.offset ++ halfBytes f.count ++ halfBytes f.payloadLength

/-- The bytes of a frame before its check word (R186). -/
def Frame.body (f : Frame) : List Byte := f.header ++ f.payload

/-- The bytes of a frame as sent: header, payload, check word (R186, R188). -/
def Frame.wire (f : Frame) : List Byte := f.body ++ wordBytes (checkWord f.body)

/-- The frame of a run of bytes without its check word; none when they do not hold a header (R186). -/
def Frame.ofBody : List Byte → Option Frame
  | k :: i :: t :: fl :: v :: c :: st :: co :: s1 :: s0 :: o1 :: o0 :: n1 :: n0 :: l1 :: l0 :: rest =>
    some
      { kind := k.toNat, initiator := i.toNat, tag := t.toNat, flags := fl.toNat, volume := v.toNat,
        cls := c.toNat, status := st.toNat, code := co.toNat, segment := s1.toNat * 256 + s0.toNat,
        offset := o1.toNat * 256 + o0.toNat, count := n1.toNat * 256 + n0.toNat,
        payloadLength := l1.toNat * 256 + l0.toNat, payload := rest }
  | _ => none

/-- What joins the receive queue (R183): the frame, or the mark of one too short to hold a header. -/
def rxFrameOf (bytes : List Byte) : RxFrame :=
  match Frame.ofBody (checkedBody bytes) with
  | some f => .whole f
  | none => .cutShort

/-- A frame with the header fields 0 and no payload, of a kind, for an initiator, with a tag and a volume. -/
def Frame.blank (kind initiator tag volume : Nat) : Frame :=
  { kind := kind, initiator := initiator, tag := tag, flags := 0, volume := volume, cls := 0, status := 0,
    code := 0, segment := 0, offset := 0, count := 0, payloadLength := 0, payload := [] }

/-- A frame with a payload of bytes. -/
def Frame.withPayload (f : Frame) (bytes : List Byte) : Frame :=
  { f with payloadLength := bytes.length, payload := bytes }

/-- The span flag of a frame (R186). -/
def Frame.spanFlag (f : Frame) : Bool := f.flags.testBit 0

/-- The close-at-end flag of a frame (R186). -/
def Frame.closeFlag (f : Frame) : Bool := f.flags.testBit 1

/-- The parameter words of a CONTROL frame (section 10.4). -/
def Frame.params (f : Frame) : List Nat := payloadWords f.payload

/-- Parameter word n of a CONTROL frame, from 0. -/
def Frame.param (f : Frame) (n : Nat) : Nat := f.params.getD n 0

/-! ### The form of a frame (R189) -/

/-- The number of parameter words of a request other than LOAD SCAN (section 10.4). -/
def catalogueWords : Nat → Nat
  | 1 => 3
  | 2 => 9
  | 3 => 8
  | 4 => 5
  | 5 => 4
  | 6 => 5
  | 7 => 1
  | 8 => 3
  | 9 => 3
  | 10 => 2
  | 11 => 2
  | 12 => 1
  | 15 => 1
  | 17 => 2
  | 18 => 2
  | 19 => 1
  | 20 => 2
  | 21 => 2
  | _ => 0

/-- The payload length of a CONTROL frame agrees with the catalogue; a LOAD SCAN's agrees with its own entry count
(section 10.4). -/
def Frame.lengthAgrees (f : Frame) : Bool :=
  if f.code = 14 then decide (8 ≤ f.payloadLength) && decide (f.payloadLength = 8 + 12 * f.param 1)
  else decide (f.payloadLength = 4 * catalogueWords f.code)

/-- A frame is of good form when none of the cases of R189 holds. -/
def Frame.goodForm (f : Frame) : Bool :=
  decide (f.payloadLength % 4 = 0) && decide (f.payloadLength = f.payload.length) &&
  (match f.kind with
   | 1 => decide (f.payloadLength = 0)
   | 2 => decide (1 ≤ f.count) && decide (f.count ≤ 8) && decide (f.payloadLength = f.count * Config.blockBytes)
   | 3 => decide (f.payloadLength = 0)
   | 4 => decide (f.payloadLength = 0)
   | 5 => decide (f.payloadLength = 0)
   | 6 => decide (f.volume = 0) && decide (1 ≤ f.code) && decide (f.code ≤ 22) && f.lengthAgrees
   | _ => false)

/-! ### Data of blocks -/

/-- The first n blocks of a run of bytes (R187). -/
def takeBlocks (n : Nat) (bytes : List Byte) : List Byte := bytes.take (n * Config.blockBytes)

/-- A run of bytes without its first n blocks (R187). -/
def dropBlocks (n : Nat) (bytes : List Byte) : List Byte := bytes.drop (n * Config.blockBytes)

/-- An MDATA holds count whole blocks (R190). -/
def Frame.holdsBlocks (f : Frame) (n : Nat) : Bool :=
  decide (f.count = n) && decide (f.payloadLength = n * Config.blockBytes) &&
    decide (f.payload.length = n * Config.blockBytes)

/-! ### The content fold (R47, R48) -/

/-- One word of the fold (R47). -/
def foldWord (fold : Nat × Nat) (w : Nat) : Nat × Nat :=
  ((fold.1 + w) % Config.foldModulus, (fold.2 + (fold.1 + w) % Config.foldModulus) % Config.foldModulus)

/-- The fold of a run of words from a running pair (R47). -/
def foldWords (fold : Nat × Nat) (ws : List Nat) : Nat × Nat := ws.foldl foldWord fold

/-- The fold of a run of bytes, taken as words in order (R48). -/
def foldBytes (fold : Nat × Nat) (bytes : List Byte) : Nat × Nat := foldWords fold (payloadWords bytes)

end Sys2Proof.Machine
end

