-- ==== Sys2Proof/Machine/Ops.lean ====
section
/-! DEFINITION. The named operations over the tables: the sparse segment table, the fixed tables, the clock, the
Retention Map with its state counts, coverage, the transmit queue, the tag slots and the Arbiter's queues. -/

namespace Sys2Proof.Machine

/-! ### The sparse table of segments -/

/-- The value at a number: the entry listed for it, else the value of an unlisted number. -/
def Sparse.get (d : Segment) : List (Nat × Segment) → Nat → Segment
  | [], _ => d
  | e :: rest, n => if n < e.1 then d else if n = e.1 then e.2 else Sparse.get d rest n

/-- The table with the value at a number changed; a value equal to the unlisted one is not listed. -/
def Sparse.set (d : Segment) : List (Nat × Segment) → Nat → Segment → List (Nat × Segment)
  | [], n, x => if x = d then [] else [(n, x)]
  | e :: rest, n, x =>
    if n < e.1 then (if x = d then e :: rest else (n, x) :: e :: rest)
    else if n = e.1 then (if x = d then rest else (n, x) :: rest)
    else e :: Sparse.set d rest n x

/-- The table with every listed value changed by f, less those that become the unlisted value. -/
def Sparse.map (d : Segment) (f : Segment → Segment) (l : List (Nat × Segment)) : List (Nat × Segment) :=
  (l.map (fun e => (e.1, f e.2))).filter (fun e => !decide (e.2 = d))

/-- The table without the numbers from n up. -/
def Sparse.below (n : Nat) (l : List (Nat × Segment)) : List (Nat × Segment) := l.filter (fun e => decide (e.1 < n))

/-- Every number of the table is above b, they rise strictly, and no entry equals the unlisted value. -/
def Sparse.wfAbove (d : Segment) : Nat → List (Nat × Segment) → Bool
  | _, [] => true
  | b, e :: rest => decide (b ≤ e.1) && !decide (e.2 = d) && Sparse.wfAbove d (e.1 + 1) rest

/-- The canonical form: numbers strictly rising, no entry equal to the unlisted value. -/
def Sparse.wf (d : Segment) (l : List (Nat × Segment)) : Bool := Sparse.wfAbove d 0 l

/-! ### Fixed tables -/

/-- The entry of a table numbered from 0; d outside it. -/
def Table.get {α : Type} {n : Nat} (d : α) (t : Vector α n) (i : Nat) : α := (t[i]?).getD d

/-- A table numbered from 0 with one entry changed; the table itself outside it. -/
def Table.set {α : Type} {n : Nat} (t : Vector α n) (i : Nat) (x : α) : Vector α n := t.setIfInBounds i x

/-- The entry of a table numbered from 1; d outside it. -/
def Table.get1 {α : Type} {n : Nat} (d : α) (t : Vector α n) (i : Nat) : α :=
  if i = 0 then d else Table.get d t (i - 1)

/-- A table numbered from 1 with one entry changed; the table itself outside it. -/
def Table.set1 {α : Type} {n : Nat} (t : Vector α n) (i : Nat) (x : α) : Vector α n :=
  if i = 0 then t else Table.set t (i - 1) x

/-- The entry of an initiator; a number outside the table has no entry and reads as Absent (log 14). -/
def State.initiator (s : State) (i : Nat) : InitiatorEntry := Table.get InitiatorEntry.absent s.initiators i

/-- The volume of a number; a number outside 1 to 4 reads as Absent. -/
def State.volume (s : State) (v : Nat) : Volume := Table.get1 Volume.absent s.volumes v

/-- The state with a volume changed. -/
def State.setVolume (s : State) (v : Nat) (x : Volume) : State := { s with volumes := Table.set1 s.volumes v x }

/-- The class entry of a number; none is Undefined. -/
def State.classEntry (s : State) (c : Nat) : Option ClassEntry := Table.get none s.classes c

/-- The context of a number. -/
def State.context (s : State) (c : Nat) : Context := Table.get .free s.contexts c

/-- The state with a context changed. -/
def State.setContext (s : State) (c : Nat) (x : Context) : State := { s with contexts := Table.set s.contexts c x }

/-- The tag slot of a number. -/
def State.slot (s : State) (t : Nat) : Slot := Table.get .free s.slots t

/-- The state with a tag slot changed. -/
def State.setSlot (s : State) (t : Nat) (x : Slot) : State := { s with slots := Table.set s.slots t x }

/-- The fault record of a number; none is Free. -/
def State.record (s : State) (r : Nat) : Option FaultRecord := Table.get1 none s.records r

/-- The state with a fault record changed. -/
def State.setRecord (s : State) (r : Nat) (x : Option FaultRecord) : State :=
  { s with records := Table.set1 s.records r x }

/-- The hold of a slot; none is Free. -/
def State.hold (s : State) (h : Nat) : Option Hold := Table.get1 none s.holds h

/-- The state with a hold slot changed. -/
def State.setHold (s : State) (h : Nat) (x : Option Hold) : State := { s with holds := Table.set1 s.holds h x }

/-! ### The clock -/

/-- The time the clock gives: its value while Running, the close high-water mark while Unset (R29, R33). -/
def Clock.now (c : Clock) : Nat :=
  match c.state with
  | .running => c.value
  | .unset => c.mark

/-- The day of a time (00_scope, Time). -/
def dayOf (t : Nat) : Nat := t / Config.daySeconds

/-- The second of a time within its day (00_scope, Time). -/
def secondOf (t : Nat) : Nat := t % Config.daySeconds

/-- The time the clock gives. -/
def State.now (s : State) : Nat := s.clock.now

/-- The clock's current day. -/
def State.today (s : State) : Nat := dayOf s.now

/-- The clock is Running. -/
def State.running (s : State) : Bool := decide (s.clock.state = .running)

/-- A rollover signalled to the Sweeper sets its pass-again flag (R127). -/
def State.rollover (s : State) : State := { s with sweeper := { s.sweeper with passAgain := true } }

/-! ### Periods and expiry (R43, R44) -/

/-- A period in days (R43). -/
def Period.inDays (p : Period) : Nat := ceilDiv (p.months * 487) 16 + p.days

/-- A sum of days, saturated to Permanent above 1,048,574 (R44). -/
def saturateDay (d : Nat) : Nat := if d > 1048574 then Config.permanentDay else d

/-- The expiry day R44 gives for a class entry, a close day and a trigger day. -/
def ClassEntry.expiry (e : ClassEntry) (closeDay : Nat) (triggerDay : Option Nat) : Option Nat :=
  if e.permanent then some Config.permanentDay
  else
    let base := saturateDay (closeDay + e.base.inDays + 1)
    if e.triggered then
      match triggerDay with
      | some t => some (max base (saturateDay (t + (e.post.getD { months := 0, days := 0 }).inDays + 1)))
      | none => none
    else some base

/-- The expiry day of a segment that closes on a day (R44). A segment without a Defined class has none. -/
def State.expiryAt (s : State) (g : Segment) (closeDay : Nat) : Option Nat :=
  match g.cls with
  | some c =>
    match s.classEntry c with
    | some e => e.expiry closeDay g.triggerDay
    | none => none
  | none => none

/-! ### The Retention Map -/

/-- The segment exists: its volume is not Absent and its number is below the count (R1). -/
def State.segmentExists (s : State) (v n : Nat) : Bool :=
  !decide ((s.volume v).state = .absent) && decide (n < (s.volume v).count)

/-- The segment descriptor of a number (R1, R7). -/
def State.segment (s : State) (v n : Nat) : Segment := Sparse.get Segment.fresh (s.volume v).segments n

/-- The count of a state (R3). -/
def StateCounts.get (c : StateCounts) : SegmentState → Nat
  | .blank => c.blank
  | .opened => c.opened
  | .closed => c.closed
  | .expired => c.expired
  | .erasing => c.erasing

/-- The counts with that of a state changed. -/
def StateCounts.set (c : StateCounts) (st : SegmentState) (n : Nat) : StateCounts :=
  match st with
  | .blank => { c with blank := n }
  | .opened => { c with opened := n }
  | .closed => { c with closed := n }
  | .expired => { c with expired := n }
  | .erasing => { c with erasing := n }

/-- The sum of the five counts (R23). -/
def StateCounts.total (c : StateCounts) : Nat := c.blank + c.opened + c.closed + c.expired + c.erasing

/-- The counts after a transition: that of the state left falls by one, that of the state entered rises by one; a
change that keeps the state keeps the counts (R23). -/
def StateCounts.move (c : StateCounts) (old new : SegmentState) : StateCounts :=
  if old = new then c
  else
    let c := c.set old (c.get old - 1)
    c.set new (c.get new + 1)

/-- Writes a segment descriptor, moving the state counts in the same step (R23). A segment that does not exist has no
descriptor to write (R1; log 44). -/
def State.putSegment (s : State) (v n : Nat) (g : Segment) : State :=
  let x := s.volume v
  { s with
    volumes :=
      if n < x.count then
        Table.set1 s.volumes v
          { x with
            counts := x.counts.move (s.segment v n).state g.state
            segments := Sparse.set Segment.fresh x.segments n g }
      else s.volumes }

/-- The zone of a segment (R4). -/
def zoneOf (n : Nat) : Nat := n / Config.zoneSegments

/-- The zone descriptor of a segment's zone. -/
def State.zone (s : State) (v z : Nat) : Zone := (s.volume v).zones.getD z Zone.fresh

/-- The number of zones of a volume of a count (R4). -/
def zoneCount (count : Nat) : Nat := ceilDiv count Config.zoneSegments

/-- The effective write-inhibit of a segment (R5). -/
def State.inhibited (s : State) (v n : Nat) : Bool :=
  (s.volume v).writeInhibit || (s.zone v (zoneOf n)).writeInhibit

/-- A segment of a class other than 0 and 1 closes by R14, R15 and R16; classes 0 and 1 stay Open. -/
def closesByItself (cls : Option Nat) : Bool := !decide (cls = some 0) && !decide (cls = some 1)

/-- The descriptor of a segment closed at a time (R13). -/
def State.closedSegment (s : State) (g : Segment) : Segment :=
  { g with state := .closed, closeTime := some s.now, expiry := s.expiryAt g s.today, writer := none }

/-- Closes an Open segment: its descriptor by R13 with a change g' on top, and the close high-water mark raised to the
close time (R38). A segment in another state does not close (R13). -/
def State.closeSegment (s : State) (v n : Nat) (g' : Segment → Segment) : State :=
  if (s.segment v n).state = .opened then
    let s' := s.putSegment v n (g' (s.closedSegment (s.segment v n)))
    { s' with clock := { s'.clock with mark := max s.clock.mark s.now } }
  else s

/-- Clears the writer of a segment when it names a context (R12). -/
def State.clearWriter (s : State) (v n c : Nat) : State :=
  let g := s.segment v n
  if g.writer = some c then s.putSegment v n { g with writer := none } else s

/-! ### Holds and coverage (R11, R24) -/

/-- The scope of a hold contains a segment of a class (R11). A Blank segment has no class (R24). -/
def Hold.covers (h : Hold) (v n : Nat) (cls : Option Nat) : Bool :=
  decide (h.volume = v) && decide (h.first ≤ n) && decide (n ≤ h.last) &&
    (decide (h.filter = none) || decide (h.filter = cls)) && !decide (cls = some 0)

/-- The hold is Placing or Releasing. -/
def Hold.walking (h : Hold) : Bool :=
  match h.phase with
  | .placing _ => true
  | .active => false
  | .releasing _ _ => true

/-- The hold has raised, or by now would have raised, the count of a segment of its scope (R11). -/
def Hold.counts (h : Hold) (n : Nat) : Bool :=
  match h.phase with
  | .placing front => decide (n < front)
  | .active => true
  | .releasing front raisedTo => decide (front ≤ n) && decide (n < raisedTo)

/-- The holds that are not Free. -/
def State.holdList (s : State) : List Hold := s.holds.toList.filterMap id

/-- The hold count a segment of a class takes when it opens (R11). -/
def State.holdCountAt (s : State) (v n : Nat) (cls : Nat) : Nat :=
  (s.holdList.filter (fun h => h.covers v n (some cls) && h.counts n)).length

/-- The segment is covered (R24). -/
def State.covered (s : State) (v n : Nat) : Bool :=
  decide (0 < (s.segment v n).holdCount) ||
    s.holdList.any (fun h => h.walking && h.covers v n (s.segment v n).cls)

/-! ### The transmit queue (R184) -/

/-- The entry of an initiator is not Absent. -/
def State.present (s : State) (i : Nat) : Bool := !decide ((s.initiator i).state = .absent)

/-- There is room in the transmit queue (R184). -/
def State.txRoom (s : State) : Bool := decide (s.txQueue.length < Config.transmitLimit)

/-- Places a frame at the tail of the transmit queue. -/
def State.enqueue (s : State) (f : Frame) : State := { s with txQueue := s.txQueue ++ [f] }

/-- Places a REPLY, CREDIT or RDATA frame when the link is Ready, the receiver is not Absent and there is room; it is
discarded otherwise (R184). -/
def State.send (s : State) (f : Frame) : State :=
  if s.ingestLink = .ready && s.present f.initiator && s.txRoom then s.enqueue f else s

/-- Places a refusal of check 1, which an Absent initiator receives too (R54, R184). -/
def State.sendAnyway (s : State) (f : Frame) : State :=
  if s.ingestLink = .ready && s.txRoom then s.enqueue f else s

/-- Places a NOTICE, which waits in the queue while the link is Lost (R184). -/
def State.sendNotice (s : State) (f : Frame) : State :=
  if s.present f.initiator && s.txRoom then s.enqueue f else s

/-! ### Replies (R73, R191, R192, R193) -/

/-- A REPLY of a status. -/
def replyFrame (initiator tag volume : Nat) (status : Status) : Frame :=
  { Frame.blank 7 initiator tag volume with status := status.number }

/-- The REFUSED reply of R73: disposition 0 Suppressed, 1 Terminated. -/
def refusedFrame (initiator tag volume : Nat) (code : Code) (terminated : Bool) (check : Nat) (segment : Option Nat)
    (confirmed : Option (Nat × Nat)) : Frame :=
  { replyFrame initiator tag volume .refused with code := code.number }.withPayload
    (wordsBytes [flagWord terminated, check, optionWord segment, optionWord (confirmed.map Prod.fst),
      optionWord (confirmed.map Prod.snd)])

/-- The reply to a control request that is not refused: volume 0, the request number in the code byte (R193). -/
def controlReply (initiator tag request : Nat) (status : Status) (words : List Nat) : Frame :=
  { replyFrame initiator tag 0 status with code := request }.withPayload (wordsBytes words)

/-! ### Tag slots and request queues (R138, R145) -/

/-- The queue of a class. -/
def Arbiter.queue (a : Arbiter) : MediaClass → List Request
  | .write => a.write
  | .read => a.read
  | .erase => a.erase
  | .verify => a.verify

/-- The Arbiter with the queue of a class changed. -/
def Arbiter.setQueue (a : Arbiter) (c : MediaClass) (q : List Request) : Arbiter :=
  match c with
  | .write => { a with write := q }
  | .read => { a with read := q }
  | .erase => { a with erase := q }
  | .verify => { a with verify := q }

/-- Requests join the tail of a class's queue, in order (R145). -/
def State.ask (s : State) (c : MediaClass) (rs : List Request) : State :=
  { s with arbiter := s.arbiter.setQueue c (s.arbiter.queue c ++ rs) }

/-- The waiting requests of a class that p holds of are withdrawn from wherever they stand (R145). -/
def State.withdraw (s : State) (c : MediaClass) (p : Request → Bool) : State :=
  { s with arbiter := s.arbiter.setQueue c ((s.arbiter.queue c).filter (fun r => !p r)) }

/-- The owner of a Busy slot leaves it; its timer goes on (R142). -/
def Slot.orphan : Slot → Slot
  | .busy command cls _ timer => .busy command cls none timer
  | .free => .free
  | .busyLate => .busyLate

/-- The slots of a list of media tags lose their owners (R142). -/
def State.orphanAll (s : State) : List Nat → State
  | [] => s
  | t :: rest => (s.setSlot t (s.slot t).orphan).orphanAll rest

/-! ### Requests that are live (R70) -/

/-- A context holds its initiator's tag. An Aborting context of a removed initiator does not (R54; log 24). -/
def Context.holdsTag (x : Context) (i t : Nat) : Bool :=
  match x with
  | .free => false
  | .read r => decide (r.initiator = i) && decide (r.tag = t)
  | .write w =>
    decide (w.initiator = i) && decide (w.tag = t) &&
      (!w.removed || decide (w.state = .faulted) || decide (w.state = .reissuing))

/-- A request of the initiator with the tag is live: a transfer, an erase with its requester waiting, a RESUME with
Reissue, or an unfinished collection (R70). -/
def State.tagLive (s : State) (i t : Nat) : Bool :=
  s.contexts.toList.any (fun x => x.holdsTag i t) ||
  s.eraseQueue.any (fun e => decide (e.requester = some (i, t))) ||
  s.records.toList.any (fun r => decide (r.bind FaultRecord.resumer = some (i, t))) ||
  (match s.collection with
   | some c => decide (c.initiator = i) && decide (c.tag = t)
   | none => false)

/-- The lowest-numbered Free context (R71). -/
def State.freeContext (s : State) : Option Nat := (List.range 32).find? (fun c => decide (s.context c = .free))

/-- The lowest-numbered Free fault record (R148). -/
def State.freeRecord (s : State) : Option Nat := [1, 2, 3, 4].find? (fun r => decide (s.record r = none))

/-- The record that names a context (R147). -/
def State.recordOf (s : State) (c : Nat) : Option Nat :=
  [1, 2, 3, 4].find? (fun r => decide ((s.record r).map FaultRecord.context = some c))

/-- The lowest-numbered Free tag slot (R146). -/
def State.freeSlot (s : State) : Option Nat := (List.range 16).find? (fun t => decide (s.slot t = .free))

end Sys2Proof.Machine
end

