-- ==== Sys2Proof/Machine/Flags.lean ====
section
/-! DEFINITION. The flags: the Condition Unit's accrued flags and groups, the Last Outcome record and the notices
(chapter Conditions and Notices). -/

namespace Sys2Proof.Machine

/-- The group of a condition (R175). -/
def Cond.group : Cond → Group
  | .keyDenied => .protection
  | .wormDenied => .protection
  | .inhibitDenied => .protection
  | .labelDenied => .protection
  | .countLong => .transfer
  | .countShort => .transfer
  | .overrun => .transfer
  | .frameCheck => .transfer
  | .transferIdle => .transfer
  | .mediaFault => .media
  | .mediaSoft => .media
  | .mediaLate => .media
  | .eraseFailed => .media
  | .digestMismatch => .integrity
  | .faultLost => .integrity
  | .faultDiscarded => .integrity
  | .clockClamped => .clock
  | .clockUnset => .clock

/-- The set of one condition (R187). -/
def Cond.bit (c : Cond) : CondSet := BitVec.ofNat 18 (2 ^ c.number)

/-- A set of conditions with one more member (R78). -/
def CondSet.insert (x : CondSet) (c : Cond) : CondSet := x ||| c.bit

/-- The members of a group as a set of conditions (R175). -/
def Group.members : Group → CondSet
  | .protection => 15#18
  | .transfer => 496#18
  | .media => 7680#18
  | .integrity => 57344#18
  | .clock => 196608#18

/-- The set of one group (R187). -/
def Group.bit (g : Group) : GroupSet := BitVec.ofNat 5 (2 ^ g.number)

/-- The five groups (R175). -/
def allGroups : List Group := [.protection, .transfer, .media, .integrity, .clock]

/-- A group is set when any of its members' accrued flags is yes (R175). -/
def CondSet.groupSet (x : CondSet) (g : Group) : Bool := !decide (x &&& g.members = 0#18)

/-- The five groups as they stand (R175). -/
def CondSet.groups (x : CondSet) : GroupSet :=
  allGroups.foldl (fun acc g => if x.groupSet g then acc ||| g.bit else acc) 0#5

/-- A set of groups holds a group. -/
def GroupSet.has (x : GroupSet) (g : Group) : Bool := !decide (x &&& g.bit = 0#5)

/-- A condition is raised for an operation: its accrued flag becomes yes, and when its group goes from clear to set
with its enable yes, that is a notice cause of the step (R172, R178). -/
def State.raise (s : State) (op : Operation) (c : Cond) : State :=
  { s with
    conditions :=
      { s.conditions with
        accrued := s.conditions.accrued ||| c.bit
        causes :=
          if !s.conditions.accrued.groupSet c.group && s.conditions.enables.has c.group then
            s.conditions.causes ++ [.groupSet c.group c op]
          else s.conditions.causes } }

/-- An operation completes with an outcome set: a set that is not empty replaces the Last Outcome record (R174). -/
def State.complete (s : State) (op : Operation) (outcome : CondSet) : State :=
  if outcome = 0#18 then s
  else
    { s with
      conditions := { s.conditions with last := some { op := op, outcome := outcome, time := s.now } } }

/-- A cause that gives a notice whatever the enables (R178). -/
def State.note (s : State) (c : Cause) : State :=
  { s with conditions := { s.conditions with causes := s.conditions.causes ++ [c] } }

/-- An operation of a single event: the condition is raised and the operation completes (R173). -/
def State.raiseAlone (s : State) (op : Operation) (c : Cond) : State := (s.raise op c).complete op c.bit

/-- An operation of the engine (R173). -/
def engineOp (kind : OpKind) : Operation := { initiator := none, tag := none, kind := kind }

/-- An operation of an initiator's request (R173). -/
def requestOp (initiator tag : Nat) (kind : OpKind) : Operation :=
  { initiator := some initiator, tag := some tag, kind := kind }

/-- The initiator of an outcome in a payload word: the engine is 32 (R187). -/
def Operation.initiatorWord (op : Operation) : Nat := op.initiator.getD Config.engineInitiator

/-- The six words of a cause (R192). -/
def Cause.words : Cause → List Nat
  | .groupSet g c op => [0, g.number, c.number, op.initiatorWord, optionWord op.tag, op.kind.word]
  | .faultRecord r => [1, r, Config.absentWord, Config.absentWord, Config.absentWord, Config.absentWord]
  | .scanEnd p =>
    [2, p.number, optionWord (p.cause.map StopCause.number), Config.absentWord, Config.absentWord,
      Config.absentWord]

/-- The six words of the Last Outcome record; all absent when it is empty (R192). -/
def lastOutcomeWords : Option LastOutcome → List Nat
  | some o =>
    [o.op.initiatorWord, optionWord o.op.tag, o.op.kind.word, o.outcome.toNat, dayOf o.time, secondOf o.time]
  | none => List.replicate 6 Config.absentWord

/-- The NOTICE frame of the step's causes (R179, R192). -/
def Conditions.noticeFrame (c : Conditions) : Frame :=
  (Frame.blank 10 c.noticeInitiator 0 0).withPayload
    (wordsBytes
      ([c.noticeNumber, c.causes.length] ++ c.causes.flatMap Cause.words ++ [c.accrued.groups.toNat] ++
        lastOutcomeWords c.last))

/-- The end of a step: all causes that arose in it give one notice, which takes the present number and is placed in
the transmit queue (R178, R179). -/
def State.endStep (s : State) : State :=
  if s.conditions.causes = [] then s
  else
    { s with
      conditions := { s.conditions with noticeNumber := (s.conditions.noticeNumber + 1) % 65536, causes := [] }
    }.sendNotice s.conditions.noticeFrame

/-- The engine takes events: main power is present and the reset line is not held (R34, R182). -/
def State.takesEvents (s : State) : Bool := s.mainPower && !s.resetHeld

/-- An event of the engine: taken whole, with the notice of its causes at its end. An engine without power, or held
in reset, takes none (R182; log 2). -/
def onEvent (s : State) (f : State → State) : State := if s.takesEvents then (f s).endStep else s

end Sys2Proof.Machine
end

