-- ==== Sys2Proof/Machine/Reads.lean ====
section
/-! DEFINITION. Read contexts: media reads, delivery, failure and completion (chapter Retrieval). -/

namespace Sys2Proof.Machine

/-- The operation a read context reports as (R105). -/
def ReadContext.op (r : ReadContext) : Operation := requestOp r.initiator r.tag .readTransfer

/-- The pieces of at most 8 blocks from an offset to an end, at most n of them (R103, R166). -/
def pieces : Nat → Nat → Nat → List (Nat × Nat)
  | 0, _, _ => []
  | n + 1, start, stop =>
    if start < stop then (start, min 8 (stop - start)) :: pieces n (start + 8) stop else []

/-- A waiting entry of a piece (R103, R166). -/
def waitingEntry (p : Nat × Nat) : ReadEntry :=
  { offset := p.1, count := p.2, mediaTag := none, progress := .waiting, data := [] }

/-- The MREAD of an entry of a read list (R136). -/
def readCommand (v n : Nat) (e : ReadEntry) : MediaCommand :=
  { kind := .mread, volume := v, segment := n, offset := e.offset, count := e.count }

/-- The Arbiter requests of the waiting entries of a read context (R103). -/
def ReadContext.requests (r : ReadContext) (c : Nat) : List Request :=
  r.list.map (fun e => { command := readCommand r.volume r.segment e, owner := .read c })

/-- Every waiting request of a read context is withdrawn (R106, R107, R108). -/
def State.withdrawReads (s : State) (c : Nat) : State := s.withdraw .read (fun r => decide (r.owner = .read c))

/-- The final reply of a read (R105, R192). -/
def finalReadFrame (r : ReadContext) : Frame :=
  let status :=
    match r.ending with
    | none => if r.delivered = r.requested then Status.done else Status.short
    | some .short => Status.short
    | some .faulted => Status.faulted
  { replyFrame r.initiator r.tag r.volume status with
    segment := r.segment, offset := r.firstOffset, count := r.delivered
  }.withPayload (wordsBytes [r.outcome.toNat])

/-- A read completes: the final reply is sent, the context freed and its end reported (R105). -/
def completeRead (c : Nat) (r : ReadContext) (s : State) : State :=
  ((s.setContext c .free).send (finalReadFrame r)).complete r.op r.outcome

/-- A read context is stored, or completes when its list is empty (R105). -/
def settleRead (c : Nat) (r : ReadContext) (s : State) : State :=
  if r.list = [] then completeRead c r s else s.setContext c (.read r)

/-- The RDATA frame of an entry (R104, R192). -/
def rdataFrame (r : ReadContext) (e : ReadEntry) : Frame :=
  { Frame.blank 9 r.initiator r.tag r.volume with
    segment := r.segment, offset := e.offset, count := e.count }.withPayload e.data

/-- The read-since-audit flag becomes yes at the first delivery of a read (R104, R110). A segment that has been erased
and removed with its volume or by a lower count (R25) while its last answers were awaited has no flag to set (log 44).
The flag moves in any state of the segment, Erasing and Blank among them (log 47, log 55). -/
def markRead (r : ReadContext) (s : State) : State :=
  if r.delivered = 0 then
    s.putSegment r.volume r.segment { s.segment r.volume r.segment with readSince := true }
  else s

/-- While the oldest entry has arrived it is delivered and leaves the list (R104). -/
def deliverHeads : List ReadEntry → ReadContext → State → ReadContext × State
  | [], r, s => ({ r with list := [] }, s)
  | e :: rest, r, s =>
    if e.progress = .arrived then
      deliverHeads rest { r with delivered := r.delivered + e.count } (markRead r (s.send (rdataFrame r e)))
    else ({ r with list := e :: rest }, s)

/-- The entry whose media tag was answered takes its blocks (R104). -/
def markArrived (tag : Nat) (data : List Byte) (l : List ReadEntry) : List ReadEntry :=
  l.map (fun e => if e.mediaTag = some tag then { e with progress := .arrived, mediaTag := none, data := data } else e)

/-- An MDATA with exactly the entry's blocks, for an entry of a read (R104). -/
def readArrives (c : Nat) (tag : Nat) (data : List Byte) (r : ReadContext) (s : State) : State :=
  let (r, s) := deliverHeads (markArrived tag data r.list) r s
  settleRead c r s

/-- An entry of a read fails: the read stops short at the oldest failed entry, which leaves the list with every newer
one, those that wait withdrawn and those that are sent discarded when they answer (R106). -/
def readFails (c : Nat) (failed : ReadEntry → Bool) (r : ReadContext) (s : State) : State :=
  let gone := r.list.dropWhile (fun e => !failed e)
  let s := s.raise r.op .mediaFault
  let s := s.withdraw .read
    (fun q => decide (q.owner = .read c) &&
      gone.any (fun e => decide (readCommand r.volume r.segment e = q.command)))
  let s := s.orphanAll ((gone.filter (fun e => !failed e)).filterMap ReadEntry.mediaTag)
  settleRead c
    { r with
      list := r.list.takeWhile (fun e => !failed e)
      ending := some .faulted
      outcome := r.outcome.insert .mediaFault } s

/-- A read context is freed at once: its waiting entries are withdrawn, the answers to its sent ones are discarded
when they come, its end is reported, and no reply is sent (R108, R109). -/
def dropRead (c : Nat) (r : ReadContext) (s : State) : State :=
  let s := (s.withdrawReads c).orphanAll (r.list.filterMap ReadEntry.mediaTag)
  (s.setContext c .free).complete r.op r.outcome

/-- The segment under a read becomes Erasing: its waiting entries are withdrawn and leave the list (R107). -/
def readErased (c : Nat) (r : ReadContext) (s : State) : State :=
  let kept := r.list.filter (fun e => !decide (e.progress = .waiting))
  if kept.length = r.list.length then s
  else
    settleRead c
      { r with
        list := kept
        ending := match r.ending with
          | some x => some x
          | none => some .short } (s.withdrawReads c)

/-- The reads of a segment that becomes Erasing stop, in ascending context number (R20, R107). -/
def stopReads (v n : Nat) : List Nat → State → State
  | [], s => s
  | c :: rest, s =>
    stopReads v n rest
      (match s.context c with
       | .read r => if r.volume = v && r.segment = n then readErased c r s else s
       | .write _ => s
       | .free => s)

end Sys2Proof.Machine
end

