-- ==== Sys2Proof/Machine/Scans.lean ====
section
/-! DEFINITION. The Verify Engine's Active scan: visits, segment reads, comparison, failures and ends (chapter
Verification Scans). -/

namespace Sys2Proof.Machine

/-- The operation a scan reports as (R173). -/
def scanOp : Operation := engineOp .scan

/-- The Active scan is stored. -/
def State.putScan (s : State) (x : Scan) : State := { s with scanActive := some x }

/-- Every waiting request of the scan is withdrawn (R164, R168, R169). -/
def State.withdrawScan (s : State) : State := s.withdraw .verify (fun r => decide (r.owner = .scan))

/-- The Arbiter requests of entries of the scan read list for the segment at the cursor (R166). -/
def scanRequests (v n : Nat) (es : List ReadEntry) : List Request :=
  es.map (fun e => { command := readCommand v n e, owner := .scan })

/-- The range of the scan's cursor. -/
def Scan.rangeAt (x : Scan) (entry : Nat) : Option ScanRange := if entry = 0 then none else x.ranges[entry - 1]?

/-- The cursor with its volume. -/
def Scan.place (x : Scan) : Option (Nat × ScanCursor) :=
  match x.cursor with
  | some cur => (x.rangeAt cur.entry).map (fun r => (r.volume, cur))
  | none => none

/-- The scan ends, Done or Stopped: its completion is reported and its end is a notice cause (R170). -/
def endScan (phase : ScanPhase) (x : Scan) (s : State) : State :=
  ((s.putScan { x with phase := phase, segmentRead := none, list := [], cancelRequested := false }).complete scanOp
    x.outcome).note (.scanEnd phase)

/-- The cursor after the segment at it: the next of its entry, or the first of the next entry; the flag says that the
last segment of the last entry has been passed (R165). -/
def Scan.nextCursor (x : Scan) (cur : ScanCursor) : ScanCursor × Bool :=
  match x.rangeAt cur.entry with
  | some r =>
    if cur.segment + 1 < r.first + r.count then ({ cur with segment := cur.segment + 1 }, false)
    else
      match x.rangeAt (cur.entry + 1) with
      | some q => ({ entry := cur.entry + 1, segment := q.first }, false)
      | none => ({ cur with segment := cur.segment + 1 }, true)
  | none => (cur, true)

/-- The segment read ends and the cursor advances; past the last segment of the last entry the scan is Done
(R165, R167). -/
def advanceScan (x : Scan) (cur : ScanCursor) (s : State) : State :=
  let p := x.nextCursor cur
  let x := { x with cursor := some p.1, segmentRead := none, list := [] }
  if p.2 then endScan .done x s else s.putScan x

/-- The segment at the cursor is skipped (R165, R169). -/
def skipScan (x : Scan) (cur : ScanCursor) (s : State) : State :=
  advanceScan { x with skipped := x.skipped + 1 } cur s

/-- The computed fold is compared with the stored one (R167). -/
def compareScan (x : Scan) (v : Nat) (cur : ScanCursor) (fold : Nat × Nat) (s : State) : State :=
  let g := s.segment v cur.segment
  let x := { x with examined := x.examined + 1 }
  if fold = (g.foldA, g.foldB) then advanceScan x cur s
  else
    let s := (s.putSegment v cur.segment { g with suspect := true }).raise scanOp .digestMismatch
    let x := { x with mismatched := x.mismatched + 1, outcome := x.outcome.insert .digestMismatch }
    if x.scanThrough then advanceScan x cur s
    else endScan (.stopped .mismatch) { x with cursor := some (x.nextCursor cur).1 } s

/-- A segment read begins: entries for the first pieces, up to 4 of them, each asking for an MREAD (R166). -/
def beginSegmentRead (x : Scan) (v : Nat) (cur : ScanCursor) (readEnd : Nat) (s : State) : State :=
  let es := (pieces 4 0 readEnd).map waitingEntry
  (s.putScan { x with segmentRead := some { readEnd := readEnd, foldA := 1, foldB := 0 }, list := es }).ask .verify
    (scanRequests v cur.segment es)

/-- A visit of the Running scan to the segment at its cursor (R165). -/
def visitScan (x : Scan) (s : State) : State :=
  match x.place with
  | some (v, cur) =>
    let g := s.segment v cur.segment
    if !s.segmentExists v cur.segment then skipScan x cur s
    else
      match g.state with
      | .closed =>
        if g.appendPoint = 0 then compareScan x v cur (1, 0) s else beginSegmentRead x v cur g.appendPoint s
      | .expired =>
        if g.appendPoint = 0 then compareScan x v cur (1, 0) s else beginSegmentRead x v cur g.appendPoint s
      | .blank => skipScan x cur s
      | .opened => skipScan x cur s
      | .erasing => skipScan x cur s
  | none => s

/-- The scan makes visits: it is Running, reads no segment, and no cancel is requested (R165). -/
def Scan.visits (x : Scan) : Bool :=
  decide (x.phase = .running) && decide (x.segmentRead = none) && !x.cancelRequested

/-- A Loaded Queued scan is promoted into an Empty Active descriptor, and makes its first visit (R162). -/
def promoteScan (s : State) : State :=
  match s.scanActive, s.scanQueued with
  | none, some q =>
    let x :=
      { q with
        phase := .running
        cursor := (q.rangeAt 1).map (fun r => { entry := 1, segment := r.first })
        cancelRequested := false
        segmentRead := none
        list := [] }
    visitScan x ({ s with scanQueued := none }.putScan x)
  | none, none => s
  | some _, _ => s

/-- The offset after the last piece that has an entry. -/
def entriesEnd (es : List ReadEntry) : Nat :=
  match es.getLast? with
  | some e => e.offset + e.count
  | none => 0

/-- The arrived entries at the head are folded and leave, each making room for one entry for the next piece; when
every piece has been folded the segment is compared (R166). -/
def foldScan (x : Scan) (v : Nat) (cur : ScanCursor) (rd : SegmentRead) (s : State) : State :=
  let heads := x.list.takeWhile (fun e => decide (e.progress = .arrived))
  let kept := x.list.dropWhile (fun e => decide (e.progress = .arrived))
  let fold := heads.foldl (fun acc e => foldBytes acc e.data) (rd.foldA, rd.foldB)
  let fresh := (pieces heads.length (entriesEnd x.list) rd.readEnd).map waitingEntry
  let s := s.ask .verify (scanRequests v cur.segment fresh)
  if kept ++ fresh = [] then compareScan x v cur fold s
  else
    s.putScan
      { x with
        segmentRead := some { rd with foldA := fold.1, foldB := fold.2 }
        list := kept ++ fresh }

/-- An MDATA for a scan whose cancel is requested: the entry leaves the list unfolded, and the scan stops when none
remains (R164). -/
def cancelledArrival (x : Scan) (tag : Nat) (s : State) : State :=
  let kept := x.list.filter (fun e => !decide (e.mediaTag = some tag))
  if kept = [] then endScan (.stopped .cancel) x s else s.putScan { x with list := kept }

/-- An MDATA with exactly the entry's blocks, for the media read of the Active scan (R166). -/
def scanArrives (tag : Nat) (data : List Byte) (x : Scan) (s : State) : State :=
  if x.cancelRequested then cancelledArrival x tag s
  else
    match x.place, x.segmentRead with
    | some (v, cur), some rd => foldScan { x with list := markArrived tag data x.list } v cur rd s
    | some _, none => s
    | none, _ => s

/-- The scan stops: its waiting entries are withdrawn and the answers to its sent ones are discarded when they come
(R168, R171). -/
def stopScan (cause : StopCause) (x : Scan) (s : State) : State :=
  let s := s.withdrawScan.orphanAll (x.list.filterMap ReadEntry.mediaTag)
  endScan (.stopped (if x.cancelRequested then .cancel else cause)) x s

/-- A failure of a scan read, or the loss of the link under the scan, raises MEDIA_FAULT and stops the scan
(R168, R171). -/
def scanFails (cause : StopCause) (x : Scan) (s : State) : State :=
  stopScan cause { x with outcome := x.outcome.insert .mediaFault } (s.raise scanOp .mediaFault)

/-- The segment the Active scan reads becomes Erasing: the segment read ends and is counted skipped (R20, R169). With
a cancel requested no entry then remains and the scan stops, the segment counted in neither (R164; log 31). -/
def scanErased (v n : Nat) (s : State) : State :=
  match s.scanActive with
  | some x =>
    match x.place with
    | some (sv, cur) =>
      if x.phase = .running && x.segmentRead.isSome && sv = v && cur.segment = n then
        let s := s.withdrawScan.orphanAll (x.list.filterMap ReadEntry.mediaTag)
        if x.cancelRequested then endScan (.stopped .cancel) x s else skipScan x cur s
      else s
    | none => s
  | none => s

end Sys2Proof.Machine
end

