-- ==== Sys2Proof/Machine/Background.lean ====
section
/-! DEFINITION. The background: the timebase, the Expiry Sweeper, the Hold Walker and the visits of the Running scan. -/

namespace Sys2Proof.Machine

/-! ### CLOCK_TICK (R30, R31) -/

/-- The slot timer of a Busy slot counts one second (R138, R141; log 9). -/
def Slot.tick : Slot → Slot
  | .busy command cls owner timer => .busy command cls owner (timer - 1)
  | .free => .free
  | .busyLate => .busyLate

/-- The idle timer of a write context, when it runs, counts one second (R96; log 9). -/
def Context.tick : Context → Context
  | .write w => .write { w with idle := w.idle.map (fun t => t - 1) }
  | .read r => .read r
  | .free => .free

/-- The engine's timers count one second (R96, R141; log 9). -/
def State.tickTimers (s : State) : State :=
  { s with slots := s.slots.map Slot.tick, contexts := s.contexts.map Context.tick }

/-- The Running Clock advances by one second, and signals a rollover when it carries into the next day; at the top
stop it stays and raises CLOCK_CLAMPED (R30, R31; log 10). -/
def advanceClock (s : State) : State :=
  if s.running then
    if Config.topStop ≤ s.clock.value then s.raiseAlone (engineOp .clock) .clockClamped
    else
      let x := { s with clock := { s.clock with value := s.clock.value + 1 } }
      if dayOf s.clock.value < dayOf (s.clock.value + 1) then x.rollover else x
  else s

/-- The clock alone counts: main power is absent, or the reset line is held (R32, R34, R182; log 8). -/
def countQuietly (s : State) : State :=
  if s.running && decide (s.clock.value < Config.topStop) then
    { s with clock := { s.clock with value := s.clock.value + 1 } }
  else s

/-- CLOCK_TICK (R30): a second of the timebase. -/
def execClockTick (s : State) : Host.Outcome State Fault Refusal :=
  .next (if s.takesEvents then onEvent s (fun s => advanceClock s.tickTimers) else countQuietly s)

/-! ### PASS_BEGIN and SWEEPER_VISIT (R127 to R129) -/

/-- The lowest-numbered volume above v that is not Absent (R127, R129). -/
def State.nextVolume (s : State) (v : Nat) : Option Nat :=
  [1, 2, 3, 4].find? (fun x => decide (v < x) && !decide ((s.volume x).state = .absent))

/-- The state of a pass that moves to the next volume above v, or ends (R129). -/
def State.passFrom (s : State) (v : Nat) : SweepState :=
  match s.nextVolume v with
  | some x => .passing x 0
  | none => .idle

/-- The Sweeper's state is changed. -/
def State.setSweep (s : State) (x : SweepState) : State := { s with sweeper := { s.sweeper with state := x } }

/-- A pass begins when the Sweeper is Idle, pass-again is yes and the Clock Running (R127). -/
def beginPass (s : State) : State :=
  if s.sweeper.state = .idle && s.sweeper.passAgain && s.running then
    { s with sweeper := { state := s.passFrom 0, passAgain := false } }
  else s

/-- PASS_BEGIN (R127). -/
def execPassBegin (s : State) : Host.Outcome State Fault Refusal := .next (onEvent s beginPass)

/-- A segment is due: Closed, its expiry day present and at or before today, and not covered (R18, R128). -/
def State.due (s : State) (v n : Nat) : Bool :=
  let g := s.segment v n
  decide (g.state = .closed) &&
    (match g.expiry with
     | some e => decide (e ≤ s.today)
     | none => false) && !s.covered v n

/-- A due segment becomes Expired (R18). -/
def expireDue (v n : Nat) (s : State) : State :=
  if s.due v n then s.putSegment v n { s.segment v n with state := .expired } else s

/-- The pass after a visit to segment n of volume v: the next segment, or the next volume after the last one (R128,
R129). -/
def State.passAfter (s : State) (v n : Nat) : SweepState :=
  if n + 1 < (s.volume v).count then .passing v (n + 1) else s.passFrom v

/-- One visit of a pass. A cursor that leaves its volume, or whose segment is gone, only moves on (R128, R129;
log 39). -/
def sweepVisit (s : State) : State :=
  match s.sweeper.state with
  | .idle => s
  | .leaving v => if s.running then s.setSweep (s.passFrom v) else s
  | .passing v n =>
    if !s.running then s
    else if s.segmentExists v n then
      let s := expireDue v n s
      s.setSweep (s.passAfter v n)
    else s.setSweep (s.passFrom v)

/-- SWEEPER_VISIT (R128). -/
def execSweeperVisit (s : State) : Host.Outcome State Fault Refusal := .next (onEvent s sweepVisit)

/-! ### WALKER_VISIT (R120 to R123) -/

/-- A visit for a hold passes over a segment (R120). -/
def Hold.passesOver (h : Hold) (g : Segment) : Bool :=
  decide (g.state = .blank) || decide (g.cls = some 0) ||
    (!decide (h.filter = none) && !decide (h.filter = g.cls))

/-- A segment raised by a placing visit: its count rises by one, and Expired returns to Closed (R19, R121). -/
def Segment.raised (g : Segment) : Segment :=
  { g with holdCount := g.holdCount + 1, state := if g.state = .expired then .closed else g.state }

/-- A segment lowered by a releasing visit (R122). -/
def Segment.lowered (g : Segment) : Segment := { g with holdCount := g.holdCount - 1 }

/-- A visit of the hold at segment n changes it by `f`, unless it passes over it (R120). -/
def visitSegment (h : Hold) (n : Nat) (f : Segment → Segment) (s : State) : State :=
  if h.passesOver (s.segment h.volume n) then s else s.putSegment h.volume n (f (s.segment h.volume n))

/-- A visit for the hold in a slot: the segment at the walk front, the front, and at the walk's end the hold's own
state and the head of the queue (R120 to R123). -/
def visitHold (slot : Nat) (h : Hold) (s : State) : State :=
  match h.phase with
  | .placing front =>
    let s := visitSegment h front Segment.raised s
    if h.last + 1 ≤ front + 1 then
      { s.setHold slot (some { h with phase := .active }) with walkQueue := s.walkQueue.tail }
    else s.setHold slot (some { h with phase := .placing (front + 1) })
  | .releasing front raisedTo =>
    let s := visitSegment h front Segment.lowered s
    if raisedTo ≤ front + 1 then { s.setHold slot none with walkQueue := s.walkQueue.tail }
    else s.setHold slot (some { h with phase := .releasing (front + 1) raisedTo })
  | .active => s

/-- One visit of the Hold Walker, for the head of the walk queue (R120). -/
def walkVisit (s : State) : State :=
  match s.walkQueue with
  | slot :: _ =>
    match s.hold slot with
    | some h => visitHold slot h s
    | none => s
  | [] => s

/-- WALKER_VISIT (R120). -/
def execWalkerVisit (s : State) : Host.Outcome State Fault Refusal := .next (onEvent s walkVisit)

/-! ### SCAN_VISIT (R165) -/

/-- The Running scan makes a visit (R165; log 33). -/
def activeVisit (s : State) : State :=
  match s.scanActive with
  | some x => if x.visits then visitScan x s else s
  | none => s

/-- SCAN_VISIT (R165). -/
def execScanVisit (s : State) : Host.Outcome State Fault Refusal := .next (onEvent s activeVisit)

end Sys2Proof.Machine
end

