-- ==== Sys2Proof/Machine/Erases.lean ====
section
/-! DEFINITION. Erases in flight: the erase queue, the answers to an MERASE and their failure (R20 to R22, R131 to
R134). -/

namespace Sys2Proof.Machine

/-- The MERASE of an entry (R136). -/
def eraseCommand (v n : Nat) : MediaCommand := { kind := .merase, volume := v, segment := n, offset := 0, count := 0 }

/-- The Arbiter request of an entry of the erase queue (R132). -/
def EraseEntry.request (e : EraseEntry) : Request := { command := eraseCommand e.volume e.segment, owner := .erase }

/-- A waiting entry of the erase queue (R131). -/
def waitingErase (v n : Nat) (requester : Option (Nat × Nat)) : EraseEntry :=
  { volume := v, segment := n, requester := requester, mediaTag := none, progress := .waiting }

/-- The operation an erase reports as: its requester's, or the engine's (R132, R173). -/
def EraseEntry.op (e : EraseEntry) : Operation :=
  match e.requester with
  | some (i, t) => requestOp i t .eraseSegment
  | none => engineOp .eraseSegment

/-- An admitted ERASE: the segment becomes Erasing and joins the erase queue, and a read or a scan of it stops asking
(R20, R107, R131, R169). The reads end first, in ascending context number, then the scan (log 48). -/
def startErase (v n : Nat) (requester : Option (Nat × Nat)) (s : State) : State :=
  let e := waitingErase v n requester
  let s := s.putSegment v n { s.segment v n with state := .erasing }
  let s := { s with eraseQueue := s.eraseQueue ++ [e] }.ask .erase [e.request]
  scanErased v n (stopReads v n (List.range 32) s)

/-- The descriptor of a segment that the shelf has erased (R21). -/
def Segment.erased (g : Segment) : Segment := { Segment.fresh with generation := min 65535 (g.generation + 1) }

/-- The Erasing segment of an entry leaves Erasing with a new descriptor; one in another state is left (R21, R22). -/
def State.leaveErasing (s : State) (e : EraseEntry) (f : Segment → Segment) : State :=
  let g := s.segment e.volume e.segment
  if g.state = .erasing then s.putSegment e.volume e.segment (f g) else s

/-- The entry leaves the erase queue. -/
def removeErase (e : EraseEntry) (s : State) : State :=
  { s with eraseQueue := s.eraseQueue.filter (fun x => !(decide (x.volume = e.volume) && decide (x.segment = e.segment))) }

/-- The DONE reply of an erase (R132, R192). -/
def eraseDoneFrame (e : EraseEntry) (i t : Nat) (generation : Nat) : Frame :=
  { replyFrame i t e.volume .done with segment := e.segment }.withPayload (wordsBytes [generation])

/-- The MERASE of an entry was answered OK or SOFT (R21, R132). -/
def eraseDone (e : EraseEntry) (soft : Bool) (s : State) : State :=
  let g := (s.segment e.volume e.segment).erased
  let s := removeErase e (s.leaveErasing e Segment.erased)
  let s :=
    match e.requester with
    | some (i, t) => s.send (eraseDoneFrame e i t g.generation)
    | none => s
  if soft then s.raiseAlone e.op .mediaSoft else s

/-- The MERASE of an entry failed (R22, R132). -/
def eraseFails (e : EraseEntry) (s : State) : State :=
  let s := removeErase e (s.leaveErasing e (fun g => { g with state := .expired }))
  let s :=
    match e.requester with
    | some (i, t) => s.send (refusedFrame i t e.volume .eraseFailed false 0 (some e.segment) none)
    | none => s
  s.raiseAlone e.op .eraseFailed

/-- The entry of the erase queue that holds a media tag. -/
def State.eraseOfTag (s : State) (tag : Nat) : Option EraseEntry :=
  s.eraseQueue.find? (fun e => decide (e.mediaTag = some tag))

end Sys2Proof.Machine
end

