-- ==== Sys2Proof/Machine/Transfers.lean ====
section
/-! DEFINITION. Write contexts and fault records: what a confirmation, a failure, a fatal condition and a completion do
(chapters Ingest Transfers and The Media Port and Fault Records). -/

namespace Sys2Proof.Machine

/-- The operation a write context reports as (R78). -/
def WriteContext.op (w : WriteContext) : Operation := requestOp w.initiator w.tag .beginTransfer

/-- A condition arises for a write context: raised, and added to its outcome set (R78). -/
def raiseFor (w : WriteContext) (c : Cond) (s : State) : WriteContext × State :=
  ({ w with outcome := w.outcome.insert c }, s.raise w.op c)

/-- A frame a write context makes for its initiator; none is sent once the initiator has been removed (R54). -/
def State.sendFor (s : State) (w : WriteContext) (f : Frame) : State := if w.removed then s else s.send f

/-- The write context is stored. -/
def State.putWrite (s : State) (c : Nat) (w : WriteContext) : State := s.setContext c (.write w)

/-- The declared length of the transfer (R76). -/
def WriteContext.declared (w : WriteContext) : Nat := w.received + w.remaining

/-- The number of blocks the transfer has confirmed (R92). -/
def WriteContext.blocksConfirmed (w : WriteContext) : Nat :=
  if w.current = w.startSegment then w.confirmedOffset - w.startOffset
  else Config.segmentBlocks - w.startOffset + w.confirmedOffset

/-- The segment holding the last block the transfer confirmed, or the segment its BEGIN named (R92). -/
def WriteContext.lastSegment (w : WriteContext) : Nat :=
  if w.current = w.startSegment then w.startSegment
  else if w.confirmedOffset = 0 then w.startSegment
  else w.current

/-- The MWRITE command of a pending write (R136). -/
def WriteContext.command (w : WriteContext) (e : PendingWrite) : MediaCommand :=
  { kind := .mwrite, volume := w.volume, segment := e.segment, offset := e.offset, count := e.count }

/-- The Arbiter request of a pending write of a context (R82, R145). -/
def WriteContext.request (w : WriteContext) (c : Nat) (e : PendingWrite) : Request :=
  { command := w.command e, owner := .write c }

/-- Every request of a context that waits in the write class is withdrawn (R90, R149, R154). -/
def State.withdrawWrites (s : State) (c : Nat) : State := s.withdraw .write (fun r => decide (r.owner = .write c))

/-! ### Confirmation (R86 to R89) -/

/-- The confirmed point reaches offset 16,384 of segment n: the segment closes by R14 unless its class is 0 or 1, and
the confirmed point is carried into the next segment when there is one (R88). A fault pending flag on the segment
left goes with the confirmed point (R153; log 27). -/
def fillSegment (w : WriteContext) (n : Nat) (s : State) : WriteContext × State :=
  let s := if closesByItself (s.segment w.volume n).cls then s.closeSegment w.volume n id else s
  match w.next with
  | some m =>
    let s :=
      if (s.segment w.volume n).faultPending then
        let s := s.putSegment w.volume n { s.segment w.volume n with faultPending := false }
        s.putSegment w.volume m { s.segment w.volume m with faultPending := true }
      else s
    ({ w with current := m, confirmedOffset := 0, next := none }, s)
  | none => ({ w with current := n, confirmedOffset := Config.segmentBlocks }, s)

/-- The descriptor after the blocks of an entry are folded and the append point follows (R86 steps 1 and 2, R89). -/
def Segment.confirm (g : Segment) (e : PendingWrite) : Segment :=
  if g.cls = some 0 then { g with appendPoint := max g.appendPoint (e.offset + e.count) }
  else
    { g with
      foldA := (foldBytes (g.foldA, g.foldB) e.data).1
      foldB := (foldBytes (g.foldA, g.foldB) e.data).2
      appendPoint := e.offset + e.count }

/-- An entry leaves the head of the list: its blocks are folded, the confirmed point and the append point advance
(R86 steps 1 to 3, R88, R89). -/
def foldEntry (w : WriteContext) (e : PendingWrite) (s : State) : WriteContext × State :=
  let s := s.putSegment w.volume e.segment ((s.segment w.volume e.segment).confirm e)
  if e.offset + e.count = Config.segmentBlocks then fillSegment w e.segment s
  else ({ w with current := e.segment, confirmedOffset := e.offset + e.count }, s)

/-- While the head of the list is confirmed it is folded and leaves; credit rises by `step` for each (R86). What is
left of the list becomes the context's. -/
def foldHeads (step : Nat) : List PendingWrite → WriteContext → State → WriteContext × State
  | [], w, s => ({ w with pending := [] }, s)
  | e :: rest, w, s =>
    if e.confirmed then
      let (w, s) := foldEntry w e s
      foldHeads step rest { w with credit := w.credit + step } s
    else ({ w with pending := e :: rest }, s)

/-- The entry whose media tag was answered OK or SOFT is confirmed (R86). -/
def markConfirmed (tag : Nat) (l : List PendingWrite) : List PendingWrite :=
  l.map (fun e => if e.mediaTag = some tag then { e with confirmed := true, mediaTag := none } else e)

/-- The CREDIT frame of R86 and R153 (R192). -/
def creditFrame (w : WriteContext) : Frame :=
  { Frame.blank 8 w.initiator w.tag w.volume with
    segment := w.current, offset := w.confirmedOffset, count := w.credit }

/-! ### The end of a write context (R78, R92, R95) -/

/-- Every writer that names the context is cleared: of the segment it started in, the one it is in, and the one a
span reserved (R12, R92, R95, R155). -/
def clearWriters (w : WriteContext) (c : Nat) (s : State) : State :=
  let s := s.clearWriter w.volume w.startSegment c
  let s := s.clearWriter w.volume w.current c
  match w.next with
  | some n => s.clearWriter w.volume n c
  | none => s

/-- The context is freed, its writers cleared, its end reported (R78). -/
def freeWrite (c : Nat) (w : WriteContext) (s : State) : State :=
  ((clearWriters w c s).setContext c .free).complete w.op w.outcome

/-- The final reply of a completed transfer (R92, R192). -/
def finalWriteFrame (w : WriteContext) (closed : Bool) : Frame :=
  { replyFrame w.initiator w.tag w.volume (if w.remaining = 0 then .done else .short) with
    flags := if closed then 8 else 0
    segment := w.lastSegment
    count := w.blocksConfirmed
  }.withPayload (wordsBytes [w.current, w.confirmedOffset, w.outcome.toNat])

/-- The close flag of END closes the segment of the last confirmed block, when it is still Open under this transfer and
its class is neither 0 nor 1 (R15, R92). A segment that filled and closed by R14 has already closed; one that has since
been expired, erased and opened by another transfer is not this transfer's and stays Open (log 45). -/
def closeAtEnd (c : Nat) (w : WriteContext) (s : State) : State :=
  let g := s.segment w.volume w.lastSegment
  if w.closeFlag = some true && decide (g.writer = some c) && closesByItself g.cls then
    s.closeSegment w.volume w.lastSegment id
  else s

/-- A write transfer completes (R92). -/
def completeWrite (c : Nat) (w : WriteContext) (s : State) : State :=
  let s := freeWrite c w (closeAtEnd c w s)
  s.sendFor w (finalWriteFrame w (decide ((s.segment w.volume w.lastSegment).state = .closed)))

/-- The Terminated reply of a context (R95, R155, R192). The segment it names is the context's current segment, the one its
confirmed point lies in, also once a span has been carried (R73, R76; log 54). -/
def terminatedFrame (w : WriteContext) (code : Code) : Frame :=
  refusedFrame w.initiator w.tag w.volume code true 0 (some w.current) (some (w.current, w.confirmedOffset))

/-- An Aborting context is freed, with its Terminated reply where one is due (R95). -/
def freeAborting (c : Nat) (w : WriteContext) (s : State) : State :=
  let s := freeWrite c w s
  if w.silent then s
  else
    match w.fatal with
    | some code => s.sendFor w (terminatedFrame w code)
    | none => s

/-- An Aborting context is freed when its list is empty, and kept otherwise (R95). -/
def settleAborting (c : Nat) (w : WriteContext) (s : State) : State :=
  if w.pending = [] then freeAborting c w s else s.putWrite c w

/-- A fatal cause sends a context to Aborting: its timer stops and it accepts no further frame (R94). -/
def abortWrite (c : Nat) (w : WriteContext) (s : State) : State :=
  settleAborting c { w with state := .aborting, idle := none } s

/-- A fatal condition with its code (R94, R95). -/
def fatalWrite (c : Nat) (w : WriteContext) (cond : Cond) (code : Code) (s : State) : State :=
  let (w, s) := raiseFor w cond s
  abortWrite c { w with fatal := some (w.fatal.getD code) } s

/-! ### Fault records (R148 to R150) -/

/-- The pending writes a record takes (R150). -/
def PendingWrite.toRecord (e : PendingWrite) : RecordWrite :=
  { segment := e.segment, offset := e.offset, count := e.count, needsReissue := !e.confirmed, data := e.data }

/-- The pending writes a context takes back (R152). -/
def RecordWrite.toPending (e : RecordWrite) : PendingWrite :=
  { segment := e.segment, offset := e.offset, count := e.count, mediaTag := none, confirmed := !e.needsReissue,
    data := e.data }

/-- The FAULTED reply of a first settling (R150, R192). -/
def faultedFrame (w : WriteContext) (r : Nat) (kind : FaultKind) : Frame :=
  { replyFrame w.initiator w.tag w.volume .faulted with
    segment := w.current, offset := w.confirmedOffset }.withPayload (wordsBytes [r, kind.number])

/-- The record once settled (R150). -/
def FaultRecord.settle (x : FaultRecord) (w : WriteContext) : FaultRecord :=
  { x with
    settled := true
    place := some { volume := w.volume, segment := w.current, offset := w.confirmedOffset }
    writes := w.pending.map PendingWrite.toRecord
    resumer := none }

/-- The FAULTED reply to the RESUME whose reissue failed, sent when it still waits (R154). -/
def sendResumerFault (x : FaultRecord) (w : WriteContext) (r : Nat) (s : State) : State :=
  match x.resumer with
  | some (i, t) =>
    s.send (controlReply i t 17 .faulted [r, w.confirmedOffset, x.kind.number, x.reissues])
  | none => s

/-- The frames and causes of a settling: at a first one the FAULTED reply to the transfer's initiator and a notice,
at a later one the FAULTED reply to the resumer (R150, R154). -/
def announceSettled (x : FaultRecord) (w : WriteContext) (r : Nat) (s : State) : State :=
  if x.reissues = 0 then (s.sendFor w (faultedFrame w r x.kind)).note (.faultRecord r)
  else sendResumerFault x w r s

/-- A Faulted context is stored; when none of its entries is sent and unanswered its record is settled (R149,
R150). -/
def settleFaulted (c : Nat) (w : WriteContext) (s : State) : State :=
  if w.pending.any (fun e => e.mediaTag.isSome) then s.putWrite c w
  else
    match s.recordOf c with
    | some r =>
      match s.record r with
      | some x =>
        let s := s.putWrite c { w with pending := [] }
        let s := s.putSegment w.volume w.current { s.segment w.volume w.current with faultPending := true }
        announceSettled x w r (s.setRecord r (some (x.settle w)))
      | none => s.putWrite c w
    | none => s.putWrite c w

/-- The record a context takes at its failure (R148). -/
def FaultRecord.fresh (c : Nat) (w : WriteContext) (kind : FaultKind) (cont : Continuation) (now : Nat) :
    FaultRecord :=
  { state := .held, settled := false, context := c, initiator := w.initiator, tag := w.tag, place := none,
    kind := kind, writes := [], continuation := cont, reissues := 0, created := now, resumer := none }

/-- The failed entries lose their media tags and stay unconfirmed. -/
def clearFailed (failed : PendingWrite → Bool) (l : List PendingWrite) : List PendingWrite :=
  l.map (fun e => if failed e then { e with mediaTag := none } else e)

/-- In Aborting the oldest failed entry and every newer one leave the list: those that wait are withdrawn, those that
are sent lose their slots' ownership (R90, R142). -/
def dropFailed (c : Nat) (failed : PendingWrite → Bool) (w : WriteContext) (s : State) : WriteContext × State :=
  let gone := w.pending.dropWhile (fun e => !failed e)
  let s := s.withdraw .write
    (fun r => decide (r.owner = .write c) && gone.any (fun e => decide (w.command e = r.command)))
  let s := s.orphanAll ((gone.filter (fun e => !failed e)).filterMap PendingWrite.mediaTag)
  ({ w with pending := w.pending.takeWhile (fun e => !failed e) }, s)

/-- A failure taken in Aborting (R90). -/
def failAborting (c : Nat) (failed : PendingWrite → Bool) (w : WriteContext) (s : State) : State :=
  let (w, s) := raiseFor w .mediaFault s
  let (w, s) := dropFailed c failed w s
  settleAborting c w s

/-- A Streaming or Draining context fails: it becomes Faulted with a record, or passes to Aborting when no record is
Free (R90, R148). -/
def failLive (c : Nat) (kind : FaultKind) (cont : Continuation) (failed : PendingWrite → Bool) (w : WriteContext)
    (s : State) : State :=
  match s.freeRecord with
  | some r =>
    let (w, s) := raiseFor w .mediaFault s
    let w := { w with state := .faulted, credit := 0, idle := none, pending := clearFailed failed w.pending }
    let s := (s.withdrawWrites c).setRecord r (some (FaultRecord.fresh c w kind cont s.now))
    settleFaulted c w s
  | none =>
    let (w, s) := raiseFor w .faultLost s
    failAborting c failed
      { w with state := .aborting, idle := none, fatal := some (w.fatal.getD .faultLost) } s

/-- A failure of a reissued write returns the record to Held and the context to Faulted (R90, R154); the record's place
stays that of the last settling until it settles again (R147; log 28). -/
def failReissuing (c : Nat) (kind : FaultKind) (failed : PendingWrite → Bool) (w : WriteContext) (s : State) :
    State :=
  let (w, s) := raiseFor w .mediaFault s
  let w := { w with state := .faulted, credit := 0, idle := none, pending := clearFailed failed w.pending }
  let s := s.withdrawWrites c
  let s :=
    match s.recordOf c with
    | some r =>
      match s.record r with
      | some x => s.setRecord r (some { x with state := .held, settled := false, kind := kind })
      | none => s
    | none => s
  settleFaulted c w s

/-- A failure in Faulted leaves the entry unconfirmed; the record's fault kind is kept (R149). -/
def failFaulted (c : Nat) (failed : PendingWrite → Bool) (w : WriteContext) (s : State) : State :=
  let (w, s) := raiseFor w .mediaFault s
  settleFaulted c { w with pending := clearFailed failed w.pending } s

/-- A failure of pending writes of a context, taken by its state (R90). -/
def writeFails (c : Nat) (kind : FaultKind) (failed : PendingWrite → Bool) (w : WriteContext) (s : State) : State :=
  match w.state with
  | .streaming => failLive c kind .resumeStreaming failed w s
  | .draining => failLive c kind .resumeDraining failed w s
  | .aborting => failAborting c failed w s
  | .faulted => failFaulted c failed w s
  | .reissuing => failReissuing c kind failed w s

/-! ### Reissue (R153) -/

/-- The record is disposed of and the fault pending flag of the context's current segment cleared (R153). -/
def disposeRecord (c : Nat) (w : WriteContext) (s : State) : State :=
  let s := s.putSegment w.volume w.current { s.segment w.volume w.current with faultPending := false }
  match s.recordOf c with
  | some r => s.setRecord r none
  | none => s

/-- The resumer, when present, is answered DONE with the record number and the confirmed point (R153). -/
def answerResumer (c : Nat) (w : WriteContext) (s : State) : State :=
  match s.recordOf c with
  | some r =>
    match (s.record r).bind FaultRecord.resumer with
    | some (i, t) => s.send (controlReply i t 17 .done [r, w.current, w.confirmedOffset])
    | none => s
  | none => s

/-- The continuation of the record that names a context. -/
def State.continuationOf (s : State) (c : Nat) : Option Continuation :=
  match s.recordOf c with
  | some r => (s.record r).map FaultRecord.continuation
  | none => none

/-- A reissue has succeeded (R153). -/
def reissueDone (c : Nat) (w : WriteContext) (s : State) : State :=
  let cont := s.continuationOf c
  let s := disposeRecord c w (answerResumer c w s)
  if cont = some .resumeDraining then completeWrite c { w with state := .draining } s
  else if w.removed then abortWrite c { w with silent := true } s
  else
    let w := { w with state := .streaming, credit := 3, idle := some s.idleTime }
    (s.putWrite c w).send (creditFrame w)

/-- A Reissuing context after an answer: the reissue has succeeded when its list is empty (R153). -/
def settleReissuing (c : Nat) (w : WriteContext) (s : State) : State :=
  if w.pending = [] then reissueDone c w s else s.putWrite c w

/-! ### A confirmation, by the state of the context (R86, R87, R149, R153) -/

/-- A Streaming context after an answer: when entries left the list, one CREDIT frame is sent and the idle timer
restarts (R86, R96). -/
def creditStreaming (c : Nat) (before : Nat) (w : WriteContext) (s : State) : State :=
  if w.pending.length < before then
    let w := { w with idle := some s.idleTime }
    (s.putWrite c w).sendFor w (creditFrame w)
  else s.putWrite c w

/-- MSTATUS OK or SOFT for a pending write of a context (R86, R87, R149, R153). -/
def writeConfirms (c : Nat) (tag : Nat) (soft : Bool) (w : WriteContext) (s : State) : State :=
  let (w, s) := if soft then raiseFor w .mediaSoft s else (w, s)
  let before := w.pending.length
  let (w, s) := foldHeads (if w.state = .reissuing then 0 else 1) (markConfirmed tag w.pending) w s
  match w.state with
  | .streaming => creditStreaming c before w s
  | .draining => if w.pending = [] then completeWrite c w s else s.putWrite c w
  | .aborting => settleAborting c w s
  | .faulted => settleFaulted c w s
  | .reissuing => settleReissuing c w s

end Sys2Proof.Machine
end

