-- ==== Sys2Proof/Machine/Admission.lean ====
section
/-! DEFINITION. The Admission Unit: the checks 1 to 9 in their order, relocation, and the refusal reply (chapter
Admission). A check answers the refusal code of its first failure, or none when it passes. -/

namespace Sys2Proof.Machine

/-- The kind of request that Admission judges (R57). -/
inductive RequestKind where
  | beginTransfer
  | readTransfer
  | eraseSegment
  | control (request : Nat)
  deriving DecidableEq, Repr

/-- The kind a request reports to the Condition Unit (R75, R173). -/
def RequestKind.op : RequestKind → OpKind
  | .beginTransfer => .beginTransfer
  | .readTransfer => .readTransfer
  | .eraseSegment => .eraseSegment
  | .control request => .control request

/-- What a refusal by Admission carries: the code, the number of the failed check and the segment (R73). -/
structure Denial where
  code : Code
  check : Nat
  segment : Option Nat
  deriving DecidableEq, Repr

/-- A check's answer with its number and the segment a refusal carries. -/
def deny (check : Nat) (segment : Option Nat) (code : Option Code) : Option Denial :=
  code.map (fun c => { code := c, check := check, segment := segment })

/-- The refusal code when a condition holds. -/
def refuseWhen (b : Bool) (c : Code) : Option Code := if b then some c else none

/-! ### Relocation (R55) -/

/-- The real segment of a number named in a volume, by the entry's staging window (R55). -/
def InitiatorEntry.relocate (e : InitiatorEntry) (v n : Nat) : Nat :=
  match e.window with
  | some w =>
    if w.volume = v then
      if n < Config.labelSegments then w.base + n
      else if w.base ≤ n && n < w.base + Config.labelSegments then n - w.base
      else n
    else n
  | none => n

/-- The real segment lies inside the entry's staging window (R66). -/
def InitiatorEntry.inWindow (e : InitiatorEntry) (v n : Nat) : Bool :=
  match e.window with
  | some w => decide (w.volume = v) && decide (w.base ≤ n) && decide (n < w.base + Config.labelSegments)
  | none => false

/-- The segment lies in the label area (R6). -/
def inLabel (n : Nat) : Bool := decide (n < Config.labelSegments)

/-- The entry's volume set holds a volume (R50, R187). -/
def InitiatorEntry.hasVolume (e : InitiatorEntry) (v : Nat) : Bool :=
  decide (1 ≤ v) && decide (v ≤ 4) && e.volumes.getLsbD (v - 1)

/-! ### The checks -/

/-- Check 1: the sender's entry against the kind of request (R52, R58). -/
def check1 (e : InitiatorEntry) (k : RequestKind) : Option Code :=
  match e.state with
  | .absent => some .unknownInitiator
  | .suspended => if k = .control 1 then none else some .suspended
  | .enabled =>
    match k with
    | .eraseSegment => refuseWhen (!e.disposer) .notDisposer
    | .control request => refuseWhen (!decide (request = 1) && !e.officer) .notOfficer
    | .beginTransfer => none
    | .readTransfer => none

/-- Check 2: the volume is 1 to 4, in the sender's set and not Absent (R59). -/
def check2 (s : State) (e : InitiatorEntry) (v : Nat) : Option Code :=
  refuseWhen (!e.hasVolume v || decide ((s.volume v).state = .absent)) .noVolume

/-- Check 4, the part every request meets: the segment is below the volume's count (R60). -/
def checkSegmentRange (s : State) (v n : Nat) : Option Code :=
  refuseWhen (!decide (n < (s.volume v).count)) .outOfRange

/-- Check 4 for a BEGIN: declared length, class, and for class 0 the offset (R60). -/
def checkBeginRange (f : Frame) : Option Code :=
  refuseWhen
    (decide (f.count < 1) || decide (Config.segmentBlocks < f.count) || decide (63 < f.cls) ||
      (decide (f.cls = 0) && decide (16383 < f.offset))) .outOfRange

/-- Check 4 for a READ: offset and count (R60). -/
def checkReadRange (f : Frame) : Option Code :=
  refuseWhen (decide (16383 < f.offset) || decide (f.count < 1) || decide (64 < f.count)) .outOfRange

/-- Check 5: label, read-only, inhibit, in that order (R61). -/
def check5 (s : State) (e : InitiatorEntry) (v n : Nat) : Option Code :=
  if inLabel n && !e.officer then some .labelDenied
  else if e.readOnly || decide ((s.volume v).state = .readOnly) then some .readOnly
  else if s.inhibited v n then some .inhibitDenied
  else none

/-- Check 6 passes: the master key, the segment's key, the common area, or no key (R62). -/
def keyPasses (s : State) (e : InitiatorEntry) (v n : Nat) : Bool :=
  match (s.segment v n).key with
  | none => true
  | some k => decide (e.key = 0) || decide (e.key = k) || (decide (k = 15) && (s.volume v).commonKey)

/-- Check 6: the key (R62). -/
def check6 (s : State) (e : InitiatorEntry) (v n : Nat) : Option Code :=
  refuseWhen (!keyPasses s e v n) .keyDenied

/-- The class of a segment has read protection (R63). -/
def readProtected (s : State) (g : Segment) : Bool :=
  match g.cls with
  | some c =>
    match s.classEntry c with
    | some e => e.readProtection
    | none => false
  | none => false

/-- Check 6 for a READ: not judged in the label area or without read protection (R63). -/
def checkReadKey (s : State) (e : InitiatorEntry) (v n : Nat) : Option Code :=
  if inLabel n || !readProtected s (s.segment v n) then none else check6 s e v n

/-- The placement rule: true when class and segment break it (R66). -/
def misplaced (e : InitiatorEntry) (v n cls : Nat) : Bool :=
  (e.inWindow v n && !decide (cls = 0)) || (!e.inWindow v n && decide (cls = 0)) ||
  (inLabel n && !decide (cls = 1)) || (!inLabel n && decide (cls = 1))

/-- Check 7 for a BEGIN, sub-checks 7a to 7f (R64). -/
def checkBeginState (s : State) (e : InitiatorEntry) (v n cls : Nat) : Option Code :=
  let g := s.segment v n
  if g.state = .closed || g.state = .expired || g.state = .erasing then some .stateDenied
  else if g.state = .opened && !decide (g.cls = some cls) then some .classMismatch
  else if s.classEntry cls = none then some .classUndefined
  else if misplaced e v n cls then some .classMismatch
  else if g.state = .opened && g.writer.isSome then some .segmentBusy
  else if !decide (cls = 0) && !s.running then some .clockUnset
  else none

/-- Check 7 for a READ: Blank and Erasing are refused (R63). -/
def checkReadState (s : State) (v n : Nat) : Option Code :=
  match (s.segment v n).state with
  | .blank => some .stateDenied
  | .erasing => some .stateDenied
  | .opened => none
  | .closed => none
  | .expired => none

/-- Check 7 for an ERASE, sub-checks 7a to 7d (R69). -/
def checkEraseState (s : State) (v n : Nat) : Option Code :=
  let g := s.segment v n
  match g.state with
  | .blank => some .stateDenied
  | .opened => some .stateDenied
  | .erasing => some .stateDenied
  | .closed => some .notExpired
  | .expired =>
    if !s.running then some .clockUnset
    else if s.today < g.expiry.getD 0 then some .notExpired
    else if s.covered v n then some .held
    else none

/-- The start offset of a BEGIN: the offset it gives for class 0, the append point otherwise (R79). -/
def startOffset (s : State) (f : Frame) (n : Nat) : Nat :=
  if f.cls = 0 then f.offset else (s.segment f.volume n).appendPoint

/-- The space left in the real segment (R67). -/
def spaceLeft (s : State) (f : Frame) (n : Nat) : Nat := Config.segmentBlocks - startOffset s f n

/-- The BEGIN needs the next segment (R67). -/
def spans (s : State) (f : Frame) (n : Nat) : Bool := decide (spaceLeft s f n < f.count)

/-- The next segment of a span may be reserved (R68). -/
def nextAllowed (s : State) (e : InitiatorEntry) (v n cls : Nat) : Bool :=
  decide (n % Config.zoneSegments < 4095) && decide (n + 1 < (s.volume v).count) &&
  (s.zone v (zoneOf n)).spanning && decide ((s.segment v (n + 1)).state = .blank) &&
  !e.inWindow v (n + 1) && (!decide (cls = 1) || inLabel (n + 1)) &&
  (check5 s e v (n + 1)).isNone && (check6 s e v (n + 1)).isNone

/-- Check 8: the declared length fits, or a span is permitted (R67, R68). -/
def check8 (s : State) (e : InitiatorEntry) (f : Frame) (n : Nat) : Option Code :=
  if !spans s f n then none
  else if f.cls = 0 || !f.spanFlag then some .countLong
  else if spaceLeft s f n = 0 then some .spanBlocked
  else refuseWhen (!nextAllowed s e f.volume n f.cls) .spanBlocked

/-- Check 9, the tag part (R70). -/
def checkTag (s : State) (i t : Nat) : Option Code := refuseWhen (s.tagLive i t) .tagInUse

/-- Check 9, the context part (R71). -/
def checkContext (s : State) : Option Code := refuseWhen s.freeContext.isNone .busy

/-! ### The order of checks for each kind of request (R57) -/

/-- The first denial of a list of checks' answers. -/
def firstDenial : List (Option Denial) → Option Denial
  | [] => none
  | some d :: _ => some d
  | none :: rest => firstDenial rest

/-- The checks of a BEGIN (R57); none when it is admitted. -/
def judgeBegin (s : State) (f : Frame) : Option Denial :=
  let e := s.initiator f.initiator
  let n := e.relocate f.volume f.segment
  firstDenial
    [deny 1 (some f.segment) (check1 e .beginTransfer),
     deny 2 (some f.segment) (check2 s e f.volume),
     deny 4 (some n) (checkSegmentRange s f.volume n),
     deny 4 (some n) (checkBeginRange f),
     deny 5 (some n) (check5 s e f.volume n),
     deny 6 (some n) (check6 s e f.volume n),
     deny 7 (some n) (checkBeginState s e f.volume n f.cls),
     deny 8 (some n) (check8 s e f n),
     deny 9 (some n) (checkTag s f.initiator f.tag),
     deny 9 (some n) (checkContext s)]

/-- The checks of a READ (R57, R63). -/
def judgeRead (s : State) (f : Frame) : Option Denial :=
  let e := s.initiator f.initiator
  let n := e.relocate f.volume f.segment
  firstDenial
    [deny 1 (some f.segment) (check1 e .readTransfer),
     deny 2 (some f.segment) (check2 s e f.volume),
     deny 4 (some n) (checkSegmentRange s f.volume n),
     deny 4 (some n) (checkReadRange f),
     deny 6 (some n) (checkReadKey s e f.volume n),
     deny 7 (some n) (checkReadState s f.volume n),
     deny 9 (some n) (checkTag s f.initiator f.tag),
     deny 9 (some n) (checkContext s)]

/-- The checks of an ERASE (R57, R69). -/
def judgeErase (s : State) (f : Frame) : Option Denial :=
  let e := s.initiator f.initiator
  let n := e.relocate f.volume f.segment
  firstDenial
    [deny 1 (some f.segment) (check1 e .eraseSegment),
     deny 2 (some f.segment) (check2 s e f.volume),
     deny 4 (some n) (checkSegmentRange s f.volume n),
     deny 5 (some n) (check5 s e f.volume n),
     deny 6 (some n) (check6 s e f.volume n),
     deny 7 (some n) (checkEraseState s f.volume n),
     deny 9 (some n) (checkTag s f.initiator f.tag)]

/-- The checks of a write-type control request on a volume and a segment it names (R57, R59). -/
def judgeWriteControl (s : State) (f : Frame) (v named : Nat) : Option Denial :=
  let e := s.initiator f.initiator
  let n := e.relocate v named
  firstDenial
    [deny 1 (some named) (check1 e (.control f.code)),
     deny 2 (some named) (check2 s e v),
     deny 4 (some n) (checkSegmentRange s v n),
     deny 5 (some n) (check5 s e v n),
     deny 6 (some n) (check6 s e v n),
     deny 9 (some n) (checkTag s f.initiator f.tag)]

/-- The checks of another control request: check 1 and the tag part of check 9 (R57). The segment, where the request
names one, is carried as named by a refusal at check 1 and as relocated by one at check 9 (R56, R73). -/
def judgeControl (s : State) (f : Frame) (named real : Option Nat) : Option Denial :=
  firstDenial
    [deny 1 named (check1 (s.initiator f.initiator) (.control f.code)),
     deny 9 real (checkTag s f.initiator f.tag)]

/-! ### Refusals (R73 to R75) -/

/-- The condition a refusal by Admission raises (R75). -/
def Code.condition : Code → Option Cond
  | .keyDenied => some .keyDenied
  | .stateDenied => some .wormDenied
  | .inhibitDenied => some .inhibitDenied
  | .readOnly => some .inhibitDenied
  | .labelDenied => some .labelDenied
  | .unknownInitiator => none
  | .suspended => none
  | .notDisposer => none
  | .notOfficer => none
  | .noVolume => none
  | .outOfRange => none
  | .notExpired => none
  | .classMismatch => none
  | .classUndefined => none
  | .segmentBusy => none
  | .clockUnset => none
  | .held => none
  | .countLong => none
  | .spanBlocked => none
  | .tagInUse => none
  | .busy => none
  | .format => none
  | .lowering => none
  | .tableFull => none
  | .eraseInProgress => none
  | .limit => none
  | .eraseFailed => none
  | .overrun => none
  | .transferIdle => none
  | .faultLost => none
  | .mediaFault => none

/-- The refusal's completion is reported with the condition it raises, if any (R75). -/
def reportDenial (f : Frame) (k : RequestKind) (d : Denial) (s : State) : State :=
  match d.code.condition with
  | some c => s.raiseAlone (requestOp f.initiator f.tag k.op) c
  | none => s

/-- The refusal reply of Admission (R73, R74); a refusal of check 1 reaches an Absent initiator too (R54). -/
def denialFrame (f : Frame) (d : Denial) : Frame :=
  refusedFrame f.initiator f.tag f.volume d.code false d.check d.segment none

/-- A request refused by Admission is answered and reported, and changes nothing else (R73 to R75). -/
def refuse (f : Frame) (k : RequestKind) (d : Denial) (s : State) : State :=
  let s := reportDenial f k d s
  if d.check = 1 then s.sendAnyway (denialFrame f d) else s.send (denialFrame f d)

/-- A refusal by the Control Unit after admission: Suppressed, failed check 0 (R74). -/
def refuseControl (f : Frame) (code : Code) (segment : Option Nat) (s : State) : State :=
  s.send (refusedFrame f.initiator f.tag f.volume code false 0 segment none)

/-- A reply to a control request that is not refused (R193). -/
def answerControl (f : Frame) (status : Status) (words : List Nat) (s : State) : State :=
  s.send (controlReply f.initiator f.tag f.code status words)

/-! ### Taking a frame (R183) -/

/-- The head frame of the receive queue is taken when the transmit queue is below its intake limit; `pick` says
whether the row's event is the taking of this frame, and `act` is what the frame does (R183, R184; log 4). -/
def takeFrame (pick : RxFrame → Bool) (act : RxFrame → State → State) (s : State) : State :=
  match s.rxQueue with
  | x :: rest =>
    if pick x && decide (s.txQueue.length < Config.intakeLimit) then act x { s with rxQueue := rest } else s
  | [] => s

/-- A frame of good form of a kind. -/
def isKind (kind : Nat) : RxFrame → Bool
  | .whole f => f.goodForm && decide (f.kind = kind)
  | .cutShort => false

/-- A CONTROL frame of good form with a request number. -/
def isRequest (request : Nat) : RxFrame → Bool
  | .whole f => f.goodForm && decide (f.kind = 6) && decide (f.code = request)
  | .cutShort => false

/-- What a frame does, for a frame whose header arrived whole. -/
def onFrame (act : Frame → State → State) (x : RxFrame) (s : State) : State :=
  match x with
  | .whole f => act f s
  | .cutShort => s

/-- The event of taking a frame of a kind (R183). -/
def frameEvent (kind : Nat) (act : Frame → State → State) (s : State) : State :=
  onEvent s (takeFrame (isKind kind) (onFrame act))

/-- The event of taking a control request with a number (R183, R193). -/
def requestEvent (request : Nat) (act : Frame → State → State) (s : State) : State :=
  onEvent s (takeFrame (isRequest request) (onFrame act))

/-- A control request other than the write-type ones that names no single segment: judged, then carried out by the
Control Unit (R57, R193). -/
def controlEvent (request : Nat) (act : Frame → State → State) (s : State) : State :=
  requestEvent request
    (fun f s =>
      match judgeControl s f none none with
      | some d => refuse f (.control f.code) d s
      | none => act f s) s

/-- A write-type control request: judged on the volume and segment its first two parameters name, then carried out
on the real segment (R57, R72). -/
def writeControlEvent (request : Nat) (act : Frame → Nat → State → State) (s : State) : State :=
  requestEvent request
    (fun f s =>
      match judgeWriteControl s f (f.param 0) (f.param 1) with
      | some d => refuse f (.control f.code) d s
      | none => act f ((s.initiator f.initiator).relocate (f.param 0) (f.param 1)) s) s

end Sys2Proof.Machine
end

