-- ==== Sys2Proof/Machine/Requests.lean ====
section
/-! DEFINITION. The frames of transfers, reads and erases: MALFORMED_FRAME, BEGIN, DATA, END, READ, ERASE, and the
idle timer of a write context. -/

namespace Sys2Proof.Machine

/-! ### MALFORMED_FRAME (R189) -/

/-- A frame of bad form. -/
def isMalformed : RxFrame → Bool
  | .whole f => !f.goodForm
  | .cutShort => true

/-- The reply to a malformed frame (R189; log 15). -/
def formatFrame (f : Frame) : Frame := refusedFrame f.initiator f.tag f.volume .format false 0 none none

/-- A malformed frame is refused FORMAT, or discarded when its initiator is above 31 or Absent (R189). A frame too
short for its header names no initiator and is discarded (log 13). -/
def takeMalformed (x : RxFrame) (s : State) : State :=
  match x with
  | .whole f => s.send (formatFrame f)
  | .cutShort => s

/-- MALFORMED_FRAME (R189). -/
def execMalformedFrame (s : State) : Host.Outcome State Fault Refusal :=
  .next (onEvent s (takeFrame isMalformed takeMalformed))

/-! ### BEGIN (R72, R79) -/

/-- The descriptor of a segment that a BEGIN or a span opens (R9, R10, R11). Its activity flags are no as R9 gives, also
when a late delivery has set the read flag of the Blank segment (R110; log 55). -/
def openedSegment (s : State) (v n cls : Nat) (key : Option Nat) (continued : Option Nat) (c : Nat) : Segment :=
  { Segment.fresh with
    state := .opened
    cls := some cls
    key := key
    generation := (s.segment v n).generation
    holdCount := s.holdCountAt v n cls
    continuedFrom := continued
    writer := some c }

/-- The named segment is opened when Blank, or its writer set when Open (R9). -/
def openNamed (f : Frame) (n c : Nat) (s : State) : State :=
  let g := s.segment f.volume n
  if g.state = .blank then
    s.putSegment f.volume n (openedSegment s f.volume n f.cls (some (s.initiator f.initiator).key) none c)
  else s.putSegment f.volume n { g with writer := some c }

/-- The next segment is reserved with the class and key of the named one (R10). -/
def reserveNext (f : Frame) (n c : Nat) (s : State) : State :=
  s.putSegment f.volume (n + 1)
    (openedSegment s f.volume (n + 1) f.cls (s.segment f.volume n).key (some n) c)

/-- The write context an admitted BEGIN opens (R79). -/
def freshWrite (s : State) (f : Frame) (n start : Nat) (span : Bool) : WriteContext :=
  { state := .streaming
    initiator := f.initiator
    tag := f.tag
    volume := f.volume
    current := n
    next := if span then some (n + 1) else none
    received := 0
    remaining := f.count
    forwardSegment := n
    forwardOffset := start
    confirmedOffset := start
    pending := []
    credit := 3
    closeFlag := none
    outcome := 0#18
    idle := some s.idleTime
    startSegment := n
    startOffset := start
    fatal := none
    silent := false
    removed := false }

/-- The start reply (R79, R192). -/
def startFrame (f : Frame) (n start : Nat) (span : Bool) : Frame :=
  { replyFrame f.initiator f.tag f.volume .done with flags := 4, segment := n, offset := start, count := 3
  }.withPayload
    (wordsBytes
      (if span then [n + 1, Config.segmentBlocks - start] else [Config.absentWord, Config.absentWord]))

/-- An admitted BEGIN: the segment is opened or continued, the next one reserved when the transfer spans, the context
opened in Streaming, and the start reply sent (R9, R10, R72, R79). -/
def admittedBegin (f : Frame) (c : Nat) (s : State) : State :=
  let n := (s.initiator f.initiator).relocate f.volume f.segment
  let start := startOffset s f n
  let span := spans s f n
  let w := freshWrite s f n start span
  let s := openNamed f n c s
  let s := if span then reserveNext f n c s else s
  (s.putWrite c w).send (startFrame f n start span)

/-- A BEGIN is judged and, when admitted, opens its transfer (R72). -/
def takeBegin (f : Frame) (s : State) : State :=
  match judgeBegin s f, s.freeContext with
  | some d, _ => refuse f .beginTransfer d s
  | none, some c => admittedBegin f c s
  | none, none => s

/-- BEGIN (R72). -/
def execBeginFrame (s : State) : Host.Outcome State Fault Refusal := .next (frameEvent 1 takeBegin s)

/-! ### DATA (R81 to R85, R93) -/

/-- The write context that a DATA or END frame's pair names (R80). -/
def State.writeOf (s : State) (i t : Nat) : Option (Nat × WriteContext) :=
  (List.range 32).findSome? (fun c =>
    match s.context c with
    | .write w => if (Context.write w).holdsTag i t then some (c, w) else none
    | .read _ => none
    | .free => none)

/-- A frame of n blocks crosses the end of segment S (R85). -/
def WriteContext.crosses (w : WriteContext) (n : Nat) : Bool :=
  decide (w.forwardSegment = w.startSegment) && w.next.isSome && decide (Config.segmentBlocks < w.forwardOffset + n)

/-- A pending write that joins the list (R84). -/
def freshPending (segment offset count : Nat) (data : List Byte) : PendingWrite :=
  { segment := segment, offset := offset, count := count, mediaTag := none, confirmed := false, data := data }

/-- The pending writes an accepted frame makes: one, or two when it crosses (R82, R85). -/
def WriteContext.newPending (w : WriteContext) (n : Nat) (data : List Byte) : List PendingWrite :=
  if w.crosses n then
    let first := Config.segmentBlocks - w.forwardOffset
    [freshPending w.forwardSegment w.forwardOffset first (takeBlocks first data),
     freshPending (w.next.getD 0) 0 (n - first) (dropBlocks first data)]
  else [freshPending w.forwardSegment w.forwardOffset n data]

/-- The forward point after an accepted frame: carried into N when it reaches or passes the end of S in a spanning
transfer (R82, R85). -/
def WriteContext.forwardAfter (w : WriteContext) (n : Nat) : Nat × Nat :=
  if w.forwardSegment = w.startSegment then
    match w.next with
    | some m =>
      if w.forwardOffset + n < Config.segmentBlocks then (w.forwardSegment, w.forwardOffset + n)
      else (m, w.forwardOffset + n - Config.segmentBlocks)
    | none => (w.forwardSegment, w.forwardOffset + n)
  else (w.forwardSegment, w.forwardOffset + n)

/-- The written-since-audit flag of each segment that receives a block becomes yes (R82, R111). -/
def markWritten (v : Nat) : List PendingWrite → State → State
  | [], s => s
  | e :: rest, s =>
    markWritten v rest (s.putSegment v e.segment { s.segment v e.segment with writtenSince := true })

/-- The context after an accepted frame (R82). -/
def WriteContext.accept (w : WriteContext) (n : Nat) (es : List PendingWrite) (idleTime : Nat) : WriteContext :=
  { w with
    pending := w.pending ++ es
    forwardSegment := (w.forwardAfter n).1
    forwardOffset := (w.forwardAfter n).2
    received := w.received + n
    remaining := w.remaining - n
    credit := w.credit - es.length
    idle := if w.credit - es.length = 0 then none else some idleTime }

/-- An accepted DATA frame (R82). -/
def acceptData (c : Nat) (w : WriteContext) (n : Nat) (data : List Byte) (s : State) : State :=
  let es := w.newPending n data
  let s := (s.putWrite c (w.accept n es s.idleTime)).ask .write (es.map (w.request c))
  markWritten w.volume es s

/-- A DATA frame in Streaming (R81). -/
def streamData (c : Nat) (w : WriteContext) (n : Nat) (data : List Byte) (s : State) : State :=
  if w.credit = 0 then fatalWrite c w .overrun .overrun s
  else if w.declared < w.received + n then fatalWrite c w .countLong .countLong s
  else if w.crosses n && decide (w.credit = 1) then fatalWrite c w .overrun .overrun s
  else acceptData c w n data s

/-- A DATA frame discarded with a condition that is not fatal (R93). -/
def noteData (c : Nat) (w : WriteContext) (cond : Cond) (s : State) : State :=
  let (w, s) := raiseFor w cond s
  s.putWrite c w

/-- A DATA frame, by the state of its context (R81, R93); discarded when its pair names no write context (R80). -/
def takeData (f : Frame) (s : State) : State :=
  match s.writeOf f.initiator f.tag with
  | some (c, w) =>
    match w.state with
    | .streaming => streamData c w f.count f.payload s
    | .draining => noteData c w .countLong s
    | .aborting => s
    | .faulted => noteData c w .overrun s
    | .reissuing => noteData c w .overrun s
  | none => s

/-- DATA (R81). -/
def execDataFrame (s : State) : Host.Outcome State Fault Refusal := .next (frameEvent 2 takeData s)

/-! ### END (R91, R93) -/

/-- An END in Streaming (R91). -/
def streamEnd (c : Nat) (w : WriteContext) (close : Bool) (s : State) : State :=
  let w := { w with closeFlag := some close, idle := none }
  let (w, s) := if w.remaining = 0 then (w, s) else raiseFor w .countShort s
  if w.pending = [] then completeWrite c w s else s.putWrite c { w with state := .draining }

/-- An END frame, by the state of its context (R91, R93); discarded when its pair names no write context (R80). -/
def takeEnd (f : Frame) (s : State) : State :=
  match s.writeOf f.initiator f.tag with
  | some (c, w) =>
    match w.state with
    | .streaming => streamEnd c w f.closeFlag s
    | .draining => s
    | .aborting => s
    | .faulted => s
    | .reissuing => s
  | none => s

/-- END (R91). -/
def execEndFrame (s : State) : Host.Outcome State Fault Refusal := .next (frameEvent 3 takeEnd s)

/-! ### READ (R102, R103) -/

/-- The count a READ serves: clamped at the append point (R102). -/
def servedCount (offset count appendPoint : Nat) : Nat := min count (appendPoint - offset)

/-- The read context an admitted READ opens, with its read list (R101, R103). The first offset of an empty served range
is the READ's own offset (R102, R105; log 46). -/
def freshRead (s : State) (f : Frame) (n : Nat) : ReadContext :=
  let served := servedCount f.offset f.count (s.segment f.volume n).appendPoint
  { initiator := f.initiator
    tag := f.tag
    volume := f.volume
    segment := n
    requested := f.count
    firstOffset := f.offset
    served := served
    list := (pieces 8 f.offset (f.offset + served)).map waitingEntry
    delivered := 0
    ending := none
    outcome := 0#18 }

/-- An admitted READ: its served range is fixed and cut into media reads; an empty range is answered at once (R102,
R103). -/
def admittedRead (f : Frame) (c : Nat) (s : State) : State :=
  let r := freshRead s f ((s.initiator f.initiator).relocate f.volume f.segment)
  settleRead c r (s.ask .read (r.requests c))

/-- A READ is judged and, when admitted, opens its read (R72). -/
def takeRead (f : Frame) (s : State) : State :=
  match judgeRead s f, s.freeContext with
  | some d, _ => refuse f .readTransfer d s
  | none, some c => admittedRead f c s
  | none, none => s

/-- READ (R102). -/
def execReadFrame (s : State) : Host.Outcome State Fault Refusal := .next (frameEvent 4 takeRead s)

/-! ### ERASE (R20) -/

/-- An ERASE is judged and, when admitted, moves its segment to Erasing (R20, R72). -/
def takeErase (f : Frame) (s : State) : State :=
  match judgeErase s f with
  | some d => refuse f .eraseSegment d s
  | none =>
    startErase f.volume ((s.initiator f.initiator).relocate f.volume f.segment) (some (f.initiator, f.tag)) s

/-- ERASE (R20). -/
def execEraseFrame (s : State) : Host.Outcome State Fault Refusal := .next (frameEvent 5 takeErase s)

/-! ### TRANSFER_IDLE (R96) -/

/-- The idle timer of a context has run out: it stands at no remaining time (R96; log 9). -/
def idleExpires (c : Nat) (s : State) : State :=
  match s.context c with
  | .write w =>
    if w.state = .streaming && decide (w.idle = some 0) then fatalWrite c w .transferIdle .transferIdle s else s
  | .read _ => s
  | .free => s

/-- TRANSFER_IDLE (R96). -/
def execTransferIdle (context : Nat) (s : State) : Host.Outcome State Fault Refusal :=
  .next (onEvent s (idleExpires context))

end Sys2Proof.Machine
end

