-- ==== Sys2Proof/Machine/Tables.lean ====
section
/-! DEFINITION. Control requests on the tables: LOAD INITIATOR, LOAD CLASS, SET VOLUME, SET ZONE, SET NOTICE, SET
TIMEOUTS and CLEAR CONDITIONS. -/

namespace Sys2Proof.Machine

/-- A word that stands for a yes/no value names none (R193). -/
def badFlag (w : Nat) : Bool := decide (1 < w)

/-- A word read as a yes/no value (R187). -/
def wordFlag (w : Nat) : Bool := decide (w = 1)

/-! ### LOAD INITIATOR (R53, R54) -/

/-- The entry the parameters give; a state Absent leaves the other fields unread (R53). -/
def givenEntry (f : Frame) : InitiatorEntry :=
  if f.param 1 = 0 then InitiatorEntry.absent
  else
    { state := if f.param 1 = 1 then .enabled else .suspended
      key := f.param 2
      officer := wordFlag (f.param 3)
      disposer := wordFlag (f.param 4)
      readOnly := wordFlag (f.param 5)
      volumes := BitVec.ofNat 4 (f.param 6)
      window :=
        match wordOption (f.param 7), wordOption (f.param 8) with
        | some v, some b => some { volume := v, base := b }
        | some _, none => none
        | none, some _ => none
        | none, none => none }

/-- A parameter that stands for a named value or a yes/no value names none (R193). -/
def badEntryNames (f : Frame) : Bool :=
  decide (2 < f.param 1) ||
    (!decide (f.param 1 = 0) && (badFlag (f.param 3) || badFlag (f.param 4) || badFlag (f.param 5)))

/-- A given number lies out of its range (R53, row 3). -/
def badEntryRange (f : Frame) : Bool :=
  decide (15 < f.param 2) ||
  (match wordOption (f.param 7) with
   | some v => decide (v < 1) || decide (4 < v)
   | none => false) ||
  (match wordOption (f.param 8) with
   | some b => decide (b < 8) || decide (65528 < b)
   | none => false)

/-- The given entry has not the form R53 asks for (rows 4 and 5). -/
def badEntryForm (f : Frame) : Bool :=
  !decide ((wordOption (f.param 7)).isSome = (wordOption (f.param 8)).isSome) || decide (15 < f.param 6) ||
  (match (givenEntry f).window with
   | some w => !(givenEntry f).hasVolume w.volume
   | none => false)

/-- Two staging windows share a segment of a volume (R53). -/
def Window.shares (a b : Window) : Bool :=
  decide (a.volume = b.volume) && decide (a.base < b.base + 8) && decide (b.base < a.base + 8)

/-- The window of an entry shares a segment with that of another entry that is not Absent (R53). -/
def windowTaken (s : State) (i : Nat) (e : InitiatorEntry) : Bool :=
  match e.window with
  | some w =>
    (List.range 32).any (fun j =>
      !decide (j = i) && s.present j &&
        (match (s.initiator j).window with
         | some x => w.shares x
         | none => false))
  | none => false

/-- With the entry given, no Enabled officer would remain (R53). -/
def lastOfficer (s : State) (i : Nat) (e : InitiatorEntry) : Bool :=
  !(List.range 32).any (fun j =>
    let x := if j = i then e else s.initiator j
    decide (x.state = .enabled) && x.officer)

/-- The judgement of a LOAD INITIATOR (R53, R193). -/
def judgeLoadInitiator (s : State) (f : Frame) : Option Code :=
  if badEntryNames f then some .format
  else if 31 < f.param 0 then some .outOfRange
  else if !decide (f.param 1 = 0) && badEntryRange f then some .outOfRange
  else if !decide (f.param 1 = 0) && badEntryForm f then some .format
  else if windowTaken s (f.param 0) (givenEntry f) then some .stateDenied
  else if lastOfficer s (f.param 0) (givenEntry f) then some .stateDenied
  else none

/-- What the removal of an initiator does to a context of its: the transfer is terminated without a reply, left to
its fault record, or the read freed (R54, R97, R108). -/
def removeContext (i c : Nat) (s : State) : State :=
  match s.context c with
  | .write w =>
    if w.initiator = i then
      match w.state with
      | .streaming => abortWrite c { w with silent := true, removed := true } s
      | .draining => abortWrite c { w with silent := true, removed := true } s
      | .aborting => s.putWrite c { w with silent := true, removed := true }
      | .faulted => s.putWrite c { w with removed := true }
      | .reissuing => s.putWrite c { w with removed := true }
    else s
  | .read r => if r.initiator = i then dropRead c r s else s
  | .free => s

/-- A step done for each context in ascending number. -/
def eachContext (f : Nat → State → State) : List Nat → State → State
  | [], s => s
  | c :: rest, s => eachContext f rest (f c s)

/-- A refusal reply of check 1, which an Absent initiator may receive (R54). -/
def isCheckOneRefusal (f : Frame) : Bool :=
  decide (f.kind = 7) && decide (f.status = Status.refused.number) && decide (f.param 1 = 1)

/-- A requester of an initiator is dropped (R133, R156). -/
def dropOf (i : Nat) (r : Option (Nat × Nat)) : Option (Nat × Nat) :=
  match r with
  | some p => if p.1 = i then none else some p
  | none => none

/-- The requesters of erases that p drops become absent (R133). -/
def State.dropRequesters (s : State) (p : Option (Nat × Nat) → Option (Nat × Nat)) : State :=
  { s with eraseQueue := s.eraseQueue.map (fun e => { e with requester := p e.requester }) }

/-- The resumers of fault records that p drops become absent (R156). -/
def State.dropResumers (s : State) (p : Option (Nat × Nat) → Option (Nat × Nat)) : State :=
  { s with records := s.records.map (fun r => r.map (fun x => { x with resumer := p x.resumer })) }

/-- An initiator's entry has become Absent: its live work is ended at once and the frames waiting for it are not sent
(R54, R108, R133, R156; log 25, log 26). -/
def removeInitiator (i : Nat) (s : State) : State :=
  let s := eachContext (removeContext i) (List.range 32) s
  let s := (s.dropRequesters (dropOf i)).dropResumers (dropOf i)
  { s with
    collection := s.collection.filter (fun c => !decide (c.initiator = i))
    txQueue := s.txQueue.filter (fun f => !decide (f.initiator = i) || isCheckOneRefusal f) }

/-- An entry is written; one that becomes Absent ends its initiator's work (R53, R54). -/
def writeEntry (i : Nat) (e : InitiatorEntry) (s : State) : State :=
  let s := { s with initiators := Table.set s.initiators i e }
  if e.state = .absent then removeInitiator i s else s

/-- LOAD INITIATOR, once admitted (R53). -/
def actLoadInitiator (f : Frame) (s : State) : State :=
  match judgeLoadInitiator s f with
  | some code => refuseControl f code none s
  | none =>
    if givenEntry f = s.initiator (f.param 0) then answerControl f .unchanged [] s
    else answerControl f .done [] (writeEntry (f.param 0) (givenEntry f) s)

/-- LOAD_INITIATOR (R53). -/
def execLoadInitiator (s : State) : Host.Outcome State Fault Refusal := .next (controlEvent 2 actLoadInitiator s)

/-! ### LOAD CLASS (R41, R42) -/

/-- The post-trigger period the parameters give; an absent word counts as 0 when triggered is no (log 35). -/
def givenPost (f : Frame) : Period :=
  if wordFlag (f.param 4) then { months := f.param 6, days := f.param 7 }
  else { months := (wordOption (f.param 6)).getD 0, days := (wordOption (f.param 7)).getD 0 }

/-- The class entry the parameters give (R41). -/
def givenClass (f : Frame) : ClassEntry :=
  { base := { months := f.param 1, days := f.param 2 }
    post := if wordFlag (f.param 4) then some (givenPost f) else none
    permanent := wordFlag (f.param 3)
    triggered := wordFlag (f.param 4)
    readProtection := wordFlag (f.param 5) }

/-- A period lies out of its range (R39). -/
def Period.outOfRange (p : Period) : Bool := decide (1199 < p.months) || decide (4095 < p.days)

/-- A new entry lowers the old one (R42). -/
def ClassEntry.lowers (old new : ClassEntry) : Bool :=
  decide (new.base.inDays < old.base.inDays) ||
  (old.triggered &&
    decide ((new.post.getD { months := 0, days := 0 }).inDays < (old.post.getD { months := 0, days := 0 }).inDays)) ||
  (old.permanent && !new.permanent) || (old.triggered && !new.triggered)

/-- The judgement of a LOAD CLASS (R41, R193). -/
def judgeLoadClass (s : State) (f : Frame) : Option Code :=
  if badFlag (f.param 3) || badFlag (f.param 4) || badFlag (f.param 5) then some .format
  else if f.param 0 = 0 then some .stateDenied
  else if decide (63 < f.param 0) || (givenClass f).base.outOfRange || (givenPost f).outOfRange then some .outOfRange
  else if !wordFlag (f.param 4) && !decide (givenPost f = { months := 0, days := 0 }) then some .format
  else
    match s.classEntry (f.param 0) with
    | some old => refuseWhen (old.lowers (givenClass f)) .lowering
    | none => none

/-- LOAD CLASS, once admitted (R41). -/
def actLoadClass (f : Frame) (s : State) : State :=
  match judgeLoadClass s f with
  | some code => refuseControl f code none s
  | none =>
    if s.classEntry (f.param 0) = some (givenClass f) then answerControl f .unchanged [] s
    else answerControl f .done [] { s with classes := Table.set s.classes (f.param 0) (some (givenClass f)) }

/-- LOAD_CLASS (R41). -/
def execLoadClass (s : State) : Host.Outcome State Fault Refusal := .next (controlEvent 3 actLoadClass s)

/-! ### SET VOLUME (R25) -/

/-- The volume state a word names (R187, R2). -/
def wordVolumeState (w : Nat) : VolumeState :=
  if w = 1 then .online else if w = 2 then .readOnly else .absent

/-- A volume created or changed to a state, a count and flags: segments from the new count up and their zones are
removed, new ones come into being fresh, and the Blank count moves by the difference (R25). -/
def Volume.resize (x : Volume) (state : VolumeState) (count : Nat) (inhibit common : Bool) : Volume :=
  { state := state
    count := count
    writeInhibit := inhibit
    commonKey := common
    counts := { x.counts with blank := x.counts.blank + count - x.count }
    zones := (List.range (zoneCount count)).map (fun z => x.zones.getD z Zone.fresh)
    segments := Sparse.below count x.segments }

/-- Every segment from a number up is Blank (R25). -/
def Volume.blankFrom (x : Volume) (n : Nat) : Bool :=
  x.segments.all (fun e => decide (e.1 < n) || decide (e.2.state = .blank))

/-- A hold that is not Free lies on the volume with its last segment at or beyond a number (R25). -/
def heldFrom (s : State) (v n : Nat) : Bool := s.holdList.any (fun h => decide (h.volume = v) && decide (n ≤ h.last))

/-- The word of an entry of a collection's reply (section 10.4). -/
def ActivityEntry.word (e : ActivityEntry) : Nat :=
  e.segment * 4 + 2 * flagWord e.readSince + flagWord e.writtenSince

/-- A collection stops: its reply is sent with its entries and its resume segment, absent for end (R113). -/
def stopCollection (x : Collection) (resume : Option Nat) (s : State) : State :=
  { s with collection := none }.send
    (controlReply x.initiator x.tag 18 .done
      ([x.entries.length] ++ x.entries.map ActivityEntry.word ++ [optionWord resume]))

/-- An unfinished collection of a volume left with a count at or below its next segment stops there (R113; log 44). -/
def endCollection (v count : Nat) (s : State) : State :=
  match s.collection with
  | some x => if x.volume = v && count ≤ x.nextSegment then stopCollection x none s else s
  | none => s

/-- The Sweeper after a SET VOLUME that leaves a volume with a count of segments: a cursor whose segment is gone
leaves the volume at its next visit (R129; log 39). -/
def Sweeper.trimmed (x : Sweeper) (v count : Nat) : Sweeper :=
  match x.state with
  | .passing u n => if u = v && count ≤ n then { x with state := .leaving v } else x
  | .leaving _ => x
  | .idle => x

/-- A volume is written with a count of segments: the pass and the collection that stood beyond it are met, the
request answered first (R25, R113, R129; log 52). -/
def writeVolume (f : Frame) (v : Nat) (x : Volume) (s : State) : State :=
  endCollection v x.count
    (answerControl f .done [] { s.setVolume v x with sweeper := s.sweeper.trimmed v x.count })

/-- The judgement of a SET VOLUME (R25, R193). -/
def judgeSetVolume (s : State) (f : Frame) : Option Code :=
  let x := s.volume (f.param 0)
  if decide (2 < f.param 1) || badFlag (f.param 3) || badFlag (f.param 4) then some .format
  else if f.param 0 < 1 || 4 < f.param 0 then some .outOfRange
  else if f.param 1 = 0 then
    refuseWhen (!decide (x.state = .absent) && (!x.blankFrom 0 || heldFrom s (f.param 0) 0)) .stateDenied
  else if f.param 2 < 9 || 65536 < f.param 2 then some .outOfRange
  else
    refuseWhen (decide (f.param 2 < x.count) && (!x.blankFrom (f.param 2) || heldFrom s (f.param 0) (f.param 2)))
      .stateDenied

/-- SET VOLUME, once admitted (R25). -/
def actSetVolume (f : Frame) (s : State) : State :=
  match judgeSetVolume s f with
  | some code => refuseControl f code none s
  | none =>
    if f.param 1 = 0 then
      if (s.volume (f.param 0)).state = .absent then answerControl f .unchanged [] s
      else writeVolume f (f.param 0) Volume.absent s
    else
      writeVolume f (f.param 0)
        ((s.volume (f.param 0)).resize (wordVolumeState (f.param 1)) (f.param 2) (wordFlag (f.param 3))
          (wordFlag (f.param 4))) s

/-- SET_VOLUME (R25). -/
def execSetVolume (s : State) : Host.Outcome State Fault Refusal := .next (controlEvent 4 actSetVolume s)

/-! ### SET ZONE (R26) -/

/-- The judgement of a SET ZONE (R26, R193). -/
def judgeSetZone (s : State) (f : Frame) : Option Code :=
  if badFlag (f.param 2) || badFlag (f.param 3) then some .format
  else if f.param 0 < 1 || 4 < f.param 0 then some .outOfRange
  else if (s.volume (f.param 0)).state = .absent then some .noVolume
  else refuseWhen (decide (zoneCount (s.volume (f.param 0)).count ≤ f.param 1)) .outOfRange

/-- SET ZONE, once admitted (R26). -/
def actSetZone (f : Frame) (s : State) : State :=
  match judgeSetZone s f with
  | some code => refuseControl f code none s
  | none =>
    let x := s.volume (f.param 0)
    answerControl f .done []
      (s.setVolume (f.param 0)
        { x with
          zones := x.zones.set (f.param 1)
            { writeInhibit := wordFlag (f.param 2), spanning := wordFlag (f.param 3) } })

/-- SET_ZONE (R26). -/
def execSetZone (s : State) : Host.Outcome State Fault Refusal := .next (controlEvent 5 actSetZone s)

/-! ### CLEAR CONDITIONS, SET NOTICE, SET TIMEOUTS (R176, R177, R195) -/

/-- The groups a word names (R187). -/
def wordGroups (w : Nat) : List Group := allGroups.filter (fun g => w.testBit g.number)

/-- The flags without the members of the named groups (R176). -/
def CondSet.clearGroups (x : CondSet) (gs : List Group) : CondSet := gs.foldl (fun acc g => acc &&& ~~~ g.members) x

/-- CLEAR CONDITIONS, once admitted (R176). -/
def actClearConditions (f : Frame) (s : State) : State :=
  if f.param 0 = 0 || 32 ≤ f.param 0 then refuseControl f .format none s
  else if (wordGroups (f.param 0)).all (fun g => !s.conditions.accrued.groupSet g) then
    answerControl f .unchanged [s.conditions.accrued.groups.toNat] s
  else
    let x := s.conditions.accrued.clearGroups (wordGroups (f.param 0))
    answerControl f .done [x.groups.toNat] { s with conditions := { s.conditions with accrued := x } }

/-- CLEAR_CONDITIONS (R176). -/
def execClearConditions (s : State) : Host.Outcome State Fault Refusal := .next (controlEvent 19 actClearConditions s)

/-- SET NOTICE, once admitted (R177). -/
def actSetNotice (f : Frame) (s : State) : State :=
  if 31 < f.param 0 then refuseControl f .outOfRange none s
  else if 32 ≤ f.param 1 then refuseControl f .format none s
  else if s.conditions.noticeInitiator = f.param 0 && s.conditions.enables = BitVec.ofNat 5 (f.param 1) then
    answerControl f .unchanged [] s
  else
    answerControl f .done []
      { s with
        conditions :=
          { s.conditions with noticeInitiator := f.param 0, enables := BitVec.ofNat 5 (f.param 1) } }

/-- SET_NOTICE (R177). -/
def execSetNotice (s : State) : Host.Outcome State Fault Refusal := .next (controlEvent 20 actSetNotice s)

/-- A timeout that is present lies outside its range (R195). -/
def badTimeout (low high : Nat) (v : Option Nat) : Bool :=
  match v with
  | some x => decide (x < low) || decide (high < x)
  | none => false

/-- SET TIMEOUTS, once admitted (R195). -/
def actSetTimeouts (f : Frame) (s : State) : State :=
  let idle := wordOption (f.param 0)
  let media := wordOption (f.param 1)
  if badTimeout 5 300 idle || badTimeout 1 60 media then refuseControl f .outOfRange none s
  else if idle.getD s.idleTime = s.idleTime && media.getD s.mediaTimeout = s.mediaTimeout then
    answerControl f .unchanged [s.idleTime, s.mediaTimeout] s
  else
    answerControl f .done [idle.getD s.idleTime, media.getD s.mediaTimeout]
      { s with idleTime := idle.getD s.idleTime, mediaTimeout := media.getD s.mediaTimeout }

/-- SET_TIMEOUTS (R195). -/
def execSetTimeouts (s : State) : Host.Outcome State Fault Refusal := .next (controlEvent 21 actSetTimeouts s)

end Sys2Proof.Machine
end

