-- ==== Sys2Proof/Machine/Control.lean ====
section
/-! DEFINITION. Control requests on segments, holds, the clock, scans, fault records and activity: PLACE HOLD, RELEASE
HOLD, TRIGGER, EXTEND RETENTION, CLOSE, SET CLOCK, ADJUST CLOCK, SWEEP, LOAD SCAN, CANCEL SCAN, RELEASE SCAN, RESUME
and COLLECT ACTIVITY. -/

namespace Sys2Proof.Machine

/-! ### PLACE HOLD (R116) -/

/-- The volume of a request that judges it itself: 1 to 4, in the sender's set, not Absent (R112, R116, R161). -/
def volumeOpen (s : State) (f : Frame) (v : Nat) : Bool := (check2 s (s.initiator f.initiator) v).isNone

/-- A segment of the range is Erasing, of the filter's class when there is one (R116). -/
def erasingIn (s : State) (v first last : Nat) (filter : Option Nat) : Bool :=
  (s.volume v).segments.any (fun e =>
    decide (e.2.state = .erasing) && decide (first ≤ e.1) && decide (e.1 ≤ last) &&
      (decide (filter = none) || decide (filter = e.2.cls)))

/-- The lowest-numbered Free hold slot (R116). -/
def State.freeHold (s : State) : Option Nat := (List.range' 1 64).find? (fun h => decide (s.hold h = none))

/-- A class filter that is present lies outside 1 to 63 (R116). -/
def badFilter (filter : Option Nat) : Bool :=
  match filter with
  | some c => decide (c < 1) || decide (63 < c)
  | none => false

/-- The judgement of a PLACE HOLD before its slot (R116). -/
def judgePlaceHold (s : State) (f : Frame) : Option Code :=
  if !volumeOpen s f (f.param 0) then some .noVolume
  else if f.param 2 < f.param 1 || (s.volume (f.param 0)).count ≤ f.param 2 || badFilter (wordOption (f.param 3)) then
    some .outOfRange
  else if s.freeHold.isNone then some .tableFull
  else refuseWhen (erasingIn s (f.param 0) (f.param 1) (f.param 2) (wordOption (f.param 3))) .eraseInProgress

/-- The hold a PLACE HOLD places (R116). -/
def freshHold (s : State) (f : Frame) : Hold :=
  { phase := .placing (f.param 1)
    reference := f.param 4
    volume := f.param 0
    first := f.param 1
    last := f.param 2
    filter := wordOption (f.param 3)
    placed := s.now }

/-- PLACE HOLD, once admitted (R116). -/
def actPlaceHold (f : Frame) (s : State) : State :=
  match judgePlaceHold s f, s.freeHold with
  | some code, _ => refuseControl f code none s
  | none, some h =>
    answerControl f .done [h]
      { s.setHold h (some (freshHold s f)) with walkQueue := s.walkQueue ++ [h] }
  | none, none => s

/-- PLACE_HOLD (R116). -/
def execPlaceHold (s : State) : Host.Outcome State Fault Refusal := .next (controlEvent 6 actPlaceHold s)

/-! ### RELEASE HOLD (R118) -/

/-- RELEASE HOLD of a slot in use, by its state (R118). -/
def releaseHold (f : Frame) (slot : Nat) (h : Hold) (s : State) : State :=
  match h.phase with
  | .releasing _ _ => answerControl f .unchanged [3] s
  | .placing front =>
    if front = h.first then
      answerControl f .done [0]
        { s.setHold slot none with walkQueue := s.walkQueue.filter (fun q => !decide (q = slot)) }
    else answerControl f .done [3] (s.setHold slot (some { h with phase := .releasing h.first front }))
  | .active =>
    answerControl f .done [3]
      { s.setHold slot (some { h with phase := .releasing h.first (h.last + 1) }) with
        walkQueue := s.walkQueue ++ [slot] }

/-- RELEASE HOLD, once admitted (R118). -/
def actReleaseHold (f : Frame) (s : State) : State :=
  if f.param 0 < 1 || 64 < f.param 0 then refuseControl f .outOfRange none s
  else
    match s.hold (f.param 0) with
    | none => refuseControl f .stateDenied none s
    | some h => releaseHold f (f.param 0) h s

/-- RELEASE_HOLD (R118). -/
def execReleaseHold (s : State) : Host.Outcome State Fault Refusal := .next (controlEvent 7 actReleaseHold s)

/-! ### TRIGGER (R45) -/

/-- The class entry of a segment. -/
def State.entryOf (s : State) (g : Segment) : Option ClassEntry :=
  match g.cls with
  | some c => s.classEntry c
  | none => none

/-- The day a segment closed on. -/
def Segment.closeDay (g : Segment) : Nat := dayOf (g.closeTime.getD 0)

/-- The expiry of a Closed or Expired segment triggered on a day: the greater of the present one and R44's (R45). -/
def triggeredExpiry (e : ClassEntry) (g : Segment) (day : Nat) : Nat :=
  max (g.expiry.getD 0) ((e.expiry g.closeDay (some day)).getD 0)

/-- The state of a Closed or Expired segment after its expiry day has moved: an Expired one whose expiry is later than
today returns to Closed (R19). -/
def stateAfterExpiry (g : Segment) (expiry today : Nat) : SegmentState :=
  if g.state = .expired && today < expiry then .closed else g.state

/-- A TRIGGER that records its day (R45). -/
def recordTrigger (f : Frame) (n : Nat) (e : ClassEntry) (s : State) : State :=
  let g := s.segment (f.param 0) n
  let day := min (f.param 2) s.today
  let status := if s.today < f.param 2 then Status.clamped else Status.done
  if g.state = .opened then
    answerControl f status [Config.absentWord] (s.putSegment (f.param 0) n { g with triggerDay := some day })
  else
    let x := triggeredExpiry e g day
    answerControl f status [x]
      (s.putSegment (f.param 0) n
        { g with triggerDay := some day, expiry := some x, state := stateAfterExpiry g x s.today })

/-- TRIGGER, once admitted (R45). -/
def actTrigger (f : Frame) (n : Nat) (s : State) : State :=
  let g := s.segment (f.param 0) n
  if !s.running then refuseControl f .clockUnset (some n) s
  else if g.state = .blank || g.state = .erasing then refuseControl f .stateDenied (some n) s
  else
    match s.entryOf g with
    | some e =>
      if !e.triggered then refuseControl f .classMismatch (some n) s
      else if g.triggerDay.isSome then answerControl f .unchanged [optionWord g.expiry] s
      else recordTrigger f n e s
    | none => refuseControl f .classMismatch (some n) s

/-- TRIGGER (R45). -/
def execTrigger (s : State) : Host.Outcome State Fault Refusal := .next (writeControlEvent 8 actTrigger s)

/-! ### EXTEND RETENTION (R46) -/

/-- An EXTEND RETENTION of a Closed or Expired segment with an expiry day (R46). -/
def extendTo (f : Frame) (n : Nat) (e : Nat) (s : State) : State :=
  let g := s.segment (f.param 0) n
  if f.param 2 ≤ e then answerControl f .unchanged [e, g.state.number] s
  else
    let st := stateAfterExpiry g (f.param 2) s.today
    answerControl f .done [f.param 2, st.number]
      (s.putSegment (f.param 0) n { g with expiry := some (f.param 2), state := st })

/-- EXTEND RETENTION, once admitted (R46). -/
def actExtendRetention (f : Frame) (n : Nat) (s : State) : State :=
  let g := s.segment (f.param 0) n
  if 1048575 < f.param 2 then refuseControl f .outOfRange (some n) s
  else if g.state = .blank || g.state = .opened || g.state = .erasing then refuseControl f .stateDenied (some n) s
  else
    match g.expiry with
    | none => refuseControl f .stateDenied (some n) s
    | some e =>
      if g.state = .expired && !s.running then refuseControl f .clockUnset (some n) s
      else extendTo f n e s

/-- EXTEND_RETENTION (R46). -/
def execExtendRetention (s : State) : Host.Outcome State Fault Refusal :=
  .next (writeControlEvent 9 actExtendRetention s)

/-! ### CLOSE (R17) -/

/-- CLOSE, once admitted (R17). -/
def actClose (f : Frame) (n : Nat) (s : State) : State :=
  let g := s.segment (f.param 0) n
  if !decide (g.state = .opened) then refuseControl f .stateDenied (some n) s
  else if g.writer.isSome then refuseControl f .segmentBusy (some n) s
  else if g.cls = some 0 then refuseControl f .classMismatch (some n) s
  else if !s.running then refuseControl f .clockUnset (some n) s
  else
    answerControl f .done [s.today, secondOf s.now, optionWord (s.expiryAt g s.today)]
      (s.closeSegment (f.param 0) n id)

/-- CLOSE (R17). -/
def execCloseSegment (s : State) : Host.Outcome State Fault Refusal := .next (writeControlEvent 10 actClose s)

/-! ### SET CLOCK and ADJUST CLOCK (R35 to R37) -/

/-- The reply words of a clock request. -/
def clockWords (s : State) : List Nat := [s.today, secondOf s.now]

/-- CLOCK_CLAMPED is raised for an officer's request, which completes with it (R35, R36, R173). -/
def raiseClamped (f : Frame) (s : State) : State :=
  s.raiseAlone (requestOp f.initiator f.tag (.control f.code)) .clockClamped

/-- The value a SET CLOCK takes: limited below at the mark and above at the top stop (R35). -/
def setValue (c : Clock) (v : Nat) : Nat := max c.mark (min v Config.topStop)

/-- SET CLOCK, once admitted (R35). -/
def actSetClock (f : Frame) (s : State) : State :=
  if s.running then refuseControl f .busy none s
  else if 1048575 < f.param 0 || 86399 < f.param 1 then refuseControl f .outOfRange none s
  else
    let v := f.param 0 * Config.daySeconds + f.param 1
    let x := setValue s.clock v
    let s := { s with clock := { s.clock with value := x, state := .running, backupValid := true } }.rollover
    if x = v then answerControl f .done (clockWords s) s
    else raiseClamped f (answerControl f .clamped (clockWords s) s)

/-- SET_CLOCK (R35). -/
def execSetClock (s : State) : Host.Outcome State Fault Refusal := .next (controlEvent 11 actSetClock s)

/-- The adjustment limited to one day either way (R36, step 1). -/
def limitAdjustment (a : Int) : Int := max (-86400) (min 86400 a)

/-- The value after a limited adjustment, before its limits (R36, step 2). -/
def adjustedSum (c : Clock) (a : Int) : Int := (c.value : Int) + limitAdjustment a

/-- The value after an adjustment (R36, step 3). -/
def adjustedValue (c : Clock) (a : Int) : Nat := (max (c.mark : Int) (min (Config.topStop : Int) (adjustedSum c a))).toNat

/-- Either limit of an adjustment acted (R36). -/
def adjustmentClamped (c : Clock) (a : Int) : Bool :=
  !decide (limitAdjustment a = a) || !decide ((adjustedValue c a : Int) = adjustedSum c a)

/-- ADJUST CLOCK, once admitted (R36, R37). -/
def actAdjustClock (f : Frame) (s : State) : State :=
  let a := signedWord (f.param 0)
  if !s.running then refuseControl f .clockUnset none s
  else
    let x := adjustedValue s.clock a
    let later := decide (dayOf s.clock.value < dayOf x)
    let clamped := adjustmentClamped s.clock a
    let s := { s with clock := { s.clock with value := x } }
    let s := if later then s.rollover else s
    if clamped then raiseClamped f (answerControl f .clamped (clockWords s) s)
    else answerControl f .done (clockWords s) s

/-- ADJUST_CLOCK (R36). -/
def execAdjustClock (s : State) : Host.Outcome State Fault Refusal := .next (controlEvent 12 actAdjustClock s)

/-! ### SWEEP (R130) -/

/-- SWEEP, once admitted (R130). -/
def actSweep (f : Frame) (s : State) : State := answerControl f .done [] s.rollover

/-- SWEEP (R130). -/
def execSweep (s : State) : Host.Outcome State Fault Refusal := .next (controlEvent 13 actSweep s)

/-! ### LOAD SCAN, CANCEL SCAN, RELEASE SCAN (R161 to R164) -/

/-- The range entries of a LOAD SCAN (section 10.4). -/
def scanRanges : List Nat → List ScanRange
  | v :: first :: count :: rest => { volume := v, first := first, count := count } :: scanRanges rest
  | _ => []

/-- The judgement of a LOAD SCAN (R161, R193). -/
def judgeLoadScan (s : State) (f : Frame) : Option Code :=
  let rs := scanRanges (f.params.drop 2)
  if badFlag (f.param 0) || f.param 1 = 0 || 16 < f.param 1 then some .format
  else if rs.any (fun r => !volumeOpen s f r.volume) then some .noVolume
  else if rs.any (fun r => decide (r.count = 0) || decide ((s.volume r.volume).count < r.first + r.count)) then
    some .outOfRange
  else refuseWhen s.scanQueued.isSome .busy

/-- The scan a LOAD SCAN loads (R161). -/
def loadedScan (f : Frame) : Scan :=
  { phase := .loaded
    ranges := scanRanges (f.params.drop 2)
    scanThrough := wordFlag (f.param 0)
    cursor := none
    examined := 0
    mismatched := 0
    skipped := 0
    segmentRead := none
    list := []
    cancelRequested := false
    outcome := 0#18 }

/-- LOAD SCAN, once admitted: the reply says Active 0 or Queued 1 (R161, R162). -/
def actLoadScan (f : Frame) (s : State) : State :=
  match judgeLoadScan s f with
  | some code => refuseControl f code none s
  | none =>
    answerControl f .done [if s.scanActive.isNone then 0 else 1]
      (promoteScan { s with scanQueued := some (loadedScan f) })

/-- LOAD_SCAN (R161). -/
def execLoadScan (s : State) : Host.Outcome State Fault Refusal := .next (controlEvent 14 actLoadScan s)

/-- A cancel of a Running Active scan with reads sent: waiting entries are withdrawn and leave, and the scan waits for
its sent reads (R164; log 31). -/
def requestCancel (x : Scan) (s : State) : State :=
  s.withdrawScan.putScan
    { x with cancelRequested := true, list := x.list.filter (fun e => decide (e.progress = .sent)) }

/-- CANCEL SCAN of the Active descriptor (R164). -/
def cancelActive (f : Frame) (s : State) : State :=
  match s.scanActive with
  | none => refuseControl f .stateDenied none s
  | some x =>
    if !decide (x.phase = .running) || x.cancelRequested then answerControl f .unchanged [] s
    else if x.list.any (fun e => decide (e.progress = .sent)) then answerControl f .done [] (requestCancel x s)
    else answerControl f .done [] (stopScan .cancel x s)

/-- CANCEL SCAN, once admitted: descriptor 0 Active, 1 Queued (R164, R193). -/
def actCancelScan (f : Frame) (s : State) : State :=
  if 1 < f.param 0 then refuseControl f .format none s
  else if f.param 0 = 0 then cancelActive f s
  else
    match s.scanQueued with
    | none => refuseControl f .stateDenied none s
    | some _ => answerControl f .done [] { s with scanQueued := none }

/-- CANCEL_SCAN (R164). -/
def execCancelScan (s : State) : Host.Outcome State Fault Refusal := .next (controlEvent 15 actCancelScan s)

/-- RELEASE SCAN, once admitted (R163). -/
def actReleaseScan (f : Frame) (s : State) : State :=
  match s.scanActive with
  | none => refuseControl f .stateDenied none s
  | some x =>
    if x.phase = .running || x.phase = .loaded then refuseControl f .busy none s
    else
      answerControl f .done
        [x.phase.number, x.examined, x.mismatched, x.skipped, optionWord (x.phase.cause.map StopCause.number)]
        (promoteScan { s with scanActive := none })

/-- RELEASE_SCAN (R163). -/
def execReleaseScan (s : State) : Host.Outcome State Fault Refusal := .next (controlEvent 16 actReleaseScan s)

/-! ### RESUME (R151, R152, R155) -/

/-- The judgement of a RESUME (R151). -/
def judgeResume (s : State) (f : Frame) : Option Code :=
  if f.param 0 < 1 || 4 < f.param 0 then some .outOfRange
  else if 1 < f.param 1 then some .format
  else
    match s.record (f.param 0) with
    | none => some .format
    | some x =>
      if x.state = .reissuing then some .format
      else if !x.settled then some .busy
      else refuseWhen (decide (f.param 1 = 0) && decide (3 ≤ x.reissues)) .limit

/-- A reissue begins; it marks the segments it writes again as written, whose flag may have been collected in between
(R111, R152; log 51). -/
def beginReissue (r : Nat) (x : FaultRecord) (i t : Nat) (s : State) : State :=
  match s.context x.context with
  | .write w =>
    let es := x.writes.map RecordWrite.toPending
    let s :=
      s.setRecord r
        (some { x with state := .reissuing, reissues := x.reissues + 1, resumer := some (i, t), writes := [] })
    let s := s.putWrite x.context { w with state := .reissuing, pending := es }
    let again := es.filter (fun e => !e.confirmed)
    (markWritten w.volume again s).ask .write (again.map (w.request x.context))
  | .read _ => s
  | .free => s

/-- The segment of an abandoned record closes truncated, or for classes 0 and 1 stays Open (R16). -/
def abandonSegment (p : FaultPlace) (s : State) : State :=
  if closesByItself (s.segment p.volume p.segment).cls then
    s.closeSegment p.volume p.segment (fun g => { g with truncated := true, faultPending := false })
  else s.putSegment p.volume p.segment { s.segment p.volume p.segment with faultPending := false }

/-- An Abandon disposes of a record (R155). -/
def abandonRecord (f : Frame) (r : Nat) (x : FaultRecord) (s : State) : State :=
  match s.context x.context, x.place with
  | .write w, some p =>
    let s := freeWrite x.context w (abandonSegment p s)
    let s := (s.sendFor w (terminatedFrame w .mediaFault)).setRecord r none
    answerControl f .done [r, p.segment, (s.segment p.volume p.segment).appendPoint] s
  | .write _, none => s
  | .read _, _ => s
  | .free, _ => s

/-- RESUME, once admitted (R151). -/
def actResume (f : Frame) (s : State) : State :=
  match judgeResume s f, s.record (f.param 0) with
  | some code, _ => refuseControl f code none s
  | none, some x =>
    if f.param 1 = 0 then beginReissue (f.param 0) x f.initiator f.tag s else abandonRecord f (f.param 0) x s
  | none, none => s

/-- RESUME, judged by Admission (R57). -/
def takeResume (f : Frame) (s : State) : State :=
  match judgeControl s f none none with
  | some d => refuse f (.control f.code) d s
  | none => actResume f s

/-- A RESUME frame with disposition Abandon (log 19). -/
def isAbandon (x : RxFrame) : Bool :=
  isRequest 17 x &&
    (match x with
     | .whole f => decide (f.param 1 = 1)
     | .cutShort => false)

/-- RESUME_REISSUE (R152): the taking of a RESUME whose disposition is not Abandon. -/
def execResumeReissue (s : State) : Host.Outcome State Fault Refusal :=
  .next (onEvent s (takeFrame (fun x => isRequest 17 x && !isAbandon x) (onFrame takeResume)))

/-- RESUME_ABANDON (R155): the taking of a RESUME with disposition Abandon. -/
def execResumeAbandon (s : State) : Host.Outcome State Fault Refusal :=
  .next (onEvent s (takeFrame isAbandon (onFrame takeResume)))

/-! ### COLLECT ACTIVITY (R112, R113) -/

/-- COLLECT ACTIVITY, once admitted, with its real start segment (R112). -/
def actCollect (f : Frame) (n : Nat) (s : State) : State :=
  if !volumeOpen s f (f.param 0) then refuseControl f .noVolume (some n) s
  else if (s.volume (f.param 0)).count ≤ n then refuseControl f .outOfRange (some n) s
  else if s.collection.isSome then refuseControl f .busy (some n) s
  else
    { s with
      collection :=
        some { initiator := f.initiator, tag := f.tag, volume := f.param 0, nextSegment := n, entries := [] } }

/-- COLLECT ACTIVITY, judged by Admission (R56, R57). -/
def takeCollect (f : Frame) (s : State) : State :=
  let n := (s.initiator f.initiator).relocate (f.param 0) (f.param 1)
  match judgeControl s f (some (f.param 1)) (some n) with
  | some d => refuse f (.control f.code) d s
  | none => actCollect f n s

/-- COLLECT_ACTIVITY (R112). -/
def execCollectActivity (s : State) : Host.Outcome State Fault Refusal := .next (requestEvent 18 takeCollect s)

/-- The entry that the examination of a segment adds, when either flag is yes (R113). -/
def activityOf (n : Nat) (g : Segment) : List ActivityEntry :=
  if g.readSince || g.writtenSince then
    [{ segment := n, readSince := g.readSince, writtenSince := g.writtenSince }]
  else []

/-- The collection examines its next segment (R113), in whatever state it stands (log 47). -/
def examineNext (x : Collection) (s : State) : State :=
  let n := x.nextSegment
  let g := s.segment x.volume n
  let x := { x with nextSegment := n + 1, entries := x.entries ++ activityOf n g }
  let s := s.putSegment x.volume n { g with readSince := false, writtenSince := false }
  let last := decide ((s.volume x.volume).count ≤ n + 1)
  if last then stopCollection x none s
  else if 256 ≤ x.entries.length then stopCollection x (some (n + 1)) s
  else { s with collection := some x }

/-- One step of an unfinished collection (R113). -/
def examine (s : State) : State :=
  match s.collection with
  | some x => if s.segmentExists x.volume x.nextSegment then examineNext x s else stopCollection x none s
  | none => s

/-- COLLECTION_EXAMINE (R113). -/
def execCollectionExamine (s : State) : Host.Outcome State Fault Refusal := .next (onEvent s examine)

end Sys2Proof.Machine
end

