-- ==== Sys2Proof/WellFormed.lean ====
section
/-! DEFINITION. The operand ranges of the commands. -/

namespace Sys2Proof

/-- The kind byte of an MDATA frame (R186). -/
def mdataKind : Byte := 20#8

/-- A media response is of the MDATA row when its kind byte, the first of the frame, says so (R186). -/
def bytesAreMdata (bytes : List Byte) : Bool := bytes.head? == some mdataKind

/-- The operands of a command lie in their ranges: a slot is 0 to 15 (R138), a context 0 to 31 (R76), and the
bytes of a media response belong to the row that names its kind (R190). Every other command is well-formed. -/
def Instr.wellFormed : Instr → Bool
  | .mediaTimeout slot => decide (slot < 16)
  | .transferIdle context => decide (context < 32)
  | .mdata bytes => bytesAreMdata bytes
  | .mstatus bytes => !bytesAreMdata bytes
  | .powerOn => true
  | .resetLine => true
  | .backupSupplyLoss => true
  | .clockTick => true
  | .ingestFrameArrival _ => true
  | .frameTransmit => true
  | .ingestLinkReset => true
  | .ingestLinkReady => true
  | .mediaLinkReset => true
  | .mediaLinkReady => true
  | .malformedFrame => true
  | .beginFrame => true
  | .dataFrame => true
  | .endFrame => true
  | .readFrame => true
  | .eraseFrame => true
  | .readRecord => true
  | .loadInitiator => true
  | .loadClass => true
  | .setVolume => true
  | .setZone => true
  | .placeHold => true
  | .releaseHold => true
  | .trigger => true
  | .extendRetention => true
  | .closeSegment => true
  | .setClock => true
  | .adjustClock => true
  | .sweep => true
  | .loadScan => true
  | .cancelScan => true
  | .releaseScan => true
  | .resumeReissue => true
  | .resumeAbandon => true
  | .collectActivity => true
  | .collectionExamine => true
  | .clearConditions => true
  | .setNotice => true
  | .setTimeouts => true
  | .restart => true
  | .mediaGrant => true
  | .scanVisit => true
  | .passBegin => true
  | .sweeperVisit => true
  | .walkerVisit => true
  | .mainPowerLoss => true
  | .resetLineHeld => true

end Sys2Proof
end

