-- ==== Sys2Proof/Machine/Media.lean ====
section
/-! DEFINITION. The two ports: frames arriving and leaving on the Ingest Link, the Arbiter's grants, the shelf's
answers and timeouts, and the return of either link. -/

namespace Sys2Proof.Machine

/-! ### The Ingest Link (R180, R182 to R184) -/

/-- The frame check state once a whole frame has arrived: the register over the bytes before the check word, and the
count of the bytes received (R188; log 12). -/
def checkAfter (bytes : List Byte) : FrameCheck :=
  { register := checkRegister (checkedBody bytes), count := bytes.length }

/-- The Ingest Port receives a frame: the link is Ready and fewer than 64 frames wait (R182, R183). -/
def State.receives (s : State) : Bool :=
  decide (s.ingestLink = .ready) && decide (s.rxQueue.length < Config.receiveLimit)

/-- A frame arrives: it joins the receive queue, or is discarded with FRAME_CHECK when its check word fails (R180,
R183). -/
def frameArrives (bytes : List Byte) (s : State) : State :=
  if s.receives then
    let s := { s with ingestCheck := checkAfter bytes }
    if checkPasses bytes then { s with rxQueue := s.rxQueue ++ [rxFrameOf bytes] }
    else s.raiseAlone (engineOp .frame) .frameCheck
  else s

/-- INGEST_FRAME_ARRIVAL (R183). -/
def execIngestFrameArrival (bytes : List Byte) (s : State) : Host.Outcome State Fault Refusal :=
  .next (onEvent s (frameArrives bytes))

/-- The link takes the head frame of the transmit queue (R184). -/
def transmitHead (s : State) : State :=
  match s.txQueue with
  | f :: rest =>
    if s.ingestLink = .ready then { s with txQueue := rest, ingestOut := f.wire } else s
  | [] => s

/-- FRAME_TRANSMIT (R184). -/
def execFrameTransmit (s : State) : Host.Outcome State Fault Refusal := .next (onEvent s transmitHead)

/-- INGEST_LINK_READY (R182). -/
def execIngestLinkReady (s : State) : Host.Outcome State Fault Refusal :=
  .next (onEvent s (fun s => { s with ingestLink := .ready }))

/-- MEDIA_LINK_READY (R137). -/
def execMediaLinkReady (s : State) : Host.Outcome State Fault Refusal :=
  .next (onEvent s (fun s => { s with mediaLink := .ready }))

/-! ### MEDIA_GRANT (R139, R145, R146) -/

/-- The rotation order that begins after a class (R146). -/
def MediaClass.rotation : MediaClass → List MediaClass
  | .write => [.read, .erase, .verify, .write]
  | .read => [.erase, .verify, .write, .read]
  | .erase => [.verify, .write, .read, .erase]
  | .verify => [.write, .read, .erase, .verify]

/-- The slot is Busy with a command of a class (R145). -/
def Slot.busyWith (c : MediaClass) : Slot → Bool
  | .busy _ cls _ _ => decide (cls = c)
  | .free => false
  | .busyLate => false

/-- The number of slots Busy with a class (R145). -/
def State.busyCount (s : State) (c : MediaClass) : Nat := (s.slots.toList.filter (fun x => x.busyWith c)).length

/-- The Busy slots of a class are below its limit: 2 for erase, 4 for verify, none for the others (R145). -/
def State.belowLimit (s : State) (c : MediaClass) : Bool :=
  match c with
  | .write => true
  | .read => true
  | .erase => decide (s.busyCount .erase < 2)
  | .verify => decide (s.busyCount .verify < 4)

/-- A class is eligible (R146). -/
def State.eligible (s : State) (c : MediaClass) : Bool :=
  !decide (s.arbiter.queue c = []) && s.belowLimit c

/-- The first eligible class in rotation (R146). -/
def State.nextClass (s : State) : Option MediaClass := s.arbiter.last.rotation.find? (fun c => s.eligible c)

/-- The pending write that a request asks for. -/
def asksFor (w : WriteContext) (r : Request) (e : PendingWrite) : Bool :=
  decide (w.command e = r.command) && decide (e.mediaTag = none) && !e.confirmed

/-- The entry of a read list that a command asks for. -/
def ReadEntry.asks (command : MediaCommand) (e : ReadEntry) : Bool :=
  decide (e.progress = .waiting) && decide (e.offset = command.offset)

/-- The list with the media tag recorded in the entry asked for, now sent (R103, R139, R166). -/
def sendEntry (command : MediaCommand) (t : Nat) (l : List ReadEntry) : List ReadEntry :=
  l.map (fun e => if e.asks command then { e with mediaTag := some t, progress := .sent } else e)

/-- The owner records the media tag of its request (R139). -/
def recordTag (r : Request) (t : Nat) (s : State) : State :=
  match r.owner with
  | .write c =>
    match s.context c with
    | .write w =>
      s.putWrite c
        { w with pending := w.pending.map (fun e => if asksFor w r e then { e with mediaTag := some t } else e) }
    | .read _ => s
    | .free => s
  | .read c =>
    match s.context c with
    | .read x => s.setContext c (.read { x with list := sendEntry r.command t x.list })
    | .write _ => s
    | .free => s
  | .erase =>
    { s with
      eraseQueue :=
        s.eraseQueue.map (fun e =>
          if e.volume = r.command.volume && e.segment = r.command.segment && e.progress = .waiting then
            { e with mediaTag := some t, progress := .sent }
          else e) }
  | .scan =>
    match s.scanActive with
    | some x => s.putScan { x with list := sendEntry r.command t x.list }
    | none => s

/-- The blocks an MWRITE carries, from the Write Buffer place of its pending write (R139). -/
def State.blocksOf (s : State) (r : Request) : List Byte :=
  match r.owner with
  | .write c =>
    match s.context c with
    | .write w => ((w.pending.find? (asksFor w r)).map PendingWrite.data).getD []
    | .read _ => []
    | .free => []
  | .read _ => []
  | .erase => []
  | .scan => []

/-- The number of a media command (R186). -/
def MediaKind.number : MediaKind → Nat
  | .mwrite => 16
  | .mread => 17
  | .merase => 18

/-- The frame of a media command (R186, R190). -/
def commandFrame (c : MediaCommand) (t : Nat) (blocks : List Byte) : Frame :=
  { Frame.blank c.kind.number 0 t c.volume with
    segment := c.segment, offset := c.offset, count := c.count }.withPayload blocks

/-- The request is granted the slot: the command is sent, the slot becomes Busy with the full media timeout, the owner
records the tag, the class is the one granted last (R139, R146). -/
def grantTo (cls : MediaClass) (r : Request) (rest : List Request) (t : Nat) (s : State) : State :=
  let out := (commandFrame r.command t (s.blocksOf r)).wire
  let s := (recordTag r t s).setSlot t (.busy r.command cls (some r.owner) s.mediaTimeout)
  { s with arbiter := { s.arbiter.setQueue cls rest with last := cls }, mediaOut := out }

/-- The Arbiter makes one grant (R146). -/
def grant (s : State) : State :=
  if s.mediaLink = .ready then
    match s.freeSlot, s.nextClass with
    | some t, some cls =>
      match s.arbiter.queue cls with
      | r :: rest => grantTo cls r rest t s
      | [] => s
    | some _, none => s
    | none, some _ => s
    | none, none => s
  else s

/-- MEDIA_GRANT (R146). -/
def execMediaGrant (s : State) : Host.Outcome State Fault Refusal := .next (onEvent s grant)

/-! ### The shelf's answers (R140 to R144, R190) -/

/-- An answer as its owner takes it. -/
inductive Answer where
  | ok
  | soft
  | fault
  | data (frame : Frame)
  deriving DecidableEq, Repr

/-- The answer of a media response of good form: a status other than 16 and 17 is FAULT (R186, R190). -/
def answerOf (f : Frame) : Answer :=
  if f.kind = 20 then .data f
  else if f.status = 16 then .ok
  else if f.status = 17 then .soft
  else .fault

/-- The answer to a pending write (R86, R87, R90, R140). -/
def answerWrite (c tag : Nat) (a : Answer) (w : WriteContext) (s : State) : State :=
  let failed := fun e : PendingWrite => decide (e.mediaTag = some tag)
  match a with
  | .ok => writeConfirms c tag false w s
  | .soft => writeConfirms c tag true w s
  | .fault => writeFails c .writeFault failed w s
  | .data _ => writeFails c .writeFault failed w s

/-- The entry of a list that holds a media tag. -/
def entryOfTag (tag : Nat) (l : List ReadEntry) : Option ReadEntry :=
  l.find? (fun e => decide (e.mediaTag = some tag))

/-- An MDATA carries exactly the blocks of the entry that holds a media tag (R104, R166, R190). -/
def servesTag (f : Frame) (tag : Nat) (l : List ReadEntry) : Bool :=
  match entryOfTag tag l with
  | some e => f.holdsBlocks e.count
  | none => false

/-- The answer to an entry of a read (R104, R106). -/
def answerRead (c tag : Nat) (a : Answer) (r : ReadContext) (s : State) : State :=
  let failed := fun e : ReadEntry => decide (e.mediaTag = some tag)
  match a with
  | .ok => readFails c failed r s
  | .soft => readFails c failed r s
  | .fault => readFails c failed r s
  | .data f => if servesTag f tag r.list then readArrives c tag f.payload r s else readFails c failed r s

/-- The answer to an MERASE (R21, R22, R140). -/
def answerErase (a : Answer) (e : EraseEntry) (s : State) : State :=
  match a with
  | .ok => eraseDone e false s
  | .soft => eraseDone e true s
  | .fault => eraseFails e s
  | .data _ => eraseFails e s

/-- The answer to a media read of the Active scan (R166, R168). -/
def answerScan (tag : Nat) (a : Answer) (x : Scan) (s : State) : State :=
  match a with
  | .ok => scanFails .mediaFault x s
  | .soft => scanFails .mediaFault x s
  | .fault => scanFails .mediaFault x s
  | .data f => if servesTag f tag x.list then scanArrives tag f.payload x s else scanFails .mediaFault x s

/-- The answer is handed to the owner (R140). -/
def handOver (owner : Owner) (tag : Nat) (a : Answer) (s : State) : State :=
  match owner with
  | .write c =>
    match s.context c with
    | .write w => answerWrite c tag a w s
    | .read _ => s
    | .free => s
  | .read c =>
    match s.context c with
    | .read r => answerRead c tag a r s
    | .write _ => s
    | .free => s
  | .erase =>
    match s.eraseOfTag tag with
    | some e => answerErase a e s
    | none => s
  | .scan =>
    match s.scanActive with
    | some x => answerScan tag a x s
    | none => s

/-- MEDIA_LATE is raised for the engine (R143). -/
def raiseLate (s : State) : State := s.raiseAlone (engineOp .media) .mediaLate

/-- A response that names a media tag, 0 to 15 (R140, R142, R143). -/
def answerSlot (f : Frame) (s : State) : State :=
  match s.slot f.tag with
  | .busy _ _ (some owner) _ => handOver owner f.tag (answerOf f) (s.setSlot f.tag .free)
  | .busy _ _ none _ => s.setSlot f.tag .free
  | .busyLate => raiseLate (s.setSlot f.tag .free)
  | .free => raiseLate s

/-- A response whose check word has passed: one that is no MSTATUS or MDATA, or whose tag is above 15, or that holds
no header, is taken as a response to a Free slot (R190; log 20). -/
def takeResponse (bytes : List Byte) (s : State) : State :=
  match Frame.ofBody (checkedBody bytes) with
  | some f => if (f.kind = 19 || f.kind = 20) && f.tag < 16 then answerSlot f s else raiseLate s
  | none => raiseLate s

/-- A response arrives on the Media Link: discarded with FRAME_CHECK when its check word fails (R144). -/
def responseArrives (bytes : List Byte) (s : State) : State :=
  if s.mediaLink = .ready then
    let s := { s with mediaCheck := checkAfter bytes }
    if checkPasses bytes then takeResponse bytes s else s.raiseAlone (engineOp .frame) .frameCheck
  else s

/-- MSTATUS (R140): a response whose kind byte is not that of an MDATA. -/
def execMstatus (bytes : List Byte) (s : State) : Host.Outcome State Fault Refusal :=
  .next (onEvent s (fun s => if bytesAreMdata bytes then s else responseArrives bytes s))

/-- MDATA (R140): a response whose kind byte is that of an MDATA. -/
def execMdata (bytes : List Byte) (s : State) : Host.Outcome State Fault Refusal :=
  .next (onEvent s (fun s => if bytesAreMdata bytes then responseArrives bytes s else s))

/-! ### MEDIA_TIMEOUT (R141) -/

/-- The owner takes a timeout (R22, R90, R106, R141, R168). -/
def timeoutOwner (owner : Owner) (tag : Nat) (s : State) : State :=
  match owner with
  | .write c =>
    match s.context c with
    | .write w => writeFails c .writeTimeout (fun e => decide (e.mediaTag = some tag)) w s
    | .read _ => s
    | .free => s
  | .read c =>
    match s.context c with
    | .read r => readFails c (fun e => decide (e.mediaTag = some tag)) r s
    | .write _ => s
    | .free => s
  | .erase =>
    match s.eraseOfTag tag with
    | some e => eraseFails e s
    | none => s
  | .scan =>
    match s.scanActive with
    | some x => scanFails .mediaFault x s
    | none => s

/-- The timer of a Busy slot has run out: it stands at no remaining time (R141; log 9). -/
def slotExpires (t : Nat) (s : State) : State :=
  match s.slot t with
  | .busy _ _ (some owner) 0 => timeoutOwner owner t (s.setSlot t .busyLate)
  | .busy _ _ none 0 => s.setSlot t .busyLate
  | .busy _ _ _ (_ + 1) => s
  | .free => s
  | .busyLate => s

/-- MEDIA_TIMEOUT (R141). -/
def execMediaTimeout (slot : Nat) (s : State) : Host.Outcome State Fault Refusal :=
  .next (onEvent s (slotExpires slot))

end Sys2Proof.Machine
end

