-- ==== Sys2Proof/Machine/Records.lean ====
section
/-! DEFINITION. READ RECORD: the ten kinds of record and the words of their replies (R194). A field that is not
present is carried as the absent word (R187; log 34). -/

namespace Sys2Proof.Machine

/-- n absent words. -/
def absentWords (n : Nat) : List Nat := List.replicate n Config.absentWord

/-- A time as two words, day then second; absent words when the time is absent (R187). -/
def timeWords : Option Nat → List Nat
  | some t => [dayOf t, secondOf t]
  | none => absentWords 2

/-- A pair of numbers as two words; absent words when the pair is absent (R187). -/
def pairWords : Option (Nat × Nat) → List Nat
  | some p => [p.1, p.2]
  | none => absentWords 2

/-- The words of a segment descriptor (R7, R194). R7 lists no number of the segment itself, so none stands among them; the
real number is in the header of the reply (log 50). -/
def Segment.words (g : Segment) : List Nat :=
  [g.state.number, optionWord g.cls, optionWord g.key, g.generation, g.appendPoint, g.foldA, g.foldB] ++
  timeWords g.closeTime ++
  [optionWord g.expiry, optionWord g.triggerDay, g.holdCount, flagWord g.readSince, flagWord g.writtenSince,
   flagWord g.suspect, flagWord g.truncated, flagWord g.faultPending, optionWord g.continuedFrom,
   optionWord g.writer]

/-- The words of a volume descriptor (R3, R194). -/
def Volume.words (x : Volume) : List Nat :=
  if x.state = .absent then x.state.number :: absentWords 8
  else
    [x.state.number, x.count, flagWord x.writeInhibit, flagWord x.commonKey, x.counts.blank, x.counts.opened,
     x.counts.closed, x.counts.expired, x.counts.erasing]

/-- The words of a zone descriptor (R4, R194). -/
def Zone.words (z : Zone) : List Nat := [flagWord z.writeInhibit, flagWord z.spanning]

/-- The words of a class entry (R39, R194). -/
def classWords : Option ClassEntry → List Nat
  | some e =>
    [1, e.base.months, e.base.days] ++ pairWords (e.post.map (fun p => (p.months, p.days))) ++
      [flagWord e.permanent, flagWord e.triggered, flagWord e.readProtection]
  | none => 0 :: absentWords 7

/-- The words of an initiator entry (R50, R194). -/
def InitiatorEntry.words (e : InitiatorEntry) : List Nat :=
  if e.state = .absent then e.state.number :: absentWords 7
  else
    [e.state.number, e.key, flagWord e.officer, flagWord e.disposer, flagWord e.readOnly, e.volumes.toNat] ++
      pairWords (e.window.map (fun w => (w.volume, w.base)))

/-- The walk front of a hold, present in Placing and Releasing (R114). -/
def HoldPhase.front : HoldPhase → Option Nat
  | .placing front => some front
  | .active => none
  | .releasing front _ => some front

/-- The raised-to of a hold, present in Releasing (R114). -/
def HoldPhase.raisedTo : HoldPhase → Option Nat
  | .placing _ => none
  | .active => none
  | .releasing _ raisedTo => some raisedTo

/-- The words of a hold entry, without its queue position (R114, R194). -/
def holdWords : Option Hold → List Nat
  | some h =>
    [h.phase.number, h.reference, h.volume, h.first, h.last, optionWord h.filter] ++ timeWords (some h.placed) ++
      [optionWord h.phase.front, optionWord h.phase.raisedTo]
  | none => 0 :: absentWords 9

/-- The position of a slot in the walk queue, 1 at the head and 0 when it is not there (R194). -/
def walkPosition (h : Nat) (queue : List Nat) : Nat :=
  match queue.findIdx? (fun q => decide (q = h)) with
  | some i => i + 1
  | none => 0

/-- The four words of a pending write of a record (R147, R194). -/
def RecordWrite.words (e : RecordWrite) : List Nat := [e.segment, e.offset, e.count, flagWord e.needsReissue]

/-- The words of a fault record (R147, R194). -/
def recordWords : Option FaultRecord → List Nat
  | some x =>
    [x.state.number, flagWord x.settled, x.context, x.initiator, x.tag, optionWord (x.place.map FaultPlace.volume),
     optionWord (x.place.map FaultPlace.segment), optionWord (x.place.map FaultPlace.offset), x.kind.number] ++
      x.writes.flatMap RecordWrite.words ++ [x.continuation.number, x.reissues] ++ timeWords (some x.created) ++
      pairWords x.resumer
  | none => 0 :: absentWords 14

/-- The three words of a range entry (R159). -/
def ScanRange.words (r : ScanRange) : List Nat := [r.volume, r.first, r.count]

/-- The cancel-requested word of a descriptor, present while Running (R159). -/
def Scan.cancelWord (x : Scan) : Nat :=
  if x.phase = .running then flagWord x.cancelRequested else Config.absentWord

/-- The words of a scan descriptor, without the scan read list and the running fold (R159, R194). -/
def scanWords : Option Scan → List Nat
  | some x =>
    x.phase.number :: x.ranges.flatMap ScanRange.words ++ [flagWord x.scanThrough] ++
      pairWords (x.cursor.map (fun cur => (cur.entry, cur.segment))) ++
      [x.examined, x.mismatched, x.skipped, optionWord (x.segmentRead.map SegmentRead.readEnd), x.cancelWord,
       optionWord (x.phase.cause.map StopCause.number), x.outcome.toNat]
  | none => 0 :: absentWords 10

/-- The words of the clock, as it is read, with the two timeouts (R29, R33, R194, R195). -/
def clockRecordWords (s : State) : List Nat :=
  timeWords (some s.now) ++ [s.clock.state.number, flagWord s.clock.backupValid] ++ timeWords (some s.clock.mark) ++
    [s.idleTime, s.mediaTimeout]

/-- The words of the conditions (R194). -/
def Conditions.words (c : Conditions) : List Nat :=
  [c.accrued.toNat, c.accrued.groups.toNat] ++ lastOutcomeWords c.last ++
    [c.noticeInitiator, c.enables.toNat, c.noticeNumber]

/-- The words of the record of a kind and its identifiers, or the refusal code (R194). The second identifier of kind
0 is the real segment number. -/
def readRecordWords (s : State) (kind a b : Nat) : Except Code (List Nat) :=
  match kind with
  | 0 =>
    if a < 1 || 4 < a || !s.segmentExists a b then .error .outOfRange else .ok (s.segment a b).words
  | 1 => if a < 1 || 4 < a then .error .outOfRange else .ok (s.volume a).words
  | 2 =>
    if a < 1 || 4 < a || (s.volume a).state = .absent || zoneCount (s.volume a).count ≤ b then .error .outOfRange
    else .ok (s.zone a b).words
  | 3 => if 63 < a then .error .outOfRange else .ok (classWords (s.classEntry a))
  | 4 => if 31 < a then .error .outOfRange else .ok (s.initiator a).words
  | 5 =>
    if a < 1 || 64 < a then .error .outOfRange
    else .ok (holdWords (s.hold a) ++ [walkPosition a s.walkQueue])
  | 6 => if a < 1 || 4 < a then .error .outOfRange else .ok (recordWords (s.record a))
  | 7 =>
    if 1 < a then .error .outOfRange
    else .ok (scanWords (if a = 0 then s.scanActive else s.scanQueued))
  | 8 => .ok (clockRecordWords s)
  | 9 => .ok s.conditions.words
  | _ => .error .format

/-- The segment a READ RECORD names: only kind 0 names one (R56, R194). -/
def recordSegment (f : Frame) (n : Nat) : Option Nat := if f.param 0 = 0 then some n else none

/-- The real segment a READ RECORD of kind 0 names (R56). -/
def recordReal (s : State) (f : Frame) : Nat := (s.initiator f.initiator).relocate (f.param 1) (f.param 2)

/-- The second identifier as the record is read: relocated for kind 0 (R56, R194). -/
def recordSecond (s : State) (f : Frame) : Nat := if f.param 0 = 0 then recordReal s f else f.param 2

/-- The reply to a READ RECORD of kind 0 returns the real number of the segment in its header; that of another kind
names no segment (R194; log 50). -/
def recordFrame (s : State) (f : Frame) (words : List Nat) : Frame :=
  { controlReply f.initiator f.tag f.code .done words with segment := (recordSegment f (recordReal s f)).getD 0 }

/-- READ RECORD, once admitted (R194). -/
def actReadRecord (f : Frame) (s : State) : State :=
  match readRecordWords s (f.param 0) (f.param 1) (recordSecond s f) with
  | .ok ws => s.send (recordFrame s f ws)
  | .error code => refuseControl f code (recordSegment f (recordReal s f)) s

/-- READ RECORD, judged by Admission (R57). -/
def takeReadRecord (f : Frame) (s : State) : State :=
  match judgeControl s f (recordSegment f (f.param 2)) (recordSegment f (recordReal s f)) with
  | some d => refuse f (.control f.code) d s
  | none => actReadRecord f s

/-- READ_RECORD (R194). -/
def execReadRecord (s : State) : Host.Outcome State Fault Refusal := .next (requestEvent 1 takeReadRecord s)

end Sys2Proof.Machine
end

