-- ==== Sys2Proof/Machine/Resets.lean ====
section
/-! DEFINITION. Resets: the losses of the two links, main power and the backup supply, the reset line, and RESTART. -/

namespace Sys2Proof.Machine

/-! ### MEDIA_LINK_RESET (R157) -/

/-- The sent writes of a context fail as link-reset (R99, R157). -/
def resetWrite (c : Nat) (s : State) : State :=
  match s.context c with
  | .write w =>
    if w.pending.any (fun e => e.mediaTag.isSome) then writeFails c .linkReset (fun e => e.mediaTag.isSome) w s else s
  | .read _ => s
  | .free => s

/-- The sent entries of a read fail (R109, R157). -/
def resetRead (c : Nat) (s : State) : State :=
  match s.context c with
  | .read r =>
    if r.list.any (fun e => decide (e.progress = .sent)) then readFails c (fun e => decide (e.progress = .sent)) r s
    else s
  | .write _ => s
  | .free => s

/-- The sent erases fail, in the order of the queue (R134, R157). -/
def resetErases : List EraseEntry → State → State
  | [], s => s
  | e :: rest, s => resetErases rest (if e.progress = .sent then eraseFails e s else s)

/-- The Active scan, when Running, stops (R171). -/
def resetScan (s : State) : State :=
  match s.scanActive with
  | some x => if x.phase = .running then scanFails .linkReset x s else s
  | none => s

/-- A loss of the Media Link: every slot is freed and every owner takes its failure, write contexts first, then
reads, erases and the scan, and a collection in hand ends without a reply (R137, R157, R197; log 29, log 53). A loss
of a link already Lost is no event (log 30). -/
def mediaLost (s : State) : State :=
  if s.mediaLink = .ready then
    let s :=
      { s with mediaLink := .lost, mediaCheck := FrameCheck.cleared, slots := Vector.replicate 16 .free }
    let s := eachContext resetWrite (List.range 32) s
    let s := eachContext resetRead (List.range 32) s
    { resetScan (resetErases s.eraseQueue s) with collection := none }
  else s

/-- MEDIA_LINK_RESET (R157). -/
def execMediaLinkReset (s : State) : Host.Outcome State Fault Refusal := .next (onEvent s mediaLost)

/-! ### INGEST_LINK_RESET (R185) -/

/-- What a loss of the Ingest Link does to a context (R98, R109). -/
def dropContext (c : Nat) (s : State) : State :=
  match s.context c with
  | .write w =>
    match w.state with
    | .streaming => abortWrite c { w with silent := true } s
    | .draining => abortWrite c { w with silent := true } s
    | .aborting => s.putWrite c { w with silent := true }
    | .faulted => s
    | .reissuing => s
  | .read r => dropRead c r s
  | .free => s

/-- A loss of the Ingest Link: both queues are emptied, transfers aborted without reply, reads freed, requesters and
resumers forgotten, and an unfinished collection ended (R98, R109, R113, R133, R156, R185). -/
def ingestLost (s : State) : State :=
  if s.ingestLink = .ready then
    let s :=
      { s with ingestLink := .lost, ingestCheck := FrameCheck.cleared, rxQueue := [], txQueue := [] }
    let s := eachContext dropContext (List.range 32) s
    { (s.dropRequesters (fun _ => none)).dropResumers (fun _ => none) with collection := none }
  else s

/-- INGEST_LINK_RESET (R185). -/
def execIngestLinkReset (s : State) : Host.Outcome State Fault Refusal := .next (onEvent s ingestLost)

/-! ### The start-up of every block (R27, R49, R100, R126, R134, R158, R171, R181, R197) -/

/-- The Condition Unit starts again; the notice settings are kept (R181). -/
def Conditions.restart (c : Conditions) : Conditions :=
  { c with accrued := 0#18, last := none, noticeNumber := 0, causes := [] }

/-- A descriptor with the fields that named volatile state set right (R27). -/
def Segment.setRight (g : Segment) : Segment := { g with writer := none, faultPending := false }

/-- A volume with its descriptors set right (R27). -/
def Volume.setRight (x : Volume) : Volume :=
  { x with segments := Sparse.map Segment.fresh Segment.setRight x.segments }

/-- A segment has fault pending (R27). -/
def State.anyFaultPending (s : State) : Bool :=
  s.volumes.toList.any (fun x => x.segments.any (fun e => e.2.faultPending))

/-- The volatile state is gone: every volatile block stands as it starts up, with the erase queue still empty, and the
writers and fault pending flags of the Map, which named that state, are set right (R27, R49). -/
def State.dropVolatile (s : State) : State :=
  { s with
    ingestLink := .lost
    mediaLink := .lost
    ingestCheck := FrameCheck.cleared
    mediaCheck := FrameCheck.cleared
    ingestOut := []
    mediaOut := []
    rxQueue := []
    txQueue := []
    volumes := s.volumes.map Volume.setRight
    contexts := Vector.replicate 32 .free
    slots := Vector.replicate 16 .free
    arbiter := Arbiter.start
    records := Vector.replicate 4 none
    sweeper := { state := .idle, passAgain := true }
    eraseQueue := []
    scanActive := none
    scanQueued := none
    conditions := s.conditions.restart
    collection := none }

/-- The erase queue of the Erasing segments of a volume, in ascending order (R134). -/
def erasesOf (s : State) (v : Nat) : List EraseEntry :=
  ((s.volume v).segments.filter (fun e => decide (e.2.state = .erasing))).map (fun e => waitingErase v e.1 none)

/-- The erase queue is rebuilt, and each entry asks for a slot (R27, R134). -/
def State.rebuildErases (s : State) : State :=
  let q := [1, 2, 3, 4].flatMap (erasesOf s)
  { s with eraseQueue := q }.ask .erase (q.map EraseEntry.request)

/-- The conditions of a start-up that hold (R181). -/
def startUpConditions (unset clamped discarded : Bool) : List Cond :=
  (if unset then [.clockUnset] else []) ++ (if clamped then [.clockClamped] else []) ++
    (if discarded then [.faultDiscarded] else [])

/-- The start-up conditions are raised as one operation, which completes with them (R181). -/
def raiseStartUp (cs : List Cond) (s : State) : State :=
  (cs.foldl (fun s c => s.raise (engineOp .startUp) c) s).complete (engineOp .startUp)
    (cs.foldl CondSet.insert 0#18)

/-- Every block starts up, and the start-up conditions are raised; FAULT_DISCARDED when a fault pending flag was set
right (R27, R181). -/
def startUp (clamped discarded : Bool) (s : State) : State :=
  (raiseStartUp (startUpConditions (!s.running) clamped discarded) s.dropVolatile.rebuildErases).endStep

/-- A restart, as at the release of the reset line: the Clock keeps its state and value (R32, R196). -/
def restart (s : State) : State := startUp false s.anyFaultPending s

/-! ### POWER_ON, MAIN_POWER_LOSS, BACKUP_SUPPLY_LOSS (R32, R34, R49) -/

/-- The value of the backup supply stands below the mark at power-on (R32). -/
def Clock.behind (c : Clock) : Bool := c.backupValid && decide (c.value < c.mark)

/-- The Clock at power-on (R32). -/
def Clock.powered (c : Clock) : Clock :=
  if c.backupValid then { c with state := .running, value := max c.value c.mark }
  else { c with state := .unset, value := c.mark }

/-- Main power returns, and the backup supply holds again (R27, R32, R49, R181; log 6, log 7). -/
def powerUp (s : State) : State :=
  startUp s.clock.behind s.anyFaultPending { s with mainPower := true, backupSupply := true, clock := s.clock.powered }

/-- POWER_ON (R49). -/
def execPowerOn (s : State) : Host.Outcome State Fault Refusal := .next (powerUp s)

/-- A volume whose segments' writers, the one volatile field of a descriptor, are gone (R7). -/
def Volume.forgetWriters (x : Volume) : Volume :=
  { x with segments := Sparse.map Segment.fresh (fun g => { g with writer := none }) x.segments }

/-- The value and the flag are lost together (R34). -/
def Clock.lost (c : Clock) : Clock := { c with state := .unset, value := c.mark, backupValid := false }

/-- The Clock once main power is gone: the backup supply holds it, or neither supply does and it is lost (R34). -/
def State.clockUnpowered (s : State) : Clock := if s.backupSupply then s.clock else s.clock.lost

/-- Main power is lost: the volatile state is gone, and the Clock goes on from the backup supply while that holds
(R34; log 8). The fault pending flags are kept, for the power-on to set right with its condition (R27). -/
def losePower (s : State) : State :=
  { s.dropVolatile with
    mainPower := false
    clock := s.clockUnpowered
    volumes := s.volumes.map Volume.forgetWriters }

/-- MAIN_POWER_LOSS (R34). -/
def execMainPowerLoss (s : State) : Host.Outcome State Fault Refusal :=
  .next (if s.mainPower then losePower s else s)

/-- BACKUP_SUPPLY_LOSS (R34): the backup supply fails; with main power present the Clock is held by that, and without
it the Clock is lost (log 7). -/
def execBackupSupplyLoss (s : State) : Host.Outcome State Fault Refusal :=
  .next
    (if s.mainPower then { s with backupSupply := false }
     else { s with backupSupply := false, clock := s.clock.lost })

/-! ### RESET_LINE_HELD, RESET_LINE, RESTART (R182, R196) -/

/-- RESET_LINE_HELD (R182): both links are Lost and the engine takes no event while the line is held (log 36). -/
def execResetLineHeld (s : State) : Host.Outcome State Fault Refusal :=
  .next { s with resetHeld := true, ingestLink := .lost, mediaLink := .lost }

/-- RESET_LINE (R182): the line is released, and the start-up state of every block is reached (log 6). -/
def execResetLine (s : State) : Host.Outcome State Fault Refusal :=
  .next (if s.mainPower then restart { s with resetHeld := false } else { s with resetHeld := false })

/-- A RESTART is judged and, when admitted, restarts the engine; it is not answered (R196). -/
def takeRestart (f : Frame) (s : State) : State :=
  match judgeControl s f none none with
  | some d => refuse f (.control f.code) d s
  | none => restart s

/-- RESTART (R196). -/
def execRestart (s : State) : Host.Outcome State Fault Refusal := .next (requestEvent 22 takeRestart s)

end Sys2Proof.Machine
end

