-- ==== Sys2Proof/Machine/Dispatch.lean ====
section
/-! DEFINITION. The dispatch of a command to its meaning. -/

namespace Sys2Proof.Machine

/-- The effect of a command on everything but the queue of commands. -/
def exec (i : Instr) (s : State) : Host.Outcome State Fault Refusal :=
  match i with
  | .powerOn => Sys2Proof.Machine.execPowerOn s
  | .resetLine => Sys2Proof.Machine.execResetLine s
  | .backupSupplyLoss => Sys2Proof.Machine.execBackupSupplyLoss s
  | .clockTick => Sys2Proof.Machine.execClockTick s
  | .ingestFrameArrival bytes => Sys2Proof.Machine.execIngestFrameArrival bytes s
  | .frameTransmit => Sys2Proof.Machine.execFrameTransmit s
  | .ingestLinkReset => Sys2Proof.Machine.execIngestLinkReset s
  | .ingestLinkReady => Sys2Proof.Machine.execIngestLinkReady s
  | .mediaLinkReset => Sys2Proof.Machine.execMediaLinkReset s
  | .mediaLinkReady => Sys2Proof.Machine.execMediaLinkReady s
  | .malformedFrame => Sys2Proof.Machine.execMalformedFrame s
  | .beginFrame => Sys2Proof.Machine.execBeginFrame s
  | .dataFrame => Sys2Proof.Machine.execDataFrame s
  | .endFrame => Sys2Proof.Machine.execEndFrame s
  | .readFrame => Sys2Proof.Machine.execReadFrame s
  | .eraseFrame => Sys2Proof.Machine.execEraseFrame s
  | .readRecord => Sys2Proof.Machine.execReadRecord s
  | .loadInitiator => Sys2Proof.Machine.execLoadInitiator s
  | .loadClass => Sys2Proof.Machine.execLoadClass s
  | .setVolume => Sys2Proof.Machine.execSetVolume s
  | .setZone => Sys2Proof.Machine.execSetZone s
  | .placeHold => Sys2Proof.Machine.execPlaceHold s
  | .releaseHold => Sys2Proof.Machine.execReleaseHold s
  | .trigger => Sys2Proof.Machine.execTrigger s
  | .extendRetention => Sys2Proof.Machine.execExtendRetention s
  | .closeSegment => Sys2Proof.Machine.execCloseSegment s
  | .setClock => Sys2Proof.Machine.execSetClock s
  | .adjustClock => Sys2Proof.Machine.execAdjustClock s
  | .sweep => Sys2Proof.Machine.execSweep s
  | .loadScan => Sys2Proof.Machine.execLoadScan s
  | .cancelScan => Sys2Proof.Machine.execCancelScan s
  | .releaseScan => Sys2Proof.Machine.execReleaseScan s
  | .resumeReissue => Sys2Proof.Machine.execResumeReissue s
  | .resumeAbandon => Sys2Proof.Machine.execResumeAbandon s
  | .collectActivity => Sys2Proof.Machine.execCollectActivity s
  | .collectionExamine => Sys2Proof.Machine.execCollectionExamine s
  | .clearConditions => Sys2Proof.Machine.execClearConditions s
  | .setNotice => Sys2Proof.Machine.execSetNotice s
  | .setTimeouts => Sys2Proof.Machine.execSetTimeouts s
  | .restart => Sys2Proof.Machine.execRestart s
  | .mediaGrant => Sys2Proof.Machine.execMediaGrant s
  | .mstatus bytes => Sys2Proof.Machine.execMstatus bytes s
  | .mdata bytes => Sys2Proof.Machine.execMdata bytes s
  | .scanVisit => Sys2Proof.Machine.execScanVisit s
  | .mediaTimeout slot => Sys2Proof.Machine.execMediaTimeout slot s
  | .transferIdle context => Sys2Proof.Machine.execTransferIdle context s
  | .passBegin => Sys2Proof.Machine.execPassBegin s
  | .sweeperVisit => Sys2Proof.Machine.execSweeperVisit s
  | .walkerVisit => Sys2Proof.Machine.execWalkerVisit s
  | .mainPowerLoss => Sys2Proof.Machine.execMainPowerLoss s
  | .resetLineHeld => Sys2Proof.Machine.execResetLineHeld s

end Sys2Proof.Machine
end

