-- ==== Sys2Proof/Safety.lean ====
section
/-! DEFINITION. What a safe run keeps, and the premises the statements share: a frame that waits to be taken, a request
that Admission lets through, a Busy slot whose answer arrives. -/

namespace Sys2Proof.Machine

/-! ### What every step keeps -/

/-- Between two steps no notice cause waits: each step gives its own notice (R178). -/
def State.settled (s : State) : Prop := s.conditions.causes = []

/-- The law of the clock: value and mark lie at or below the top stop, and a Running clock never stands below the close
high-water mark (R29, R31, R38). -/
def Clock.lawful (c : Clock) : Prop :=
  c.value ≤ Config.topStop ∧ c.mark ≤ Config.topStop ∧ (c.state = .running → c.mark ≤ c.value)

/-- The receive queue holds at most 64 frames and the transmit queue at most 2,048 (R183, R184). -/
def State.bounded (s : State) : Prop :=
  s.rxQueue.length ≤ Config.receiveLimit ∧ s.txQueue.length ≤ Config.transmitLimit

/-- Every volume lists its segments in the canonical form (log 37). -/
def State.canonical (s : State) : Prop := ∀ v, Sparse.wf Segment.fresh (s.volume v).segments = true

/-- Some entry of the Initiator Table is an Enabled officer (R53). -/
def State.officered (s : State) : Prop := ∃ i, (s.initiator i).state = .enabled ∧ (s.initiator i).officer = true

/-- The number of segments of a volume in a state. -/
def Volume.tally (x : Volume) (st : SegmentState) : Nat :=
  ((List.range x.count).filter (fun n => decide ((Sparse.get Segment.fresh x.segments n).state = st))).length

/-- The state counts of a volume are the numbers of its segments in each state (R3, R23). -/
def Volume.tallied (x : Volume) : Prop := ∀ st, x.counts.get st = x.tally st

/-- The Map is sound: each volume lists its segments in the canonical form, lists none at or above its count, and keeps
its state counts (R1, R3, R23; log 37). -/
def State.mapSound (s : State) : Prop :=
  s.canonical ∧ ∀ v, (∀ e ∈ (s.volume v).segments, e.1 < (s.volume v).count) ∧ (s.volume v).tallied

/-- A hold's walk stands inside its range (R114, R116, R118, R123). -/
def Hold.lawful (h : Hold) : Prop :=
  h.first ≤ h.last ∧
  match h.phase with
  | .placing front => h.first ≤ front ∧ front ≤ h.last
  | .active => True
  | .releasing front raisedTo => h.first ≤ front ∧ front < raisedTo ∧ raisedTo ≤ h.last + 1

/-- The walk queue holds each slot at most once, and exactly the slots of the Placing and Releasing holds (R119). -/
def State.walkLawful (s : State) : Prop :=
  s.walkQueue.Nodup ∧ ∀ k, k ∈ s.walkQueue ↔ ∃ h, s.hold k = some h ∧ h.walking = true

/-- Every hold is lawful, and the hold count of a segment is the number of holds that have raised it and not lowered it
again; a Blank segment has none (R24, R124). -/
def State.holdLawful (s : State) : Prop :=
  (∀ k h, s.hold k = some h → h.lawful) ∧
  ∀ v n, n < (s.volume v).count →
    (s.segment v n).holdCount =
      if (s.segment v n).state = .blank then 0
      else (s.holdList.filter (fun h => h.covers v n (s.segment v n).cls && h.counts n)).length

/-- No entry of the erase queue names a segment. -/
def State.notQueued (s : State) (v n : Nat) : Prop := ∀ e ∈ s.eraseQueue, ¬ (e.volume = v ∧ e.segment = n)

/-- No more than 2 slots are Busy with the erase class, and no more than 4 with the verify class (R145). -/
def State.limited (s : State) : Prop := s.busyCount .erase ≤ 2 ∧ s.busyCount .verify ≤ 4

/-! ### Start-up -/

/-- The start-up conditions of an engine whose Clock is Unset or was raised to the mark, and whose Map had fault pending
flags set right, as a set (R181, R187). -/
def startUpSet (unset clamped discarded : Bool) : CondSet :=
  (if unset then Cond.clockUnset.bit else 0#18) ||| (if clamped then Cond.clockClamped.bit else 0#18) |||
    (if discarded then Cond.faultDiscarded.bit else 0#18)

/-- t holds every volatile block at its start-up value, and every non-volatile table of s but the Map and the Clock,
which their own rules give (R39, R49, R51, R100, R114, R126, R135, R138, R145, R147, R159, R177, R195, R197). -/
def State.startedFrom (s t : State) : Prop :=
  (t.ingestLink = .lost ∧ t.mediaLink = .lost ∧ t.ingestCheck = FrameCheck.cleared ∧
    t.mediaCheck = FrameCheck.cleared ∧ t.rxQueue = []) ∧
  ((∀ c, t.context c = .free) ∧ (∀ n, t.slot n = .free) ∧ (∀ r, t.record r = none)) ∧
  (t.arbiter.write = [] ∧ t.arbiter.read = [] ∧ t.arbiter.verify = [] ∧ t.arbiter.last = .verify) ∧
  (t.sweeper = { state := .idle, passAgain := true } ∧ t.scanActive = none ∧ t.scanQueued = none ∧
    t.collection = none) ∧
  (t.initiators = s.initiators ∧ t.classes = s.classes ∧ t.holds = s.holds ∧ t.walkQueue = s.walkQueue ∧
    t.idleTime = s.idleTime ∧ t.mediaTimeout = s.mediaTimeout ∧
    t.conditions.noticeInitiator = s.conditions.noticeInitiator ∧ t.conditions.enables = s.conditions.enables)

/-- The Map of t is that of s with every writer and fault pending flag cleared and nothing else changed (R27). -/
def State.mapSetRight (s t : State) : Prop :=
  ∀ v,
    ((t.volume v).state = (s.volume v).state ∧ (t.volume v).count = (s.volume v).count ∧
      (t.volume v).writeInhibit = (s.volume v).writeInhibit ∧ (t.volume v).commonKey = (s.volume v).commonKey ∧
      (t.volume v).counts = (s.volume v).counts ∧ (t.volume v).zones = (s.volume v).zones) ∧
    ∀ n, t.segment v n = { s.segment v n with writer := none, faultPending := false }

/-- The erase queue of t holds one waiting entry, without requester or media tag, for each listed Erasing segment of s,
and each entry asks for a slot, in the order of the queue (R27, R134). -/
def State.erasesRebuilt (s t : State) : Prop :=
  t.arbiter.erase = t.eraseQueue.map EraseEntry.request ∧
  (∀ e ∈ t.eraseQueue, e.requester = none ∧ e.mediaTag = none ∧ e.progress = .waiting) ∧
  (∀ v n, (∃ e ∈ t.eraseQueue, e.volume = v ∧ e.segment = n) ↔ (s.segment v n).state = .erasing) ∧
  t.eraseQueue.Pairwise (fun a b => a.volume < b.volume ∨ (a.volume = b.volume ∧ a.segment < b.segment))

/-! ### A frame that waits to be taken -/

/-- The engine takes events, and the frame at the head of the receive queue is of good form and may be taken (R183,
R184, R189). -/
abbrev State.awaits (s : State) (f : Frame) (rest : List RxFrame) : Prop :=
  s.takesEvents = true ∧ s.conditions.causes = [] ∧ s.rxQueue = .whole f :: rest ∧
    s.txQueue.length < Config.intakeLimit ∧ f.goodForm = true

/-- The frame that waits is a request of an Enabled officer, on a Ready link, with a free tag (R52, R58, R70). -/
abbrev State.officerAsks (s : State) (f : Frame) (rest : List RxFrame) (request : Nat) : Prop :=
  s.awaits f rest ∧ f.kind = 6 ∧ f.code = request ∧ s.ingestLink = .ready ∧
    (s.initiator f.initiator).state = .enabled ∧ (s.initiator f.initiator).officer = true ∧
    s.tagLive f.initiator f.tag = false

/-- The frame that waits is a write-type control request on a real segment that passes every check of Admission (R57,
R59 to R62). -/
abbrev State.segmentAsked (s : State) (f : Frame) (rest : List RxFrame) (request n : Nat) : Prop :=
  s.officerAsks f rest request ∧ n = (s.initiator f.initiator).relocate (f.param 0) (f.param 1) ∧
    check2 s (s.initiator f.initiator) (f.param 0) = none ∧ n < (s.volume (f.param 0)).count ∧
    check5 s (s.initiator f.initiator) (f.param 0) n = none ∧ check6 s (s.initiator f.initiator) (f.param 0) n = none

/-- The state once the head frame is taken and one frame is placed in the transmit queue (R183, R184). -/
def State.answered (s : State) (rest : List RxFrame) (reply : Frame) : State :=
  { s with rxQueue := rest, txQueue := s.txQueue ++ [reply] }

/-- The state once the head frame is taken. -/
def State.taken (s : State) (rest : List RxFrame) : State := { s with rxQueue := rest }

/-- The reply to a control request that is not refused (R193). -/
def Frame.reply (f : Frame) (status : Status) (words : List Nat) : Frame :=
  controlReply f.initiator f.tag f.code status words

/-- The refusal of a control request by the Control Unit (R74). -/
def Frame.refusal (f : Frame) (code : Code) (segment : Option Nat) : Frame :=
  refusedFrame f.initiator f.tag f.volume code false 0 segment none

/-! ### Transfers -/

/-- Between s and t one condition is raised: its flag is yes, the Last Outcome record is the one given, and the step
makes one notice, which takes the present number, exactly when the condition's group goes from clear to set with its
enable yes (R172, R174, R175, R178, R179). The notice goes to the notice initiator unless that is Absent or the transmit
queue is full (R184). Nothing else of the Condition Unit changes. -/
def State.raisesOne (s t : State) (cond : Cond) (last : Option LastOutcome) (notices : List Frame) : Prop :=
  let fires := s.conditions.accrued.groupSet cond.group = false ∧ s.conditions.enables.has cond.group = true
  t.conditions =
    { s.conditions with
      accrued := s.conditions.accrued ||| cond.bit
      last := last
      noticeNumber :=
        if fires then (s.conditions.noticeNumber + 1) % 65536 else s.conditions.noticeNumber } ∧
  notices.length ≤ 1 ∧ (∀ y ∈ notices, y.kind = 10 ∧ y.initiator = s.conditions.noticeInitiator) ∧
  (notices ≠ [] → fires ∧ (s.initiator s.conditions.noticeInitiator).state ≠ .absent) ∧
  (notices = [] → fires → (s.initiator s.conditions.noticeInitiator).state ≠ .absent → 2048 ≤ t.txQueue.length)

/-- The kind of the operation that a request frame is, as it reports to the Condition Unit (R75, R173). -/
def Frame.opKind (f : Frame) : OpKind :=
  match f.kind with
  | 1 => .beginTransfer
  | 4 => .readTransfer
  | 5 => .eraseSegment
  | _ => .control f.code

/-- The Last Outcome record that the request of a frame leaves when it completes with one condition at a time (R173,
R174). -/
def Frame.outcome (f : Frame) (cond : Cond) (time : Nat) : LastOutcome :=
  { op := { initiator := some f.initiator, tag := some f.tag, kind := f.opKind }, outcome := cond.bit, time := time }

/-- The request of the waiting frame is refused: the refusal is answered and reported with the condition its code
raises, if any, and nothing else changes (R73 to R75, R173, R174, R178; a notice follows the reply, log 18). -/
def State.refusedBy (s : State) (f : Frame) (rest : List RxFrame) (c : Instr) (d : Denial) : Prop :=
  ∃ (t : State) (notices : List Frame), exec c s = .next t ∧
    t = { s with
      rxQueue := rest
      txQueue := s.txQueue ++ [refusedFrame f.initiator f.tag f.volume d.code false d.check d.segment none] ++ notices
      conditions := t.conditions } ∧
    (d.code.condition = none → t.conditions = s.conditions ∧ notices = []) ∧
    (∀ cond, d.code.condition = some cond → s.raisesOne t cond (some (f.outcome cond s.now)) notices)

/-- The descriptor without its writer when that is a context (R12). -/
def Segment.without (g : Segment) (c : Nat) : Segment := if g.writer = some c then { g with writer := none } else g

/-- The segments whose writer a write context may be: the one it started in, its current one and the one a span reserved
(R10, R12, R76). -/
def WriteContext.worksIn (w : WriteContext) (v m : Nat) : Prop :=
  v = w.volume ∧ (m = w.startSegment ∨ m = w.current ∨ w.next = some m)

/-- Between u and t every writer that names the context c, which stands as w, is cleared, and every other descriptor is
as it was (R12, R95). -/
def State.clears (u t : State) (c : Nat) (w : WriteContext) : Prop :=
  (∀ v m, w.worksIn v m ∧ m < (u.volume v).count → t.segment v m = (u.segment v m).without c) ∧
  ∀ v m, ¬ (w.worksIn v m ∧ m < (u.volume v).count) → t.segment v m = u.segment v m

/-- Between s and t the writers that name a write context which p picks are cleared, and every other descriptor is as it
was (R12, R28). -/
def State.clearsFreed (s t : State) (p : WriteContext → Prop) : Prop :=
  (∀ c w v m, s.context c = .write w → p w → w.worksIn v m → m < (s.volume v).count →
    (s.segment v m).writer = some c → t.segment v m = { s.segment v m with writer := none }) ∧
  (∀ c w v m, s.context c = .write w → p w → w.worksIn v m → m < (s.volume v).count →
    (t.segment v m).writer ≠ some c) ∧
  ∀ v m, (∀ c w, s.context c = .write w → p w → w.worksIn v m → m < (s.volume v).count →
    (s.segment v m).writer ≠ some c) → t.segment v m = s.segment v m

/-- A fatal condition of a Streaming context: it is Aborting while it has pending writes, and the Map is as it was; with
none it is freed, its writers are cleared, its end is reported, and its Terminated reply, which names its current
segment, is sent (R12, R78, R94, R95; that segment, log 54; a notice follows the reply, log 18). -/
def State.abortedBy (s t : State) (c : Nat) (w : WriteContext) (cond : Cond) (code : Code) : Prop :=
  (w.pending ≠ [] →
    t.context c =
      .write { w with state := .aborting, idle := none, fatal := some code, outcome := w.outcome ||| cond.bit } ∧
    t.volumes = s.volumes ∧
    ∃ notices, t.txQueue = s.txQueue ++ notices ∧ s.raisesOne t cond s.conditions.last notices) ∧
  (w.pending = [] →
    t.context c = .free ∧ s.clears t c w ∧
    ∃ notices,
      t.txQueue =
        s.txQueue ++
          [refusedFrame w.initiator w.tag w.volume code true 0 (some w.current)
            (some (w.current, w.confirmedOffset))] ++ notices ∧
      s.raisesOne t cond
        (some
          { op := { initiator := some w.initiator, tag := some w.tag, kind := .beginTransfer }
            outcome := w.outcome ||| cond.bit, time := s.now }) notices) ∧
  (∀ d, d ≠ c → t.context d = s.context d) ∧
  t = { s with
    rxQueue := t.rxQueue, txQueue := t.txQueue, contexts := t.contexts, volumes := t.volumes,
    conditions := t.conditions }

/-- A write context whose replies are sent: the link is Ready and its initiator not Absent, and neither the initiator's
removal nor a loss of the link has silenced it (R54, R95, R98, R184). -/
abbrev State.hears (s : State) (w : WriteContext) : Prop :=
  s.ingestLink = .ready ∧ (s.initiator w.initiator).state ≠ .absent ∧ w.removed = false ∧ w.silent = false

/-- The row of the table that the taking of a request frame of good form is (R57, R193). -/
def Frame.requestRow (f : Frame) : Option Instr :=
  match f.kind, f.code with
  | 1, _ => some .beginFrame
  | 4, _ => some .readFrame
  | 5, _ => some .eraseFrame
  | 6, 1 => some .readRecord
  | 6, 2 => some .loadInitiator
  | 6, 3 => some .loadClass
  | 6, 4 => some .setVolume
  | 6, 5 => some .setZone
  | 6, 6 => some .placeHold
  | 6, 7 => some .releaseHold
  | 6, 8 => some .trigger
  | 6, 9 => some .extendRetention
  | 6, 10 => some .closeSegment
  | 6, 11 => some .setClock
  | 6, 12 => some .adjustClock
  | 6, 13 => some .sweep
  | 6, 14 => some .loadScan
  | 6, 15 => some .cancelScan
  | 6, 16 => some .releaseScan
  | 6, 17 => some (if f.param 1 = 1 then .resumeAbandon else .resumeReissue)
  | 6, 18 => some .collectActivity
  | 6, 19 => some .clearConditions
  | 6, 20 => some .setNotice
  | 6, 21 => some .setTimeouts
  | 6, 22 => some .restart
  | _, _ => none

/-- The segment a request names, as a refusal at check 1 carries it: that of a BEGIN, READ or ERASE, of a write-type
control request, of a READ RECORD of a segment and of a COLLECT ACTIVITY (R56, R73). -/
def Frame.namedSegment (f : Frame) : Option Nat :=
  if f.kind ≠ 6 then some f.segment
  else if f.code = 1 ∧ f.param 0 = 0 then some (f.param 2)
  else if f.code = 8 ∨ f.code = 9 ∨ f.code = 10 ∨ f.code = 18 then some (f.param 1)
  else none

/-! ### An answer of the shelf -/

/-- The bytes of a media response arrive on a Ready link with a check word that passes, and hold a frame whose tag
names a slot (R140, R144, R190). -/
abbrev State.answers (s : State) (bytes : List Byte) (f : Frame) (kind : Nat) : Prop :=
  s.takesEvents = true ∧ s.conditions.causes = [] ∧ s.mediaLink = .ready ∧ checkPasses bytes = true ∧
    Frame.ofBody (checkedBody bytes) = some f ∧ f.kind = kind ∧ f.tag < 16

/-- The state once the response has arrived and its slot is Free (R140; the frame check state after it, log 12). -/
def State.slotFreed (s : State) (bytes : List Byte) (t : Nat) : State :=
  { s with mediaCheck := checkAfter bytes }.setSlot t .free

/-- The slot of a media tag is Busy with a command of an owner. -/
abbrev State.owned (s : State) (tag : Nat) (owner : Owner) : Prop :=
  ∃ command cls timer, s.slot tag = .busy command cls (some owner) timer

/-- A command that hands the owner of a Busy slot a failure, and the state once the slot has been taken from it. For a
write or an erase: an MSTATUS other than OK and SOFT, any MDATA, the timeout. For a read of n blocks: any MSTATUS, an
MDATA that does not carry exactly n blocks, the timeout (R90, R104, R132, R140, R141, R168, R190; a timer has run out at
no remaining time, log 9). -/
def State.fails (s : State) (c : Instr) (tag : Nat) (owner : Owner) (blocks : Option Nat) (timeout : Bool) (u : State) :
    Prop :=
  (∃ bytes f, c = .mstatus bytes ∧ bytesAreMdata bytes = false ∧ s.answers bytes f 19 ∧ f.tag = tag ∧
    s.owned tag owner ∧ (blocks = none → f.status ≠ 16 ∧ f.status ≠ 17) ∧ timeout = false ∧
    u = s.slotFreed bytes tag) ∨
  (∃ bytes f, c = .mdata bytes ∧ bytesAreMdata bytes = true ∧ s.answers bytes f 20 ∧ f.tag = tag ∧ s.owned tag owner ∧
    (∀ n, blocks = some n → f.holdsBlocks n = false) ∧ timeout = false ∧ u = s.slotFreed bytes tag) ∨
  (c = .mediaTimeout tag ∧ s.takesEvents = true ∧ s.settled ∧ tag < 16 ∧
    (∃ command cls, s.slot tag = .busy command cls (some owner) 0) ∧ timeout = true ∧ u = s.setSlot tag .busyLate)

/-! ### Write transfers that the shelf answers -/

/-- The MSTATUS answers a write of a write context OK or SOFT (R86, R87, R140). -/
abbrev State.confirms (s : State) (bytes : List Byte) (f : Frame) (c : Nat) (w : WriteContext) : Prop :=
  s.answers bytes f 19 ∧ bytesAreMdata bytes = false ∧ (f.status = 16 ∨ f.status = 17) ∧ s.owned f.tag (.write c) ∧
    s.context c = .write w ∧ s.canonical

/-- The segments a write context works in exist: the one it started in, its current and its next one, and those of its
pending writes (R12, R76). -/
def State.stands (s : State) (w : WriteContext) : Prop :=
  ∀ m, m = w.startSegment ∨ m = w.current ∨ w.next = some m ∨ (∃ e ∈ w.pending, e.segment = m) →
    s.segmentExists w.volume m = true

/-- The list of a write context once the write that held a media tag is confirmed: a run of confirmed entries, which
leaves the list, and the rest, whose head is not confirmed (R86). -/
abbrev WriteContext.leaves (w : WriteContext) (tag : Nat) (run rest : List PendingWrite) : Prop :=
  w.pending.map (fun e => if e.mediaTag = some tag then { e with confirmed := true, mediaTag := none } else e) =
      run ++ rest ∧
    (∀ e ∈ run, e.confirmed = true) ∧ ∀ e, rest.head? = some e → e.confirmed = false

/-- The descriptor once the blocks of a run up to an offset q are folded into it and its append point has followed. A
class 0 segment is not folded, and its append point never falls (R12, R47, R86, R89). -/
def Segment.takes (g : Segment) (run : List PendingWrite) (q : Nat) : Segment :=
  if run = [] then g
  else if g.cls = some 0 then
    { g with appendPoint := run.foldl (fun a e => max a (e.offset + e.count)) g.appendPoint }
  else
    let fold := run.foldl (fun p e => foldBytes p e.data) (g.foldA, g.foldB)
    { g with foldA := fold.1, foldB := fold.2, appendPoint := q }

/-- A descriptor closed at the time of a state, without its writer (R13). -/
def State.closes (s : State) (g : Segment) : Segment :=
  { g with state := .closed, closeTime := some s.now, expiry := s.expiryAt g (s.now / 86400), writer := none }

/-- A run of confirmed entries is folded: the Map and the Clock of s become those of u, and the context w becomes x. A
run inside one segment moves the append point and the confirmed point there. A run with an entry that ends at offset
16,384 fills that segment, which closes unless its class is 0 or 1; the confirmed point, with a fault pending flag, is
carried into the next segment, and the entries after it are folded there (R14, R38, R86, R88, R89, R153; log 27). -/
def State.foldsTo (s u : State) (w x : WriteContext) (run : List PendingWrite) : Prop :=
  u = { s with volumes := u.volumes, clock := u.clock } ∧ (∀ v, (u.volume v).count = (s.volume v).count) ∧
  x = { w with current := x.current, confirmedOffset := x.confirmedOffset, next := x.next } ∧
  (run = [] → u = s ∧ x = w) ∧
  (∀ n e, run.getLast? = some e → (∀ y ∈ run, y.segment = n ∧ y.offset + y.count < 16384) →
    let q := e.offset + e.count
    x = { w with current := n, confirmedOffset := q } ∧ u.clock = s.clock ∧
    u.segment w.volume n = (s.segment w.volume n).takes run q ∧
    ∀ v m, ¬ (v = w.volume ∧ m = n) → u.segment v m = s.segment v m) ∧
  (∀ low e high, run = low ++ e :: high → (∀ y ∈ low, y.segment = e.segment ∧ y.offset + y.count < 16384) →
    e.offset + e.count = 16384 → (∀ y ∈ high, w.next = some y.segment ∧ y.offset + y.count < 16384) →
    w.next ≠ some e.segment →
    let q := match high.getLast? with
      | some y => y.offset + y.count
      | none => if w.next = none then 16384 else 0
    let g := (s.segment w.volume e.segment).takes (low ++ [e]) 16384
    let closes := g.state = .opened ∧ g.cls ≠ some 0 ∧ g.cls ≠ some 1
    x = { w with current := w.next.getD e.segment, confirmedOffset := q, next := none } ∧
    u.clock = (if closes then { s.clock with mark := max s.clock.mark s.now } else s.clock) ∧
    u.segment w.volume e.segment =
      { (if closes then s.closes g else g) with faultPending := g.faultPending && w.next.isNone } ∧
    (∀ m, w.next = some m →
      u.segment w.volume m =
        { (s.segment w.volume m).takes high q with
          faultPending := (s.segment w.volume m).faultPending || g.faultPending }) ∧
    ∀ v m, ¬ (v = w.volume ∧ (m = e.segment ∨ w.next = some m)) → u.segment v m = s.segment v m)

/-- The condition a soft answer raises, as a set (R87). -/
def softSet (f : Frame) : CondSet := if f.status = 17 then Cond.mediaSoft.bit else 0#18

/-- The MSTATUS answers a write of a context OK or SOFT: a run of its list is confirmed and leaves, the rest stays, and
the frames of its initiator are sent (R84, R86, R87). -/
abbrev State.writeAnswered (s : State) (bytes : List Byte) (f : Frame) (c : Nat) (w : WriteContext)
    (run rest : List PendingWrite) : Prop :=
  s.confirms bytes f c w ∧ w.leaves f.tag run rest ∧ s.stands w ∧ s.hears w ∧ s.txQueue.length < 2048

/-- The context once the run has left its list: x says where it stands, and credit rises by one for each entry gone, but
not in Reissuing (R86, R87, R153). -/
def WriteContext.folded (w x : WriteContext) (f : Frame) (run rest : List PendingWrite) : WriteContext :=
  { x with
    pending := rest, credit := w.credit + (if w.state = .reissuing then 0 else run.length)
    outcome := w.outcome ||| softSet f }

/-- The CREDIT frame of a write context that stands at offset q of segment n with a credit (R86, R153, R192). -/
def creditOf (w : WriteContext) (n q credit : Nat) : Frame :=
  { Frame.blank 8 w.initiator w.tag w.volume with segment := n, offset := q, count := credit }

/-- The segment that holds the last block a write transfer has confirmed, or the one its BEGIN named when it has
confirmed none (R92). -/
def WriteContext.lastBlock (w : WriteContext) : Nat :=
  if w.current ≠ w.startSegment ∧ w.confirmedOffset = 0 then w.startSegment else w.current

/-- The final reply of a write transfer that completes: the segment the close flag acts on and whether it is now Closed,
the blocks confirmed, the confirmed point and the outcome set (R92, R192; the closed flag, log 42). -/
def completionFrame (w : WriteContext) (closed : Bool) : Frame :=
  { replyFrame w.initiator w.tag w.volume (if w.remaining = 0 then .done else .short) with
    flags := if closed then 8 else 0
    segment := w.lastBlock
    count :=
      if w.current = w.startSegment then w.confirmedOffset - w.startOffset
      else 16384 - w.startOffset + w.confirmedOffset
  }.withPayload (wordsBytes [w.current, w.confirmedOffset, w.outcome.toNat])

/-- The Terminated reply of a write transfer names its current segment and its confirmed point (R95, R192; the segment,
log 54). -/
def terminationFrame (w : WriteContext) (code : Code) : Frame :=
  refusedFrame w.initiator w.tag w.volume code true 0 (some w.current) (some (w.current, w.confirmedOffset))

/-- Between u and t the transfer of context c, which stands as w, completes: the context is free, and the segment of its
last block is closed when the close flag asks it to and it is Open under this transfer and of a class other than 0 and
1; every other writer that names the context is cleared, and every other descriptor is as it was (R15, R38, R92; log
45). -/
def State.finishes (u t : State) (c : Nat) (w : WriteContext) : Prop :=
  let n := w.lastBlock
  let g := u.segment w.volume n
  let closes := w.closeFlag = some true ∧ g.state = .opened ∧ g.writer = some c ∧ g.cls ≠ some 0 ∧ g.cls ≠ some 1
  t.context c = .free ∧ (∀ d, d ≠ c → t.context d = u.context d) ∧
  t.segment w.volume n = (if closes then u.closes g else g.without c) ∧
  (∀ v m, ¬ (v = w.volume ∧ m = n) →
    (w.worksIn v m ∧ m < (u.volume v).count → t.segment v m = (u.segment v m).without c) ∧
    (¬ (w.worksIn v m ∧ m < (u.volume v).count) → t.segment v m = u.segment v m)) ∧
  t.clock = (if closes then { u.clock with mark := max u.clock.mark u.now } else u.clock)

/-- The pending writes of a context as a fault record takes them (R150). -/
def recordWrites (l : List PendingWrite) : List RecordWrite :=
  l.map (fun e =>
    { segment := e.segment, offset := e.offset, count := e.count, needsReissue := !e.confirmed, data := e.data })

/-- The record r of context c, which stood as x, is settled: it takes the list w of the Faulted context holds and the
place of its confirmed point, the list is empty, and the segment g there has fault pending (R150). -/
def State.settles (s t : State) (c r : Nat) (x : FaultRecord) (w : WriteContext) (g : Segment) : Prop :=
  t.record r =
      some
        { x with
          settled := true
          place := some { volume := w.volume, segment := w.current, offset := w.confirmedOffset }
          writes := recordWrites w.pending
          resumer := none } ∧
    (∀ k, k ≠ r → t.record k = s.record k) ∧ t.context c = .write { w with pending := [] } ∧
    t.segment w.volume w.current = { g with faultPending := true } ∧
    ∀ v m, ¬ (v = w.volume ∧ m = w.current) → t.segment v m = s.segment v m

/-- The frame of a settling: FAULTED to the transfer's initiator at the first, and at a later one FAULTED to the resumer
that still waits (R150, R154, R192, R193). -/
def settlingFrames (x : FaultRecord) (w : WriteContext) (r : Nat) : List Frame :=
  if x.reissues = 0 then
    [{ replyFrame w.initiator w.tag w.volume .faulted with
        segment := w.current, offset := w.confirmedOffset }.withPayload (wordsBytes [r, x.kind.number])]
  else
    match x.resumer with
    | some p => [controlReply p.1 p.2 17 .faulted [r, w.confirmedOffset, x.kind.number, x.reissues]]
    | none => []

/-- Between the two states an operation has completed with an outcome set: a set that is not empty replaces the Last
Outcome record; the notice settings stand, and no notice cause is left waiting (R174, R177, R178). -/
def State.reports (s t : State) (op : Operation) (outcome : CondSet) : Prop :=
  t.conditions =
    { s.conditions with
      accrued := t.conditions.accrued
      last := if outcome = 0#18 then s.conditions.last else some { op := op, outcome := outcome, time := s.now }
      noticeNumber := t.conditions.noticeNumber }

/-- Between the two states no operation completes: the Last Outcome record and the notice settings stand, and no notice
cause is left waiting (R174, R177, R178). -/
def State.completesNothing (s t : State) : Prop :=
  t.conditions =
    { s.conditions with accrued := t.conditions.accrued, noticeNumber := t.conditions.noticeNumber }

/-! ### Work that ends with its initiator or its link -/

/-- Between s and t the read contexts that p picks are freed: their waiting entries are withdrawn from the Arbiter and
the slots of their sent ones answer without an owner; every other read, slot and request is as it was (R108, R109,
R142). -/
def State.dropsReads (s t : State) (p : ReadContext → Prop) : Prop :=
  (∀ c r, s.context c = .read r → (p r → t.context c = .free) ∧ (¬ p r → t.context c = .read r)) ∧
  (∀ c r, s.context c = .read r → p r → ∀ e ∈ r.list, ∀ k command cls owner timer, e.mediaTag = some k →
    s.slot k = .busy command cls owner timer → t.slot k = .busy command cls none timer) ∧
  (∀ k, (∀ c r, s.context c = .read r → p r → ∀ e ∈ r.list, e.mediaTag ≠ some k) ∨ s.slot k = .free ∨
    s.slot k = .busyLate → t.slot k = s.slot k) ∧
  (∀ q, q ∈ t.arbiter.read ↔ q ∈ s.arbiter.read ∧ ¬ ∃ c r, q.owner = .read c ∧ s.context c = .read r ∧ p r) ∧
  t.arbiter = { s.arbiter with read := t.arbiter.read }

/-- A Streaming or Draining write context that ends without a reply: Aborting and silent while it has pending writes,
which go on to be answered, and Free when it has none (R94, R95, R97, R98; the mark that no reply is due, log 23). -/
def WriteContext.silenced (w : WriteContext) : Context :=
  if w.pending = [] then .free else .write { w with state := .aborting, idle := none, silent := true }

/-- The transfers that p picks end without a condition of their own: each one freed reports its end (R78, R108), and
when none of them has an outcome the Last Outcome record stands (R174). -/
def State.endsQuietly (s t : State) (p : Nat → Prop) : Prop :=
  t.conditions = { s.conditions with last := t.conditions.last } ∧
  ((∀ c w, s.context c = .write w → p w.initiator → w.state = .streaming ∨ w.state = .draining → w.pending = [] →
      w.outcome = 0#18) →
    (∀ c r, s.context c = .read r → p r.initiator → r.outcome = 0#18) → t.conditions = s.conditions)

/-! ### The Active scan -/

/-- The cursor after the segment at it: the next of its entry, else the first of the next entry, else none (R165). -/
def Scan.after (x : Scan) (cur : ScanCursor) : Option ScanCursor :=
  match x.ranges[cur.entry - 1]? with
  | some r =>
    if cur.segment + 1 < r.first + r.count then some { cur with segment := cur.segment + 1 }
    else (x.ranges[cur.entry]?).map (fun q => { entry := cur.entry + 1, segment := q.first })
  | none => none

/-- The Active scan x has finished the segment at its cursor: it stands at the next one, or is Done and reports its end
(R165, R167, R170; the cursor of a scan that is Done, log 32). -/
def State.passes (s t : State) (x : Scan) (cur : ScanCursor) : Prop :=
  (∀ next, x.after cur = some next →
    t.scanActive = some { x with cursor := some next, segmentRead := none, list := [] } ∧
    s.completesNothing t) ∧
  (x.after cur = none →
    t.scanActive =
      some
        { x with
          phase := .done, cursor := some { cur with segment := cur.segment + 1 }, segmentRead := none, list := []
          cancelRequested := false } ∧
    s.reports t { initiator := none, tag := none, kind := .scan } x.outcome)

/-- The fold of the segment at the cursor of the Active scan x is compared with the stored one: a match passes on, a
mismatch marks the segment suspect and raises DIGEST_MISMATCH, and stops the scan unless it scans through (R167,
R170). -/
def State.compares (s t : State) (x : Scan) (v : Nat) (cur : ScanCursor) (fold : Nat × Nat) : Prop :=
  let g := s.segment v cur.segment
  let y := { x with
    examined := x.examined + 1, mismatched := x.mismatched + 1, outcome := x.outcome ||| Cond.digestMismatch.bit }
  (fold = (g.foldA, g.foldB) →
    s.passes t { x with examined := x.examined + 1 } cur ∧ t.volumes = s.volumes ∧
    t.conditions.accrued = s.conditions.accrued) ∧
  (fold ≠ (g.foldA, g.foldB) →
    t.segment v cur.segment = { g with suspect := true } ∧
    (∀ u m, ¬ (u = v ∧ m = cur.segment) → t.segment u m = s.segment u m) ∧
    t.conditions.accrued = s.conditions.accrued ||| Cond.digestMismatch.bit ∧
    (x.scanThrough = true → s.passes t y cur) ∧
    (x.scanThrough = false →
      s.reports t { initiator := none, tag := none, kind := .scan } y.outcome ∧
      ∃ next : ScanCursor,
        (∀ z, x.after cur = some z → next = z) ∧
        t.scanActive =
          some
            { y with
              phase := .stopped .mismatch, cursor := some next, segmentRead := none, list := []
              cancelRequested := false }))

/-- One visit of the Running scan x to the segment n = cur.segment of volume v: skipped when it is not retained,
compared with the fold (1, 0) when it is empty, and otherwise its first pieces, at most four, are asked for (R165 to
R167). -/
def State.visits (s t : State) (x : Scan) (v : Nat) (cur : ScanCursor) : Prop :=
  let g := s.segment v cur.segment
  let retained := s.segmentExists v cur.segment = true ∧ (g.state = .closed ∨ g.state = .expired)
  (¬ retained →
    s.passes t { x with skipped := x.skipped + 1 } cur ∧ t.volumes = s.volumes ∧ t.arbiter = s.arbiter ∧
    t.conditions.accrued = s.conditions.accrued) ∧
  (retained → g.appendPoint = 0 → s.compares t x v cur (1, 0) ∧ t.arbiter = s.arbiter) ∧
  (retained → 0 < g.appendPoint →
    let list := (pieces 4 0 g.appendPoint).map waitingEntry
    t.scanActive =
      some { x with segmentRead := some { readEnd := g.appendPoint, foldA := 1, foldB := 0 }, list := list } ∧
    t.arbiter =
      { s.arbiter with
        verify :=
          s.arbiter.verify ++
            list.map (fun e =>
              { command :=
                  { kind := .mread, volume := v, segment := cur.segment, offset := e.offset, count := e.count }
                owner := .scan }) } ∧
    t.volumes = s.volumes ∧ t.conditions = s.conditions)

/-- What a promoted scan is before its first visit: Running, at the first segment of its first entry (R162). -/
def Scan.promoted (q : Scan) (r : ScanRange) : Scan :=
  { q with
    phase := .running, cursor := some { entry := 1, segment := r.first }, cancelRequested := false
    segmentRead := none, list := [] }

/-- Only the scans, the Arbiter, the Map, the conditions and the frames may differ between two states. -/
def State.sameButScan (s t : State) : Prop :=
  t = { s with
    rxQueue := t.rxQueue, txQueue := t.txQueue, scanActive := t.scanActive, scanQueued := t.scanQueued,
    arbiter := t.arbiter, volumes := t.volumes, conditions := t.conditions }

/-! ### The volumes that SET VOLUME writes -/

/-- A volume is written with its present or a lower or higher count: a Sweeper cursor and an unfinished collection that
stand at or beyond the count leave the volume and stop, the collection answered with resume end after the request
(R25, R113, R129; log 39, log 52). -/
def State.volumeWritten (s : State) (v : Nat) (x : Volume) (reply : Frame) (rest : List RxFrame) (t : State) : Prop :=
  let swept := match s.sweeper.state with
    | .passing u n => if u = v ∧ x.count ≤ n then SweepState.leaving v else s.sweeper.state
    | .leaving _ => s.sweeper.state
    | .idle => s.sweeper.state
  let base := { s.answered rest reply with
    volumes := s.volumes.setIfInBounds (v - 1) x, sweeper := { s.sweeper with state := swept } }
  (∀ y, s.collection = some y → y.volume = v → x.count ≤ y.nextSegment →
    (s.initiator y.initiator).state ≠ .absent →
    t = { base with
      collection := none
      txQueue := s.txQueue ++
        [reply, controlReply y.initiator y.tag 18 .done
          ([y.entries.length] ++ y.entries.map ActivityEntry.word ++ [4294967295])] }) ∧
  ((∀ y, s.collection = some y → ¬ (y.volume = v ∧ x.count ≤ y.nextSegment)) → t = base)

end Sys2Proof.Machine
end

