-- ==== Sys2Proof/Certificates/Slice0/Obligations.lean ====
section
/-! DEFINITION. The statements for the provers. In every reply to a control request the header fields that R193 does not
name stand at 0, which is the model's choice (log 17), and so is that a refusal of a
request without a single segment carries none (log 16). -/

section Statements

open Sys2Proof Sys2Proof.Machine

/-! ### The block and its queue of commands -/

/-- A step takes the command at the front of the queue and runs it on the state with the queue's rest. On an empty
queue the block idles (the model's choice, log 3). -/
def Obligations.StepTakesFrontCommand : Prop :=
  (∀ (c : Instr) (rest : List Instr) (s : State), s.pending = c :: rest → step s = exec c { s with pending := rest }) ∧
  (∀ s : State, s.pending = [] → step s = .next s)

/-- While main power is absent or the reset line is held the engine takes no event: only the two lines and the two
supplies act, and the timebase counts on. R182 says so of a held line; that an engine without main power leaves every
other command without effect is the model's choice (log 2). A second of the timebase then advances the Running Clock
below its top stop and does nothing else (log 8). -/
def Obligations.EngineOffTakesNoEvent : Prop :=
  (∀ (c : Instr) (s : State), s.takesEvents = false → c ≠ .powerOn → c ≠ .resetLine → c ≠ .resetLineHeld →
    c ≠ .mainPowerLoss → c ≠ .backupSupplyLoss → c ≠ .clockTick → exec c s = .next s) ∧
  (∀ s : State, s.takesEvents = false →
    (s.clock.state = .running → s.clock.value < Config.topStop →
      exec .clockTick s = .next { s with clock := { s.clock with value := s.clock.value + 1 } }) ∧
    (s.clock.state = .unset ∨ Config.topStop ≤ s.clock.value → exec .clockTick s = .next s))

/-! ### Reset and power -/

/-- After reset the tables, the clock, the settings and every volatile block hold the values the manual gives a part
that has never been powered before, every volatile block and queue empty or idle (R1, R29, R39, R40, R51, R114, R134,
R145, R177, R195, R197). That State.reset is such a part right after its first power-on, its start-up done, its Unset
Clock told by CLOCK_UNSET as the start-up's outcome (R181), with the supplies present and the line not held, is the
model's choice (log 1). -/
def Obligations.ResetValues : Prop :=
  State.reset.initiator 0 = InitiatorEntry.first ∧
  (∀ i, i ≠ 0 → (State.reset.initiator i).state = .absent) ∧
  (∀ v, (State.reset.volume v).state = .absent) ∧
  (∀ c, State.reset.classEntry c = if c < 2 then some ClassEntry.start else none) ∧
  State.reset.clock = { value := 0, state := .unset, backupValid := false, mark := 0 } ∧
  (∀ h, State.reset.hold h = none) ∧ State.reset.walkQueue = [] ∧
  State.reset.conditions.noticeInitiator = 0 ∧ State.reset.conditions.enables = 0#5 ∧
  State.reset.conditions.noticeNumber = 0 ∧
  State.reset.idleTime = 30 ∧ State.reset.mediaTimeout = 5 ∧ State.reset.startedFrom State.reset ∧
  State.reset.txQueue = [] ∧ State.reset.eraseQueue = [] ∧ State.reset.arbiter.erase = [] ∧
  State.reset.conditions.accrued = Cond.clockUnset.bit ∧
  State.reset.conditions.last =
    some { op := { initiator := none, tag := none, kind := .startUp }, outcome := Cond.clockUnset.bit, time := 0 } ∧
  State.reset.conditions.causes = [] ∧ State.reset.ingestOut = [] ∧ State.reset.mediaOut = [] ∧
  State.reset.mainPower = true ∧ State.reset.backupSupply = true ∧ State.reset.resetHeld = false ∧
  State.reset.pending = []

/-- Power returns: every volatile block takes its start-up state, and the Clock runs on from the backup value, raised to
the mark, or is Unset (R32, R49); both supplies hold again (log 7). The release of the reset line, and a RESTART of an
Enabled officer, start every volatile block up; the Clock's state and value are kept (R32, R182, R196). In all three the
tables are kept: the Class Table (R49), the Initiator Table (R51), the Hold Table with its walk queue (R114, R135), the
notice settings (R177) and the timeouts (R195). A power-on of a powered part, one with the line held, and a release of a
line not held act so too, which is the model's choice (log 6). -/
def Obligations.EngineStartsUp : Prop :=
  (∀ s : State, ∃ t, exec .powerOn s = .next t ∧ t.mainPower = true ∧ t.backupSupply = true ∧
     t.resetHeld = s.resetHeld ∧ s.startedFrom t ∧
     t.clock.mark = s.clock.mark ∧ t.clock.backupValid = s.clock.backupValid ∧
     (if s.clock.backupValid then t.clock.state = .running ∧ t.clock.value = max s.clock.value s.clock.mark
      else t.clock.state = .unset ∧ t.now = s.clock.mark)) ∧
  ((∀ s : State, s.mainPower = true →
     ∃ t, exec .resetLine s = .next t ∧ t.mainPower = true ∧ t.resetHeld = false ∧ s.startedFrom t ∧
       t.clock = s.clock) ∧
   (∀ (s : State) (f : Frame) (rest : List RxFrame), s.officerAsks f rest 22 →
     ∃ t, exec .restart s = .next t ∧ t.mainPower = true ∧ t.resetHeld = false ∧ s.startedFrom t ∧ t.clock = s.clock))

/-- The start-up conditions are raised as one operation of the engine, which replaces the emptied Last Outcome record
when it raised any; one notice, number 0, is made when a group it set is enabled (R27, R32, R181). At power-on, at the
release of the reset line and at a RESTART the Map keeps every descriptor, with the writers and the fault pending flags
cleared, and the erase queue is rebuilt from the Erasing segments (R27, R134, R196). A power-on of a powered part, one
with the line held, and a release of a line not held act so too, which is the model's choice (log 6). -/
def Obligations.StartUpSetsRight : Prop :=
  (∀ (c : Instr) (s t : State), exec c s = .next t → (c = .powerOn ∨ (c = .resetLine ∧ s.mainPower = true)) →
     let set := startUpSet (decide (t.clock.state = .unset))
       (decide (c = .powerOn) && s.clock.backupValid && decide (s.clock.value < s.clock.mark)) s.anyFaultPending
     let fires := (decide (set &&& Group.clock.members ≠ 0#18) && s.conditions.enables.has .clock) ||
       (s.anyFaultPending && s.conditions.enables.has .integrity)
     t.conditions.accrued = set ∧
     t.conditions.last =
       (if set = 0#18 then none
        else some { op := { initiator := none, tag := none, kind := .startUp }, outcome := set, time := t.now }) ∧
     t.conditions.noticeNumber = (if fires then 1 else 0) ∧
     t.txQueue.length = (if fires && s.present s.conditions.noticeInitiator then 1 else 0)) ∧
  (∀ (c : Instr) (s t : State), exec c s = .next t → (c = .powerOn ∨ (c = .resetLine ∧ s.mainPower = true)) →
     s.canonical → s.mapSetRight t ∧ s.erasesRebuilt t) ∧
  (∀ (s : State) (f : Frame) (rest : List RxFrame), s.officerAsks f rest 22 →
     let set := startUpSet (decide (s.clock.state = .unset)) false s.anyFaultPending
     let fires := (decide (s.clock.state = .unset) && s.conditions.enables.has .clock) ||
       (s.anyFaultPending && s.conditions.enables.has .integrity)
     ∃ t, exec .restart s = .next t ∧ (s.canonical → s.mapSetRight t ∧ s.erasesRebuilt t) ∧
       t.conditions.accrued = set ∧
       t.conditions.last =
         (if set = 0#18 then none
          else some { op := { initiator := none, tag := none, kind := .startUp }, outcome := set, time := s.now }) ∧
       t.conditions.noticeNumber = (if fires then 1 else 0) ∧
       t.txQueue.length = (if fires && s.present s.conditions.noticeInitiator then 1 else 0))

/-- While the reset line is held both links are Lost and nothing else has changed (R182; a held line sets the links Lost
at once, log 36). While one of the two supplies holds, the Clock's value, state and flag are kept; when neither does the
value and the flag are lost together (R34) and the Clock reads the mark, which is kept (R32, R33). The tables are kept
across a loss of main power: the Map but for its writers (R1), the Class Table (R39, section 2.4), the Initiator Table
(R51), the Hold Table with its walk queue (R114, R135), the notice settings (R177) and the timeouts (R195). A loss of
the backup supply is remembered until the next power-on (log 7); what else goes with main power, log 8. -/
def Obligations.LinesAndSupplies : Prop :=
  (∀ s : State,
    exec .resetLineHeld s = .next { s with resetHeld := true, ingestLink := .lost, mediaLink := .lost }) ∧
  (∀ s : State,
    let lost : Clock := { value := s.clock.mark, state := .unset, backupValid := false, mark := s.clock.mark }
    (s.mainPower = true →
      ∃ t, exec .mainPowerLoss s = .next t ∧ t.mainPower = false ∧ t.backupSupply = s.backupSupply ∧
        t.clock = (if s.backupSupply = true then s.clock else lost) ∧ s.startedFrom t ∧
        (s.canonical → ∀ v n, t.segment v n = { s.segment v n with writer := none })) ∧
    (s.mainPower = true → exec .backupSupplyLoss s = .next { s with backupSupply := false }) ∧
    (s.mainPower = false → exec .backupSupplyLoss s = .next { s with backupSupply := false, clock := lost }))

/-! ### The Compliance Clock -/

/-- A second of the timebase advances the Running Clock by one second below its top stop; the carry into the next day
signals a rollover, and nothing else changes but the timers (R30). At the top stop the value stays, no rollover is
signalled, the state stays Running, and CLOCK_CLAMPED is raised with the engine as its initiator (R31; at each such
second, log 10); where that sets the enabled group CLOCK, one notice says so (R178, R179; a notice is the last frame of
its step, log 18). An Unset Clock does not advance (R33), and a second counts every running timer down by one whatever
the Clock's state (the model's choice of unit, log 9); a slot that is not Busy, a read and a Free context stay as they
are. -/
def Obligations.ClockTickCounts : Prop :=
  (∀ s : State, s.takesEvents = true → s.settled → s.clock.state = .running → s.clock.value < Config.topStop →
     ∃ t, exec .clockTick s = .next t ∧
       t = { s with
         clock := { s.clock with value := s.clock.value + 1 }
         sweeper :=
           { s.sweeper with
             passAgain := s.sweeper.passAgain || decide (dayOf s.clock.value < dayOf (s.clock.value + 1)) }
         slots := t.slots
         contexts := t.contexts }) ∧
  (∀ s : State, s.takesEvents = true → s.clock.state = .running → s.clock.value = Config.topStop →
     ∃ t, exec .clockTick s = .next t ∧ t.clock = s.clock ∧ t.sweeper = s.sweeper ∧
       t.conditions.accrued = s.conditions.accrued ||| Cond.clockClamped.bit ∧
       t.conditions.last =
         some
           { op := { initiator := none, tag := none, kind := .clock }, outcome := Cond.clockClamped.bit,
             time := Config.topStop } ∧
       t = { s with conditions := t.conditions, txQueue := t.txQueue, slots := t.slots, contexts := t.contexts } ∧
       t.conditions.enables = s.conditions.enables ∧ t.conditions.noticeInitiator = s.conditions.noticeInitiator ∧
       (s.settled → t.settled) ∧
       (s.settled → s.conditions.accrued.groupSet .clock = false → s.conditions.enables.has .clock = true →
         s.present s.conditions.noticeInitiator = true → s.txQueue.length < 2048 →
         t.conditions.noticeNumber = (s.conditions.noticeNumber + 1) % 65536 ∧
         t.txQueue =
           s.txQueue ++
             [(Frame.blank 10 s.conditions.noticeInitiator 0 0).withPayload
               (wordsBytes
                 [s.conditions.noticeNumber, 1, 0, 4, 16, 32, 4294967295, 65,
                  (s.conditions.accrued ||| Cond.clockClamped.bit).groups.toNat, 32, 4294967295, 65, 65536, 1048574,
                  86399])]) ∧
       (s.settled → s.conditions.accrued.groupSet .clock = true ∨ s.conditions.enables.has .clock = false →
         t.conditions.noticeNumber = s.conditions.noticeNumber ∧ t.txQueue = s.txQueue)) ∧
  (∀ s : State, s.takesEvents = true →
     ∃ t, exec .clockTick s = .next t ∧ (s.clock.state = .unset → t.clock = s.clock ∧ t.sweeper = s.sweeper) ∧
       (∀ n command cls owner timer, s.slot n = .busy command cls owner timer →
         t.slot n = .busy command cls owner (timer - 1)) ∧
       (∀ n, s.slot n = .free ∨ s.slot n = .busyLate → t.slot n = s.slot n) ∧
       (∀ c w, s.context c = .write w → t.context c = .write { w with idle := w.idle.map (fun x => x - 1) }) ∧
       (∀ c r, s.context c = .read r → t.context c = .read r) ∧ (∀ c, s.context c = .free → t.context c = .free))

/-- SET CLOCK, row by row: refused BUSY while Running and OUT_OF_RANGE above the range; otherwise the value given is
limited below by the mark and above by the top stop, the Clock runs with its backup-valid flag yes, one rollover is
signalled, and a limited value is answered CLAMPED with CLOCK_CLAMPED raised for the request, the outcome of the time
the Clock then shows (R35, R173, R174, R193; a notice follows the reply, log 18). -/
def Obligations.SetClockByRow : Prop :=
  ∀ (s : State) (f : Frame) (rest : List RxFrame), s.officerAsks f rest 11 →
    let given := f.param 0 * 86400 + f.param 1
    let taken := max s.clock.mark (min given Config.topStop)
    (s.clock.state = .running → exec .setClock s = .next (s.answered rest (f.refusal .busy none))) ∧
    (s.clock.state = .unset → 1048575 < f.param 0 ∨ 86399 < f.param 1 →
      exec .setClock s = .next (s.answered rest (f.refusal .outOfRange none))) ∧
    (s.clock.state = .unset → f.param 0 ≤ 1048575 → f.param 1 ≤ 86399 → taken = given →
      exec .setClock s =
        .next
          { s.answered rest (f.reply .done [given / 86400, given % 86400]) with
            clock := { s.clock with value := given, state := .running, backupValid := true }
            sweeper := { s.sweeper with passAgain := true } }) ∧
    (s.clock.state = .unset → f.param 0 ≤ 1048575 → f.param 1 ≤ 86399 → taken ≠ given →
      ∃ (t : State) (notices : List Frame), exec .setClock s = .next t ∧
        t = { s with
          rxQueue := rest
          txQueue := s.txQueue ++ [f.reply .clamped [taken / 86400, taken % 86400]] ++ notices
          clock := { s.clock with value := taken, state := .running, backupValid := true }
          sweeper := { s.sweeper with passAgain := true }
          conditions := t.conditions } ∧
        s.raisesOne t .clockClamped (some (f.outcome .clockClamped taken)) notices)

/-- ADJUST CLOCK: refused CLOCK_UNSET while Unset; while Running the adjustment is limited to a day either way, and the
sum to the mark and the top stop. A limit that acted is answered CLAMPED with CLOCK_CLAMPED raised for the request, the
outcome of the time the Clock then shows; a rollover is signalled only for a later day (R36, R37, R173, R174; a notice
follows the reply, log 18). -/
def Obligations.AdjustClockLimits : Prop :=
  ∀ (s : State) (f : Frame) (rest : List RxFrame), s.officerAsks f rest 12 →
    let asked := signedWord (f.param 0)
    let limited := max (-86400) (min 86400 asked)
    let sum := (s.clock.value : Int) + limited
    let x := (max (s.clock.mark : Int) (min (Config.topStop : Int) sum)).toNat
    let acted := limited ≠ asked ∨ (x : Int) ≠ sum
    (s.clock.state = .unset → exec .adjustClock s = .next (s.answered rest (f.refusal .clockUnset none))) ∧
    (s.clock.state = .running → ¬ acted →
      exec .adjustClock s =
        .next
          { s.answered rest (f.reply .done [x / 86400, x % 86400]) with
            clock := { s.clock with value := x }
            sweeper :=
              { s.sweeper with passAgain := s.sweeper.passAgain || decide (s.clock.value / 86400 < x / 86400) } }) ∧
    (s.clock.state = .running → acted →
      ∃ (t : State) (notices : List Frame), exec .adjustClock s = .next t ∧
        t = { s with
          rxQueue := rest
          txQueue := s.txQueue ++ [f.reply .clamped [x / 86400, x % 86400]] ++ notices
          clock := { s.clock with value := x }
          sweeper :=
            { s.sweeper with passAgain := s.sweeper.passAgain || decide (s.clock.value / 86400 < x / 86400) }
          conditions := t.conditions } ∧
        s.raisesOne t .clockClamped (some (f.outcome .clockClamped x)) notices)

/-- The expiry day of a class entry at a close: Permanent for a permanent class; the close day and the base period and
one for an untriggered one; the greater of that and the trigger day's term for a triggered one, absent without a
trigger day; each sum above 1,048,574 saturates to Permanent (R44). A period of months and days is ⌈months × 487 ÷ 16⌉
+ days days: the number of days is the least that is not short of the months (R43). -/
def Obligations.PeriodsAndExpiry : Prop :=
  (∀ (e : ClassEntry) (day : Nat) (trigger : Option Nat),
     let term := fun (d : Nat) (p : Period) => if d + p.inDays + 1 ≤ 1048574 then d + p.inDays + 1 else 1048575
     (e.permanent = true → e.expiry day trigger = some 1048575) ∧
     (e.permanent = false → e.triggered = false → e.expiry day trigger = some (term day e.base)) ∧
     (e.permanent = false → e.triggered = true → trigger = none → e.expiry day trigger = none) ∧
     (∀ d post, e.permanent = false → e.triggered = true → e.post = some post → trigger = some d →
       e.expiry day trigger = some (max (term day e.base) (term d post)))) ∧
  (∀ (s : State) (g : Segment) (day c : Nat) (e : ClassEntry), g.cls = some c → s.classEntry c = some e →
     s.expiryAt g day = e.expiry day g.triggerDay) ∧
  (∀ p : Period, p.days ≤ p.inDays ∧ p.months * 487 ≤ 16 * (p.inDays - p.days) ∧
     16 * (p.inDays - p.days) < p.months * 487 + 16)

/-! ### Frames and links -/

/-- The bytes of a frame are its header in the order of its fields, those of two bytes most significant first, its
payload and its check word, whose four bytes stand most significant first; the nine bytes of the worked example give the
check word 3,808,858,755 (R186, R188). A frame of the engine reads back from its bytes: the check word passes, and
header and payload are the frame's (R186, R188). Each word of a payload is four bytes, the first its most significant,
and the words read back from them (R187). -/
def Obligations.FramesReadBack : Prop :=
  (∀ f : Frame, f.kind < 256 → f.initiator < 256 → f.tag < 256 → f.flags < 256 → f.volume < 256 → f.cls < 256 →
     f.status < 256 → f.code < 256 → f.segment < 65536 → f.offset < 65536 → f.count < 65536 → f.payloadLength < 65536 →
     checkPasses f.wire = true ∧ Frame.ofBody (checkedBody f.wire) = some f) ∧
  (∀ f : Frame,
     let byte := fun n : Nat => BitVec.ofNat 8 n
     let body : List Byte :=
       [byte f.kind, byte f.initiator, byte f.tag, byte f.flags, byte f.volume, byte f.cls, byte f.status, byte f.code,
         byte (f.segment / 256), byte f.segment, byte (f.offset / 256), byte f.offset, byte (f.count / 256),
         byte f.count, byte (f.payloadLength / 256), byte f.payloadLength] ++ f.payload
     f.wire = body ++ wordsBytes [checkWord body]) ∧
  checkWord [49#8, 50#8, 51#8, 52#8, 53#8, 54#8, 55#8, 56#8, 57#8] = 3808858755 ∧
  (∀ (w : Nat) (ws : List Nat), w < 4294967296 →
     ∃ a b c d : Byte, wordsBytes (w :: ws) = [a, b, c, d] ++ wordsBytes ws ∧
       w = a.toNat * 16777216 + b.toNat * 65536 + c.toNat * 256 + d.toNat) ∧
  wordsBytes [] = [] ∧
  (∀ ws : List Nat, (∀ w ∈ ws, w < 4294967296) → payloadWords (wordsBytes ws) = ws)

/-- A frame arriving on a Ready link with room: it joins the tail of the receive queue when its check word passes, and
is discarded with FRAME_CHECK of the engine otherwise, with no frame made but at most one notice; a Lost link or a full
queue takes no frame (R180, R182, R183; the frame check state left behind is the model's reading, log 12, and so are a
run of fewer than four bytes as one whose check word fails, log 49, and one whose check word passes but that is too
short for a header as a frame that joins the queue cut short, log 13). The Ready link takes the frame at the head of the
transmit queue, and a link that reports itself up is Ready (R137, R182, R184; the bytes sent stand in the model's own
view of the link, log 11). -/
def Obligations.IngestLinkCarriesFrames : Prop :=
  (∀ (s : State) (bytes : List Byte), s.takesEvents = true → s.settled →
     (s.ingestLink = .ready → s.rxQueue.length < 64 → checkPasses bytes = true →
       exec (.ingestFrameArrival bytes) s =
         .next { s with ingestCheck := checkAfter bytes, rxQueue := s.rxQueue ++ [rxFrameOf bytes] }) ∧
     (s.ingestLink = .ready → s.rxQueue.length < 64 → checkPasses bytes = false →
       ∃ (t : State) (notices : List Frame), exec (.ingestFrameArrival bytes) s = .next t ∧
         t = { s with
           ingestCheck := checkAfter bytes, conditions := t.conditions, txQueue := s.txQueue ++ notices } ∧
         s.raisesOne t .frameCheck
           (some
             { op := { initiator := none, tag := none, kind := .frame }, outcome := Cond.frameCheck.bit,
               time := s.now }) notices) ∧
     (s.ingestLink = .lost ∨ 64 ≤ s.rxQueue.length → exec (.ingestFrameArrival bytes) s = .next s)) ∧
  ((∀ (s : State) (f : Frame) (rest : List Frame), s.takesEvents = true → s.settled → s.ingestLink = .ready →
     s.txQueue = f :: rest → exec .frameTransmit s = .next { s with txQueue := rest, ingestOut := f.wire }) ∧
   (∀ s : State, s.takesEvents = true → s.settled →
     exec .ingestLinkReady s = .next { s with ingestLink := .ready } ∧
     exec .mediaLinkReady s = .next { s with mediaLink := .ready }))

/-- A loss of the Ingest Link: both queues are emptied; Streaming and Draining contexts are freed or left Aborting, and
reads are freed, their waiting requests withdrawn and their sent ones left to answer without an owner; Faulted and
Reissuing contexts are kept; every requester of an erase and every resumer of a fault record is forgotten and nothing
else of them changes; a collection is ended. Every other slot, the write, erase and verify requests of the Arbiter, the
tables, the Clock, the Media Link, the scans and the condition flags are not reached (R98, R109, R133, R142, R156, R185;
the mark of a context whose reply is not sent, log 23). The writers that name a context that is freed are cleared, and
every other descriptor of the Map is as it was (R12, R28). -/
def Obligations.IngestLinkLoss : Prop :=
  (∀ s : State, s.takesEvents = true → s.settled → s.ingestLink = .ready →
    ∃ t, exec .ingestLinkReset s = .next t ∧
      (∀ c w, s.context c = .write w → (w.state = .faulted ∨ w.state = .reissuing) → t.context c = .write w) ∧
      (∀ c w, s.context c = .write w → w.state = .aborting → t.context c = .write { w with silent := true }) ∧
      (∀ c w, s.context c = .write w → (w.state = .streaming ∨ w.state = .draining) → t.context c = w.silenced) ∧
      (∀ c, s.context c = .free → t.context c = .free) ∧
      s.dropsReads t (fun _ => True) ∧
      t.eraseQueue = s.eraseQueue.map (fun e => { e with requester := none }) ∧
      (∀ r, t.record r = (s.record r).map (fun x => { x with resumer := none })) ∧
      s.endsQuietly t (fun _ => True) ∧
      t = { s with
        ingestLink := .lost, ingestCheck := FrameCheck.cleared, rxQueue := [], txQueue := [], collection := none
        contexts := t.contexts, volumes := t.volumes, slots := t.slots, arbiter := t.arbiter
        eraseQueue := t.eraseQueue, records := t.records, conditions := t.conditions }) ∧
  (∀ s t : State, s.takesEvents = true → s.ingestLink = .ready → s.canonical →
    exec .ingestLinkReset s = .next t →
    s.clearsFreed t (fun w => (w.state = .streaming ∨ w.state = .draining) ∧ w.pending = []))


/-- A loss of the Media Link: every slot is Free, no entry of any block awaits an answer, a Running scan is Stopped, and
the class granted last, the receive queue and the tables are kept (R157, R171). A Streaming or Draining context with a
write sent is Faulted with a settled record of kind link-reset, or, when no record is left, Aborting or freed; a sent
erase returns its segment to Expired (R22, R90, R99, R148, R150, R157). A Faulted context with a write sent settles and
keeps its record's kind (R149), a Reissuing one is Faulted again with its record Held and of kind link-reset (R154), and
an Aborting one loses its oldest sent write and every newer one (R90), and is answered, when none is left, by a
Terminated reply that names its current segment (R95; that segment, log 54). A scan whose cancel was asked for stops as
cancelled (log 31). A read with an entry sent stops short there, and one with no entry left before it is answered
FAULTED (R106, R109). Contexts with nothing sent are kept. A request in hand of the Control Unit is none (R197; a
collection is such a request, log 53). -/
def Obligations.MediaLinkLoss : Prop :=
  (∀ s : State, s.takesEvents = true → s.mediaLink = .ready →
    ∃ t, exec .mediaLinkReset s = .next t ∧ t.mediaLink = .lost ∧ t.mediaCheck = FrameCheck.cleared ∧
      (∀ n, t.slot n = .free) ∧ t.arbiter.last = s.arbiter.last ∧
      (∀ c w, t.context c = .write w → ∀ e ∈ w.pending, e.mediaTag = none) ∧
      (∀ c r, t.context c = .read r → ∀ e ∈ r.list, e.progress ≠ .sent) ∧
      (∀ e ∈ t.eraseQueue, e ∈ s.eraseQueue ∧ e.progress ≠ .sent) ∧
      (∀ x, s.scanActive = some x → x.phase = .running →
        ∃ y, t.scanActive = some y ∧
          y.phase = .stopped (if x.cancelRequested then .cancel else .linkReset) ∧ y.list = []) ∧
      (t.rxQueue = s.rxQueue ∧ t.initiators = s.initiators ∧ t.classes = s.classes ∧ t.holds = s.holds ∧
        t.scanQueued = s.scanQueued ∧ t.collection = none ∧ t.conditions.enables = s.conditions.enables ∧
        t.conditions.noticeInitiator = s.conditions.noticeInitiator)) ∧
  (∀ s t : State, s.takesEvents = true → s.mediaLink = .ready → s.canonical → exec .mediaLinkReset s = .next t →
    (∀ e ∈ s.eraseQueue, e.progress = .sent → s.segmentExists e.volume e.segment = true →
      (s.segment e.volume e.segment).state = .erasing → (t.segment e.volume e.segment).state = .expired) ∧
    (∀ c w, s.context c = .write w → w.state = .streaming ∨ w.state = .draining →
      (∃ e ∈ w.pending, e.mediaTag ≠ none) → (∀ k x, s.record k = some x → x.context ≠ c) →
      s.segmentExists w.volume w.current = true →
      (∃ w' r x, t.context c = .write w' ∧ w'.state = .faulted ∧ w'.pending = [] ∧ w'.credit = 0 ∧
        t.record r = some x ∧ x.context = c ∧ x.state = .held ∧ x.settled = true ∧ x.kind = .linkReset ∧
        x.reissues = 0 ∧
        x.continuation = (if w.state = .streaming then .resumeStreaming else .resumeDraining) ∧
        x.place = some { volume := w.volume, segment := w.current, offset := w.confirmedOffset } ∧
        x.writes = recordWrites w.pending ∧ (t.segment w.volume w.current).faultPending = true) ∨
      ((∀ r, 1 ≤ r → r ≤ 4 → t.record r ≠ none) ∧
        let kept := w.pending.takeWhile (fun e => decide (e.mediaTag = none))
        (kept = [] → t.context c = .free) ∧
        (kept ≠ [] → ∃ w', t.context c = .write w' ∧ w'.state = .aborting ∧ w'.pending = kept)))) ∧
  (∀ s t : State, s.takesEvents = true → s.mediaLink = .ready → s.canonical → exec .mediaLinkReset s = .next t →
    let roomy := s.txQueue.length + 32 ≤ 2048
    (∀ c w, s.context c = .write w → (∀ e ∈ w.pending, e.mediaTag = none) → t.context c = .write w) ∧
    (∀ c w, s.context c = .write w → (∃ e ∈ w.pending, e.mediaTag ≠ none) →
      let outcome := w.outcome ||| Cond.mediaFault.bit
      let settled := fun (r : Nat) (x : FaultRecord) =>
        t.record r =
            some
              { x with
                settled := true
                place := some { volume := w.volume, segment := w.current, offset := w.confirmedOffset }
                writes := recordWrites w.pending
                resumer := none } ∧
          (t.segment w.volume w.current).faultPending = true ∧
          (roomy → s.hears w → (∀ p, x.resumer = some p → (s.initiator p.1).state ≠ .absent) →
            ∀ y ∈ settlingFrames x w r, y ∈ t.txQueue)
      t.conditions.accrued.getLsbD Cond.mediaFault.number = true ∧
      (∀ r x, s.recordOf c = some r → s.record r = some x → s.segmentExists w.volume w.current = true →
        (w.state = .faulted → settled r x ∧ t.context c = .write { w with pending := [], outcome := outcome }) ∧
        (w.state = .reissuing →
          settled r { x with state := .held, kind := .linkReset } ∧
          t.context c =
            .write { w with state := .faulted, credit := 0, idle := none, pending := [], outcome := outcome })) ∧
      (w.state = .aborting →
        let kept := w.pending.takeWhile (fun e => decide (e.mediaTag = none))
        (kept ≠ [] → t.context c = .write { w with pending := kept, outcome := outcome }) ∧
        (kept = [] →
          t.context c = .free ∧
          (∀ code, w.fatal = some code → roomy → s.hears w → terminationFrame w code ∈ t.txQueue)))) ∧
    (∀ c r, s.context c = .read r → (∀ e ∈ r.list, e.progress ≠ .sent) → t.context c = .read r) ∧
    (∀ c r, s.context c = .read r → (∃ e ∈ r.list, e.progress = .sent) →
      let kept := r.list.takeWhile (fun e => decide (e.progress ≠ .sent))
      let outcome := r.outcome ||| Cond.mediaFault.bit
      t.conditions.accrued.getLsbD Cond.mediaFault.number = true ∧
      (kept ≠ [] → t.context c = .read { r with list := kept, ending := some .faulted, outcome := outcome }) ∧
      (kept = [] →
        t.context c = .free ∧
        (roomy → s.ingestLink = .ready → (s.initiator r.initiator).state ≠ .absent →
          { replyFrame r.initiator r.tag r.volume .faulted with
              segment := r.segment, offset := r.firstOffset, count := r.delivered
            }.withPayload (wordsBytes [outcome.toNat]) ∈ t.txQueue))))

/-! ### Requests and transfers -/

/-- A BEGIN, READ or ERASE that Admission refuses is answered with the code, the check and the segment of its first
failure, reported with the condition the code raises, which replaces the Last Outcome record, and changes nothing else
(R73 to R75, R173, R174; one notice, when the condition's group goes from clear to set with its enable yes, follows the
reply, log 18). A malformed frame is refused FORMAT, Suppressed and with failed check 0, and changes nothing else; from
an Absent initiator it is discarded (R189; the reply's volume and segment are the model's, log 15). Past check 1, which
statement CheckOneJudges gives, the checks 2 to 9 of each kind of request are judged in their order, row by row (R59 to
R64, R66 to R69); a control request that is not write-type passes on from check 1 to the tag alone, and a live tag
refuses it TAG_IN_USE at check 9 (R57, R70; one without a single segment carries none, log 16). The tag is free when no
live request has it, and the context taken is the lowest-numbered Free one (R70, R71); that a removed initiator's
Aborting context holds no tag is the model's reading of R54 against R70 (log 24). -/
def Obligations.RefusalsChangeNothing : Prop :=
  (∀ (s : State) (f : Frame) (rest : List RxFrame) (d : Denial), s.awaits f rest → s.ingestLink = .ready →
     (f.kind = 1 → judgeBegin s f = some d → s.refusedBy f rest .beginFrame d) ∧
     (f.kind = 4 → judgeRead s f = some d → s.refusedBy f rest .readFrame d) ∧
     (f.kind = 5 → judgeErase s f = some d → s.refusedBy f rest .eraseFrame d)) ∧
  (∀ (s : State) (f : Frame) (rest : List RxFrame), s.takesEvents = true → s.settled → s.ingestLink = .ready →
     s.rxQueue = .whole f :: rest → s.txQueue.length < 1024 → f.goodForm = false →
     exec .malformedFrame s =
       .next
         (if (s.initiator f.initiator).state = .absent then { s with rxQueue := rest }
          else s.answered rest (refusedFrame f.initiator f.tag f.volume .format false 0 none none))) ∧
  (∀ (s : State) (f : Frame) (v named : Nat),
     let e := s.initiator f.initiator
     let n := e.relocate v named
     let g := s.segment v n
     let no := fun (check : Nat) (code : Code) => some ({ code := code, check := check, segment := some n } : Denial)
     let noVolume : Option Denial := some { code := .noVolume, check := 2, segment := some named }
     let volumeOk := 1 ≤ v ∧ v ≤ 4 ∧ e.volumes.getLsbD (v - 1) = true ∧ (s.volume v).state ≠ .absent
     let below := n < (s.volume v).count
     let labelled := n < 8 ∧ e.officer = false
     let readOnly := e.readOnly = true ∨ (s.volume v).state = .readOnly
     let inhibited := (s.volume v).writeInhibit = true ∨ (s.zone v (n / 4096)).writeInhibit = true
     let keyOk := e.key = 0 ∨ g.key = some e.key ∨ (g.key = some 15 ∧ (s.volume v).commonKey = true) ∨ g.key = none
     let tagTaken := s.tagLive f.initiator f.tag = true
     let inWindow := fun m => e.window.any (fun w => decide (w.volume = v ∧ w.base ≤ m ∧ m < w.base + 8)) = true
     (v = f.volume → named = f.segment → check1 e .beginTransfer = none →
       let start := if f.cls = 0 then f.offset else g.appendPoint
       let space := 16384 - start
       let next := n + 1
       let nextOk := n % 4096 < 4095 ∧ next < (s.volume v).count ∧ (s.zone v (n / 4096)).spanning = true ∧
         (s.segment v next).state = .blank ∧ ¬ inWindow next ∧ (f.cls = 1 → next < 8) ∧
         check5 s e v next = none ∧ check6 s e v next = none
       judgeBegin s f =
         if ¬ volumeOk then noVolume
         else if ¬ below then no 4 .outOfRange
         else if f.count < 1 ∨ 16384 < f.count ∨ 63 < f.cls ∨ (f.cls = 0 ∧ 16383 < f.offset) then no 4 .outOfRange
         else if labelled then no 5 .labelDenied
         else if readOnly then no 5 .readOnly
         else if inhibited then no 5 .inhibitDenied
         else if ¬ keyOk then no 6 .keyDenied
         else if g.state = .closed ∨ g.state = .expired ∨ g.state = .erasing then no 7 .stateDenied
         else if g.state = .opened ∧ g.cls ≠ some f.cls then no 7 .classMismatch
         else if s.classEntry f.cls = none then no 7 .classUndefined
         else if (inWindow n ∧ f.cls ≠ 0) ∨ (¬ inWindow n ∧ f.cls = 0) ∨ (n < 8 ∧ f.cls ≠ 1) ∨ (8 ≤ n ∧ f.cls = 1) then
           no 7 .classMismatch
         else if g.state = .opened ∧ g.writer ≠ none then no 7 .segmentBusy
         else if f.cls ≠ 0 ∧ s.clock.state = .unset then no 7 .clockUnset
         else if space < f.count ∧ (f.cls = 0 ∨ f.spanFlag = false) then no 8 .countLong
         else if space < f.count ∧ (space = 0 ∨ ¬ nextOk) then no 8 .spanBlocked
         else if tagTaken then no 9 .tagInUse
         else if s.freeContext = none then no 9 .busy
         else none) ∧
     (v = f.volume → named = f.segment → check1 e .readTransfer = none →
       judgeRead s f =
         if ¬ volumeOk then noVolume
         else if ¬ below then no 4 .outOfRange
         else if 16383 < f.offset ∨ f.count < 1 ∨ 64 < f.count then no 4 .outOfRange
         else if 8 ≤ n ∧ (g.cls.bind s.classEntry).map ClassEntry.readProtection = some true ∧ ¬ keyOk then
           no 6 .keyDenied
         else if g.state = .blank ∨ g.state = .erasing then no 7 .stateDenied
         else if tagTaken then no 9 .tagInUse
         else if s.freeContext = none then no 9 .busy
         else none) ∧
     (v = f.volume → named = f.segment → check1 e .eraseSegment = none →
       judgeErase s f =
         if ¬ volumeOk then noVolume
         else if ¬ below then no 4 .outOfRange
         else if labelled then no 5 .labelDenied
         else if readOnly then no 5 .readOnly
         else if inhibited then no 5 .inhibitDenied
         else if ¬ keyOk then no 6 .keyDenied
         else if g.state = .closed then no 7 .notExpired
         else if g.state ≠ .expired then no 7 .stateDenied
         else if s.clock.state = .unset then no 7 .clockUnset
         else if s.clock.value / 86400 < g.expiry.getD 0 then no 7 .notExpired
         else if s.covered v n = true then no 7 .held
         else if tagTaken then no 9 .tagInUse
         else none) ∧
     (check1 e (.control f.code) = none →
       judgeWriteControl s f v named =
         if ¬ volumeOk then noVolume
         else if ¬ below then no 4 .outOfRange
         else if labelled then no 5 .labelDenied
         else if readOnly then no 5 .readOnly
         else if inhibited then no 5 .inhibitDenied
         else if ¬ keyOk then no 6 .keyDenied
         else if tagTaken then no 9 .tagInUse
         else none)) ∧
  (∀ (s : State) (i tag : Nat),
     (s.tagLive i tag = true ↔
       (∃ c r, s.context c = .read r ∧ r.initiator = i ∧ r.tag = tag) ∨
       (∃ c w, s.context c = .write w ∧ w.initiator = i ∧ w.tag = tag ∧
         (w.removed = false ∨ w.state = .faulted ∨ w.state = .reissuing)) ∨
       (∃ e ∈ s.eraseQueue, e.requester = some (i, tag)) ∨
       (∃ r x, s.record r = some x ∧ x.resumer = some (i, tag)) ∨
       (∃ x, s.collection = some x ∧ x.initiator = i ∧ x.tag = tag)) ∧
     (∀ c, s.freeContext = some c ↔ c < 32 ∧ s.context c = .free ∧ ∀ d, d < c → s.context d ≠ .free)) ∧
  (∀ (s : State) (f : Frame) (rest : List RxFrame) (c : Instr), s.awaits f rest → s.ingestLink = .ready →
     f.kind = 6 → f.requestRow = some c → f.code < 8 ∨ 10 < f.code → s.tagLive f.initiator f.tag = true →
     let e := s.initiator f.initiator
     (e.state = .enabled ∧ e.officer = true) ∨ (f.code = 1 ∧ e.state ≠ .absent) →
     s.refusedBy f rest c
       { code := .tagInUse, check := 9
         segment :=
           if f.code = 1 ∧ f.param 0 = 0 then some (e.relocate (f.param 1) (f.param 2))
           else if f.code = 18 then some (e.relocate (f.param 0) (f.param 1))
           else none })

/-- Check 1 judges the sender's entry: an Absent one refuses every request UNKNOWN_INITIATOR, a Suspended one every
request but READ RECORD SUSPENDED; an ERASE without disposer is refused NOT_DISPOSER, and a control request other than
READ RECORD without officer NOT_OFFICER. The refusal carries check 1 and the segment as named, and changes nothing.
BEGIN and READ need no attribute, and READ RECORD passes from an entry that is Enabled or Suspended (R58, R73; an
initiator above 31 reads as Absent, log 14; PLACE HOLD, LOAD SCAN and the others without a single segment carry none,
log 16). -/
def Obligations.CheckOneJudges : Prop :=
  (∀ (s : State) (f : Frame) (rest : List RxFrame) (c : Instr), s.awaits f rest → s.ingestLink = .ready →
     f.requestRow = some c →
     let e := s.initiator f.initiator
     let refused := fun code => s.refusedBy f rest c { code := code, check := 1, segment := f.namedSegment }
     (e.state = .absent → refused .unknownInitiator) ∧
     (e.state = .suspended → ¬ (f.kind = 6 ∧ f.code = 1) → refused .suspended) ∧
     (e.state = .enabled → f.kind = 5 → e.disposer = false → refused .notDisposer) ∧
     (e.state = .enabled → f.kind = 6 → f.code ≠ 1 → e.officer = false → refused .notOfficer)) ∧
  (∀ e : InitiatorEntry,
     (e.state = .enabled → check1 e .beginTransfer = none ∧ check1 e .readTransfer = none) ∧
     (e.state = .enabled → e.disposer = true → check1 e .eraseSegment = none) ∧
     (e.state = .enabled → e.officer = true → ∀ request, check1 e (.control request) = none) ∧
     (e.state ≠ .absent → check1 e (.control 1) = none))

/-- An admitted BEGIN opens a write context in Streaming with credit 3, opens its Blank segment or takes the writer of
its Open one, reserves the next segment when it spans, and is answered with the start reply (R9, R10, R79; both activity
flags of a segment that opens are no, whatever a late delivery left there, log 55). -/
def Obligations.BeginOpensTransfer : Prop :=
  ∀ (s : State) (f : Frame) (rest : List RxFrame) (c : Nat), s.awaits f rest → f.kind = 1 → s.ingestLink = .ready →
    s.canonical → judgeBegin s f = none → s.freeContext = some c →
    let e := s.initiator f.initiator
    let n := e.relocate f.volume f.segment
    let g := s.segment f.volume n
    let start := if f.cls = 0 then f.offset else g.appendPoint
    let spanned := decide (16384 - start < f.count)
    ∃ t w, exec .beginFrame s = .next t ∧ t.context c = .write w ∧
      (w.state = .streaming ∧ w.initiator = f.initiator ∧ w.tag = f.tag ∧ w.volume = f.volume ∧ w.current = n ∧
        w.next = (if spanned then some (n + 1) else none) ∧ w.received = 0 ∧ w.remaining = f.count ∧
        w.forwardSegment = n ∧ w.forwardOffset = start ∧ w.confirmedOffset = start ∧ w.pending = [] ∧ w.credit = 3 ∧
        w.closeFlag = none ∧ w.outcome = 0#18 ∧ w.idle = some s.idleTime) ∧
      (∀ d, d ≠ c → t.context d = s.context d) ∧
      t.segment f.volume n =
        (if g.state = .blank then
          { Segment.fresh with
            state := .opened, cls := some f.cls, key := some e.key, generation := g.generation,
            holdCount := s.holdCountAt f.volume n f.cls, writer := some c }
         else { g with writer := some c }) ∧
      (spanned = true →
        t.segment f.volume (n + 1) =
          { Segment.fresh with
            state := .opened, cls := some f.cls, key := (t.segment f.volume n).key,
            generation := (s.segment f.volume (n + 1)).generation,
            holdCount := s.holdCountAt f.volume (n + 1) f.cls, continuedFrom := some n, writer := some c }) ∧
      (∀ m, m ≠ n → (spanned = true → m ≠ n + 1) → t.segment f.volume m = s.segment f.volume m) ∧
      (∀ v m, v ≠ f.volume → t.segment v m = s.segment v m) ∧
      t = { s with
        rxQueue := rest, contexts := t.contexts, volumes := t.volumes
        txQueue :=
          s.txQueue ++
            [{ replyFrame f.initiator f.tag f.volume .done with
                flags := 4, segment := n, offset := start, count := 3
              }.withPayload
                (wordsBytes (if spanned then [n + 1, 16384 - start] else [4294967295, 4294967295]))] }

/-- An accepted DATA frame makes one pending write, or two when it crosses the end of its segment; they join the tail of
the list and ask for MWRITEs, credit falls by their number, and the segments that receive a block are marked written
(R82, R84, R85, R111). A DATA frame in Draining is discarded with COUNT_LONG, one in Faulted or Reissuing with OVERRUN,
and one in Aborting without a condition (R93). One whose pair names no live write context is discarded (R80; a removed
initiator's Aborting context holds no tag, log 24); the context a pair names is the lowest-numbered that holds it. The
forward point advances by the blocks of the frame, and in a spanning transfer is carried into the next segment when it
reaches offset 16,384 of the first (R82, R85). -/
def Obligations.DataAccepted : Prop :=
  (∀ (s : State) (f : Frame) (rest : List RxFrame) (c : Nat) (w : WriteContext), s.awaits f rest → f.kind = 2 →
    s.writeOf f.initiator f.tag = some (c, w) → w.state = .streaming → s.canonical →
    s.segmentExists w.volume w.forwardSegment = true → (∀ m, w.next = some m → s.segmentExists w.volume m = true) →
    0 < w.credit → f.count ≤ w.remaining →
    let crosses := w.forwardSegment = w.startSegment ∧ w.next.isSome = true ∧ 16384 < w.forwardOffset + f.count
    let first := 16384 - w.forwardOffset
    let reached := w.forwardOffset + f.count
    let carried := w.forwardSegment = w.startSegment ∧ 16384 ≤ reached
    (crosses → 2 ≤ w.credit) →
    ∃ (t : State) (es : List PendingWrite), exec .dataFrame s = .next t ∧
      (¬ crosses →
        es =
          [{ segment := w.forwardSegment, offset := w.forwardOffset, count := f.count, mediaTag := none,
             confirmed := false, data := f.payload }]) ∧
      (∀ m, crosses → w.next = some m →
        es =
          [{ segment := w.forwardSegment, offset := w.forwardOffset, count := first, mediaTag := none,
             confirmed := false, data := f.payload.take (first * 4096) },
           { segment := m, offset := 0, count := f.count - first, mediaTag := none, confirmed := false,
             data := f.payload.drop (first * 4096) }]) ∧
      t.context c =
        .write
          { w with
            pending := w.pending ++ es
            forwardSegment := if carried then w.next.getD w.forwardSegment else w.forwardSegment
            forwardOffset := if carried ∧ w.next ≠ none then reached - 16384 else reached
            received := w.received + f.count
            remaining := w.remaining - f.count
            credit := w.credit - es.length
            idle := if w.credit = es.length then none else some s.idleTime } ∧
      (∀ d, d ≠ c → t.context d = s.context d) ∧
      t.arbiter =
        { s.arbiter with
          write :=
            s.arbiter.write ++
              es.map (fun e =>
                { command :=
                    { kind := .mwrite, volume := w.volume, segment := e.segment, offset := e.offset,
                      count := e.count }
                  owner := .write c }) } ∧
      (∀ e ∈ es,
        t.segment w.volume e.segment = { s.segment w.volume e.segment with writtenSince := true }) ∧
      (∀ v m, (v = w.volume → ∀ e ∈ es, e.segment ≠ m) → t.segment v m = s.segment v m) ∧
      t = { s with rxQueue := rest, contexts := t.contexts, arbiter := t.arbiter, volumes := t.volumes }) ∧
  (∀ (s : State) (f : Frame) (rest : List RxFrame) (c : Nat) (w : WriteContext), s.awaits f rest → f.kind = 2 →
    s.writeOf f.initiator f.tag = some (c, w) →
    let noted := fun (cond : Cond) =>
      ∃ (t : State) (notices : List Frame), exec .dataFrame s = .next t ∧
        t.context c = .write { w with outcome := w.outcome ||| cond.bit } ∧
        (∀ d, d ≠ c → t.context d = s.context d) ∧ s.raisesOne t cond s.conditions.last notices ∧
        t = { s with
          rxQueue := rest, contexts := t.contexts, conditions := t.conditions, txQueue := s.txQueue ++ notices }
    (w.state = .draining → noted .countLong) ∧
    (w.state = .faulted ∨ w.state = .reissuing → noted .overrun) ∧
    (w.state = .aborting → exec .dataFrame s = .next (s.taken rest))) ∧
  (∀ (s : State) (f : Frame) (rest : List RxFrame), s.awaits f rest → f.kind = 2 →
    (∀ k w, s.context k = .write w → w.initiator = f.initiator → w.tag = f.tag →
      w.removed = true ∧ w.state ≠ .faulted ∧ w.state ≠ .reissuing) →
    exec .dataFrame s = .next (s.taken rest)) ∧
  (∀ (s : State) (i tag c : Nat) (w : WriteContext), s.writeOf i tag = some (c, w) →
    s.context c = .write w ∧ w.initiator = i ∧ w.tag = tag ∧
      (w.removed = false ∨ w.state = .faulted ∨ w.state = .reissuing) ∧
      ∀ k x, k < c → s.context k = .write x → x.initiator = i → x.tag = tag →
        x.removed = true ∧ x.state ≠ .faulted ∧ x.state ≠ .reissuing)

/-- A DATA frame without credit, beyond the declared length, or crossing with one credit, and an idle timer that has run
out, are fatal: OVERRUN, COUNT_LONG, OVERRUN and TRANSFER_IDLE, in that order of the checks (R81, R94 to R96; a timer
has run out at no remaining time, log 9). The Map is as it was while the context has pending writes; when it has none
the writers that name it are cleared, and every other descriptor is as it was (R12, R95). An Aborting context is freed
with its last answer, by a Terminated reply that carries the code of its first fatal condition, and no reply without one
(R86, R95; the segment the reply names, log 54; a notice follows the reply, log 18), whatever that answer's run fills
(R14, R88; log 27; the frame check state after the response, log 12). -/
def Obligations.FatalCauseAborts : Prop :=
  (∀ (s : State) (c : Nat) (w : WriteContext), s.context c = .write w → w.state = .streaming → w.fatal = none →
    s.hears w → s.settled → s.canonical →
    (∀ (f : Frame) (rest : List RxFrame), s.awaits f rest → f.kind = 2 →
      s.writeOf f.initiator f.tag = some (c, w) →
      let crosses := w.forwardSegment = w.startSegment ∧ w.next.isSome = true ∧ 16384 < w.forwardOffset + f.count
      (w.credit = 0 → ∃ t, exec .dataFrame s = .next t ∧ t.rxQueue = rest ∧ s.abortedBy t c w .overrun .overrun) ∧
      (0 < w.credit → w.remaining < f.count →
        ∃ t, exec .dataFrame s = .next t ∧ t.rxQueue = rest ∧ s.abortedBy t c w .countLong .countLong) ∧
      (w.credit = 1 → f.count ≤ w.remaining → crosses →
        ∃ t, exec .dataFrame s = .next t ∧ t.rxQueue = rest ∧ s.abortedBy t c w .overrun .overrun)) ∧
    (s.takesEvents = true → w.idle = some 0 → s.txQueue.length < 2048 →
      ∃ t, exec (.transferIdle c) s = .next t ∧ t.rxQueue = s.rxQueue ∧
        s.abortedBy t c w .transferIdle .transferIdle)) ∧
  (∀ (s : State) (bytes : List Byte) (f : Frame) (c : Nat) (w : WriteContext) (run : List PendingWrite),
    s.writeAnswered bytes f c w run [] → w.state = .aborting →
    ∃ (t u : State) (x : WriteContext) (notices : List Frame), exec (.mstatus bytes) s = .next t ∧
      s.foldsTo u w x run ∧
      let ended := w.folded x f run []
      t.context c = .free ∧ (∀ d, d ≠ c → t.context d = s.context d) ∧ u.clears t c ended ∧
      t.conditions.accrued = s.conditions.accrued ||| softSet f ∧
      s.reports t { initiator := some w.initiator, tag := some w.tag, kind := .beginTransfer } ended.outcome ∧
      notices.length ≤ 1 ∧
      t.txQueue = s.txQueue ++ (w.fatal.map (terminationFrame ended)).toList ++ notices ∧
      t = { u with
        mediaCheck := checkAfter bytes, slots := s.slots.setIfInBounds f.tag .free, volumes := t.volumes
        contexts := t.contexts, conditions := t.conditions, txQueue := t.txQueue })

/-- An END in Streaming with pending writes sends the context to Draining with its close flag, and with COUNT_SHORT when
blocks are still declared (R91). An END in Streaming with nothing pending completes the transfer at once, with
COUNT_SHORT raised too when blocks are still declared: its context is Free, its segment closes when the close flag asks
it to and it is still Open under this transfer (log 45), and the final reply says DONE or SHORT with the blocks
confirmed (R15, R91, R92). A Draining transfer completes so with its last answer, whatever that answer's run fills (R14,
R86, R88, R92; the closed flag, log 42; a fault pending flag that goes with the confirmed point, log 27; a notice
follows the reply, log 18; the frame check state after the response, log 12). An END outside Streaming is discarded, and
so is one whose pair names no live write context (R80, R93; a removed initiator's Aborting context holds no tag, log
24). -/
def Obligations.EndFinishesTransfer : Prop :=
  (∀ (s : State) (f : Frame) (rest : List RxFrame) (c : Nat) (w : WriteContext), s.awaits f rest → f.kind = 3 →
     s.writeOf f.initiator f.tag = some (c, w) → w.state = .streaming → w.pending ≠ [] →
     let missing : CondSet := if w.remaining = 0 then 0#18 else Cond.countShort.bit
     ∃ (t : State) (notices : List Frame), exec .endFrame s = .next t ∧
       t.context c =
         .write
           { w with
             state := .draining, closeFlag := some f.closeFlag, idle := none, outcome := w.outcome ||| missing } ∧
       (∀ d, d ≠ c → t.context d = s.context d) ∧
       (w.remaining = 0 → t.conditions = s.conditions ∧ notices = []) ∧
       (w.remaining ≠ 0 → s.raisesOne t .countShort s.conditions.last notices) ∧
       t = { s with
         rxQueue := rest, contexts := t.contexts, conditions := t.conditions, txQueue := s.txQueue ++ notices }) ∧
  (∀ (s : State) (f : Frame) (rest : List RxFrame) (c : Nat) (w : WriteContext), s.awaits f rest → f.kind = 3 →
     s.writeOf f.initiator f.tag = some (c, w) → w.state = .streaming → w.pending = [] → s.hears w → s.canonical →
     s.stands w →
     let missing : CondSet := if w.remaining = 0 then 0#18 else Cond.countShort.bit
     let done : WriteContext := { w with closeFlag := some f.closeFlag, outcome := w.outcome ||| missing }
     ∃ (t : State) (notices : List Frame), exec .endFrame s = .next t ∧ s.finishes t c done ∧
       t.conditions.accrued = s.conditions.accrued ||| missing ∧
       s.reports t { initiator := some w.initiator, tag := some w.tag, kind := .beginTransfer } done.outcome ∧
       notices.length ≤ 1 ∧
       t.txQueue =
         s.txQueue ++ [completionFrame done (decide ((t.segment w.volume w.lastBlock).state = .closed))] ++ notices ∧
       t = { s with
         rxQueue := rest, txQueue := t.txQueue, contexts := t.contexts, volumes := t.volumes, clock := t.clock,
         conditions := t.conditions }) ∧
  (∀ (s : State) (bytes : List Byte) (f : Frame) (c : Nat) (w : WriteContext) (run : List PendingWrite),
    s.writeAnswered bytes f c w run [] → w.state = .draining →
    ∃ (t u : State) (x : WriteContext) (notices : List Frame), exec (.mstatus bytes) s = .next t ∧
      s.foldsTo u w x run ∧
      let done := w.folded x f run []
      u.finishes t c done ∧ t.conditions.accrued = s.conditions.accrued ||| softSet f ∧
      s.reports t { initiator := some w.initiator, tag := some w.tag, kind := .beginTransfer } done.outcome ∧
      notices.length ≤ 1 ∧
      t.txQueue =
        s.txQueue ++ [completionFrame done (decide ((t.segment w.volume done.lastBlock).state = .closed))] ++
          notices ∧
      t = { u with
        mediaCheck := checkAfter bytes, slots := s.slots.setIfInBounds f.tag .free, volumes := t.volumes
        contexts := t.contexts, clock := t.clock, conditions := t.conditions, txQueue := t.txQueue }) ∧
  (∀ (s : State) (f : Frame) (rest : List RxFrame), s.awaits f rest → f.kind = 3 →
    (∀ c w, s.writeOf f.initiator f.tag = some (c, w) → w.state ≠ .streaming →
      exec .endFrame s = .next (s.taken rest)) ∧
    ((∀ k w, s.context k = .write w → w.initiator = f.initiator → w.tag = f.tag →
        w.removed = true ∧ w.state ≠ .faulted ∧ w.state ≠ .reissuing) →
      exec .endFrame s = .next (s.taken rest)))

/-- An admitted READ serves its range up to the append point: its pieces wait as media reads, asked for in order; an
empty range is answered at once with no block, its first offset the READ's own (R101 to R103; that offset is the model's
choice, log 46). The pieces of a range are consecutive, of 1 to 8 blocks each, and together are the whole range when it
has room in the list (R103, R166). -/
def Obligations.ReadOpensTransfer : Prop :=
  (∀ (s : State) (f : Frame) (rest : List RxFrame) (c : Nat), s.awaits f rest → f.kind = 4 → s.ingestLink = .ready →
     judgeRead s f = none → s.freeContext = some c →
     let n := (s.initiator f.initiator).relocate f.volume f.segment
     let served := min f.count ((s.segment f.volume n).appendPoint - f.offset)
     let list := (pieces 8 f.offset (f.offset + served)).map waitingEntry
     (0 < served →
       ∃ t, exec .readFrame s = .next t ∧
         t.context c =
           .read
             { initiator := f.initiator, tag := f.tag, volume := f.volume, segment := n, requested := f.count,
               firstOffset := f.offset, served := served, list := list, delivered := 0, ending := none,
               outcome := 0#18 } ∧
         (∀ d, d ≠ c → t.context d = s.context d) ∧
         t.arbiter =
           { s.arbiter with
             read :=
               s.arbiter.read ++
                 list.map (fun e =>
                   { command :=
                       { kind := .mread, volume := f.volume, segment := n, offset := e.offset, count := e.count }
                     owner := .read c }) } ∧
         t = { s with rxQueue := rest, contexts := t.contexts, arbiter := t.arbiter }) ∧
     (served = 0 →
       ∃ t, exec .readFrame s = .next t ∧ (∀ d, t.context d = s.context d) ∧
         t = { s with
           rxQueue := rest, contexts := t.contexts, arbiter := t.arbiter
           txQueue :=
             s.txQueue ++
               [{ replyFrame f.initiator f.tag f.volume .short with
                   segment := n, offset := f.offset, count := 0 }.withPayload (wordsBytes [0])] } ∧
         t.arbiter = s.arbiter)) ∧
  (∀ (n start stop : Nat), start ≤ stop → stop - start ≤ 8 * n →
     ((pieces n start stop).map Prod.snd).sum = stop - start ∧
     (∀ p ∈ pieces n start stop, 1 ≤ p.2 ∧ p.2 ≤ 8 ∧ start ≤ p.1 ∧ p.1 + p.2 ≤ stop) ∧
     (pieces n start stop).length ≤ n ∧
     (pieces n start stop).Pairwise (fun a b => a.1 + a.2 ≤ b.1))

/-- An admitted ERASE moves its segment from Expired to Erasing and places one waiting entry with its requester at the
tail of the erase queue, which asks for a slot; every other segment is as it was (R20, R131, R132). A read of the
segment loses its waiting entries, withdrawn from the Arbiter, and stops short; its sent and arrived entries stay, a
read with no waiting entry goes on as it was, and one with no entry left ends with its final reply (R20, R105, R107).
The Active scan's read of the segment ends: its waiting entries are withdrawn, those that are sent answer without an
owner, skipped rises by one and the cursor advances (R20, R169; with a cancel requested the scan stops instead, log 31;
past the last segment of the last entry it is Done, its cursor one beyond that segment, log 32). Write contexts and the
reads of other segments are kept (the reads end before the scan, log 48; a notice follows the replies, log 18). -/
def Obligations.EraseStarts : Prop :=
  ∀ (s : State) (f : Frame) (rest : List RxFrame), s.awaits f rest → f.kind = 5 → s.canonical →
    judgeErase s f = none →
    let n := (s.initiator f.initiator).relocate f.volume f.segment
    let entry : EraseEntry :=
      { volume := f.volume, segment := n, requester := some (f.initiator, f.tag), mediaTag := none,
        progress := .waiting }
    let reader := fun (c : Nat) (r : ReadContext) => s.context c = .read r ∧ r.volume = f.volume ∧ r.segment = n
    let scanned := fun (x : Scan) (cur : ScanCursor) =>
      s.scanActive = some x ∧ x.phase = .running ∧ x.segmentRead ≠ none ∧ x.cursor = some cur ∧ 1 ≤ cur.entry ∧
        cur.segment = n ∧ ∃ range, x.ranges[cur.entry - 1]? = some range ∧ range.volume = f.volume
    (s.segment f.volume n).state = .expired ∧
    ∃ t more, exec .eraseFrame s = .next t ∧ t.segment f.volume n = { s.segment f.volume n with state := .erasing } ∧
      (∀ v m, ¬ (v = f.volume ∧ m = n) → t.segment v m = s.segment v m) ∧ t.eraseQueue = s.eraseQueue ++ [entry] ∧
      t.arbiter.erase =
        s.arbiter.erase ++
          [{ command := { kind := .merase, volume := f.volume, segment := n, offset := 0, count := 0 },
             owner := .erase }] ∧
      (∀ c, (∀ r, ¬ reader c r) → t.context c = s.context c) ∧
      (∀ (c : Nat) (r : ReadContext), reader c r →
        let kept := r.list.filter (fun e => decide (e.progress ≠ .waiting))
        ((∀ e ∈ r.list, e.progress ≠ .waiting) → t.context c = .read r) ∧
        ((∃ e ∈ r.list, e.progress = .waiting) →
          (kept ≠ [] → t.context c = .read { r with list := kept, ending := some (r.ending.getD .short) }) ∧
          (kept = [] →
            t.context c = .free ∧
            (s.ingestLink = .ready → (s.initiator r.initiator).state ≠ .absent →
              { replyFrame r.initiator r.tag r.volume
                    (if r.ending = some ReadEnding.faulted then Status.faulted else Status.short) with
                  segment := n, offset := r.firstOffset, count := r.delivered
                }.withPayload (wordsBytes [r.outcome.toNat]) ∈ more)))) ∧
      (∀ q, q ∈ t.arbiter.read ↔
        q ∈ s.arbiter.read ∧ ¬ ∃ c r, q.owner = .read c ∧ reader c r ∧ ∃ e ∈ r.list, e.progress = .waiting) ∧
      (∀ x cur, scanned x cur →
        (∀ q, q ∈ t.arbiter.verify ↔ q ∈ s.arbiter.verify ∧ q.owner ≠ .scan) ∧
        (∀ e ∈ x.list, ∀ k command cls owner timer, e.mediaTag = some k →
          s.slot k = .busy command cls owner timer → t.slot k = .busy command cls none timer) ∧
        (∀ k, (∀ e ∈ x.list, e.mediaTag ≠ some k) → t.slot k = s.slot k) ∧
        let ended : Scan := { x with segmentRead := none, list := [] }
        let stopped := fun (y : Scan) =>
          t.scanActive = some { y with cancelRequested := false } ∧
            (x.outcome ≠ 0#18 →
              t.conditions.last =
                some
                  { op := { initiator := none, tag := none, kind := .scan }, outcome := x.outcome, time := s.now })
        (x.cancelRequested = true → stopped { ended with phase := .stopped .cancel }) ∧
        (x.cancelRequested = false →
          (∀ next, x.after cur = some next →
            t.scanActive = some { ended with skipped := x.skipped + 1, cursor := some next }) ∧
          (x.after cur = none →
            stopped
              { ended with
                skipped := x.skipped + 1, phase := .done, cursor := some { cur with segment := cur.segment + 1 } }))) ∧
      ((∀ x cur, ¬ scanned x cur) →
        t.scanActive = s.scanActive ∧ t.slots = s.slots ∧ t.arbiter.verify = s.arbiter.verify ∧
        ((∀ c r, reader c r → r.outcome = 0#18) → t.conditions = s.conditions)) ∧
      t.conditions =
        { s.conditions with last := t.conditions.last, noticeNumber := t.conditions.noticeNumber } ∧
      (∀ y ∈ more, y.kind = 7 ∨ y.kind = 10) ∧
      t = { s with
        rxQueue := rest, txQueue := s.txQueue ++ more, volumes := t.volumes, contexts := t.contexts
        eraseQueue := t.eraseQueue, slots := t.slots, scanActive := t.scanActive, conditions := t.conditions
        arbiter :=
          { s.arbiter with read := t.arbiter.read, erase := t.arbiter.erase, verify := t.arbiter.verify } }

/-! ### Control requests on records and tables -/

/-- READ RECORD answers any initiator that is not Absent with the words of the record as it stands, or refuses it, and
changes nothing (R58, R194; the header of the reply, log 17). What the ten kinds of READ RECORD return: the kinds above
9 are refused FORMAT, identifiers out of range and segments and zones that do not exist OUT_OF_RANGE, and each record is
returned as its fields in the order of its rule; an Absent, Undefined, Free or Empty one as its state alone (R3, R4, R7,
R29, R39, R50, R114, R147, R159; an absent field is the absent word, and a list stands at its place without a count, log
34; the real number of a segment is returned in the segment field of the header, log 50). -/
def Obligations.ReadRecordReturns : Prop :=
  (∀ (s : State) (f : Frame) (rest : List RxFrame), s.awaits f rest → f.kind = 6 → f.code = 1 → s.ingestLink = .ready →
     (s.initiator f.initiator).state ≠ .absent → s.tagLive f.initiator f.tag = false →
     let real := (s.initiator f.initiator).relocate (f.param 1) (f.param 2)
     let second := if f.param 0 = 0 then real else f.param 2
     (∀ words, readRecordWords s (f.param 0) (f.param 1) second = .ok words →
       exec .readRecord s =
         .next
           (s.answered rest { f.reply .done words with segment := if f.param 0 = 0 then real else 0 })) ∧
     (∀ code, readRecordWords s (f.param 0) (f.param 1) second = .error code →
       exec .readRecord s =
         .next (s.answered rest (f.refusal code (if f.param 0 = 0 then some real else none))))) ∧
  (∀ (s : State) (f : Frame) (rest : List RxFrame), s.awaits f rest → f.kind = 6 → f.code = 1 → s.ingestLink = .ready →
     (s.initiator f.initiator).state ≠ .absent → s.tagLive f.initiator f.tag = false →
     let kind := f.param 0
     let a := f.param 1
     let real := (s.initiator f.initiator).relocate a (f.param 2)
     let returns := fun (words : List Nat) => exec .readRecord s = .next (s.answered rest (f.reply .done words))
     let refused := fun (code : Code) (n : Option Nat) => exec .readRecord s = .next (s.answered rest (f.refusal code n))
     let none32 := 4294967295
     let timeOf := fun (t : Option Nat) => (match t with
       | some x => [x / 86400, x % 86400]
       | none => [none32, none32] : List Nat)
     (9 < kind → refused .format none) ∧
     (kind = 0 → ¬ (1 ≤ a ∧ a ≤ 4 ∧ s.segmentExists a real = true) → refused .outOfRange (some real)) ∧
     (kind = 0 → 1 ≤ a → a ≤ 4 → s.segmentExists a real = true →
       let g := s.segment a real
       let words :=
         [g.state.number, optionWord g.cls, optionWord g.key, g.generation, g.appendPoint, g.foldA, g.foldB] ++
           timeOf g.closeTime ++
           [optionWord g.expiry, optionWord g.triggerDay, g.holdCount, flagWord g.readSince, flagWord g.writtenSince,
            flagWord g.suspect, flagWord g.truncated, flagWord g.faultPending, optionWord g.continuedFrom,
            optionWord g.writer]
       exec .readRecord s = .next (s.answered rest { f.reply .done words with segment := real })) ∧
     (kind = 1 ∨ kind = 2 ∨ kind = 6 → ¬ (1 ≤ a ∧ a ≤ 4) → refused .outOfRange none) ∧
     (kind = 1 → 1 ≤ a → a ≤ 4 →
       let x := s.volume a
       (x.state = .absent → returns (0 :: List.replicate 8 none32)) ∧
       (x.state ≠ .absent →
         returns
           [x.state.number, x.count, flagWord x.writeInhibit, flagWord x.commonKey, x.counts.blank, x.counts.opened,
            x.counts.closed, x.counts.expired, x.counts.erasing])) ∧
     (kind = 2 → 1 ≤ a → a ≤ 4 →
       let z := f.param 2
       ((s.volume a).state = .absent ∨ ceilDiv (s.volume a).count 4096 ≤ z → refused .outOfRange none) ∧
       ((s.volume a).state ≠ .absent → z < ceilDiv (s.volume a).count 4096 →
         returns [flagWord (s.zone a z).writeInhibit, flagWord (s.zone a z).spanning])) ∧
     (kind = 3 → 63 < a → refused .outOfRange none) ∧
     (kind = 3 → a ≤ 63 →
       (s.classEntry a = none → returns (0 :: List.replicate 7 none32)) ∧
       (∀ e, s.classEntry a = some e →
         returns
           ([1, e.base.months, e.base.days] ++
             (match e.post with
              | some p => [p.months, p.days]
              | none => [none32, none32]) ++
             [flagWord e.permanent, flagWord e.triggered, flagWord e.readProtection]))) ∧
     (kind = 4 → 31 < a → refused .outOfRange none) ∧
     (kind = 4 → a ≤ 31 →
       let e := s.initiator a
       (e.state = .absent → returns (0 :: List.replicate 7 none32)) ∧
       (e.state ≠ .absent →
         returns
           ([e.state.number, e.key, flagWord e.officer, flagWord e.disposer, flagWord e.readOnly, e.volumes.toNat] ++
             (match e.window with
              | some w => [w.volume, w.base]
              | none => [none32, none32])))) ∧
     (kind = 5 → a < 1 ∨ 64 < a → refused .outOfRange none) ∧
     (kind = 5 → 1 ≤ a → a ≤ 64 →
       (s.hold a = none → a ∉ s.walkQueue → returns (0 :: List.replicate 9 none32 ++ [0])) ∧
       (∀ (h : Hold) (position : Nat), s.hold a = some h →
         (position = 0 ∧ a ∉ s.walkQueue) ∨
           (∃ before after, s.walkQueue = before ++ a :: after ∧ a ∉ before ∧ position = before.length + 1) →
         let walk : List Nat := match h.phase with
           | .placing front => [front, none32]
           | .active => [none32, none32]
           | .releasing front raisedTo => [front, raisedTo]
         returns
           ([h.phase.number, h.reference, h.volume, h.first, h.last, optionWord h.filter, h.placed / 86400,
             h.placed % 86400] ++ walk ++ [position]))) ∧
     (kind = 6 → 1 ≤ a → a ≤ 4 →
       (s.record a = none → returns (0 :: List.replicate 14 none32)) ∧
       (∀ x, s.record a = some x →
         returns
           ([x.state.number, flagWord x.settled, x.context, x.initiator, x.tag] ++
             (match x.place with
              | some p => [p.volume, p.segment, p.offset]
              | none => [none32, none32, none32]) ++
             [x.kind.number] ++
             x.writes.flatMap (fun e => [e.segment, e.offset, e.count, flagWord e.needsReissue]) ++
             [x.continuation.number, x.reissues, x.created / 86400, x.created % 86400] ++
             (match x.resumer with
              | some p => [p.1, p.2]
              | none => [none32, none32])))) ∧
     (kind = 7 → 1 < a → refused .outOfRange none) ∧
     (kind = 7 → a ≤ 1 →
       let scan := if a = 0 then s.scanActive else s.scanQueued
       (scan = none → returns (0 :: List.replicate 10 none32)) ∧
       (∀ x, scan = some x →
         returns
           ([x.phase.number] ++ x.ranges.flatMap (fun r => [r.volume, r.first, r.count]) ++ [flagWord x.scanThrough] ++
             (match x.cursor with
              | some cur => [cur.entry, cur.segment]
              | none => [none32, none32]) ++
             [x.examined, x.mismatched, x.skipped, optionWord (x.segmentRead.map SegmentRead.readEnd),
              if x.phase = .running then flagWord x.cancelRequested else none32,
              optionWord (x.phase.cause.map StopCause.number), x.outcome.toNat]))) ∧
     (kind = 8 →
       returns
         [s.now / 86400, s.now % 86400, s.clock.state.number, flagWord s.clock.backupValid, s.clock.mark / 86400,
          s.clock.mark % 86400, s.idleTime, s.mediaTimeout]) ∧
     (kind = 9 →
       returns
         ([s.conditions.accrued.toNat, s.conditions.accrued.groups.toNat] ++
           (match s.conditions.last with
            | some o =>
              [o.op.initiator.getD 32, optionWord o.op.tag, o.op.kind.word, o.outcome.toNat, o.time / 86400,
               o.time % 86400]
            | none => List.replicate 6 none32) ++
           [s.conditions.noticeInitiator, s.conditions.enables.toNat, s.conditions.noticeNumber])))

/-- LOAD INITIATOR, row by row: first a state beyond the list or a yes/no word above 1, FORMAT (R193); then the rows of
the rule in their order: out of range, FORMAT, STATE_DENIED for a window that shares a segment with that of another
entry and where no Enabled officer would remain. For a removal the other fields are not read (the model's reading, as is
FORMAT before the ranges, log 35). An entry equal to the present one is answered UNCHANGED; another that is not Absent
is written, is the only change, and is answered DONE (R53). -/
def Obligations.LoadInitiatorWrites : Prop :=
  ∀ (s : State) (f : Frame) (rest : List RxFrame), s.officerAsks f rest 2 →
    let i := f.param 0
    let removal := f.param 1 = 0
    let none32 := 4294967295
    let v := f.param 7
    let base := f.param 8
    let given : InitiatorEntry :=
      if removal then InitiatorEntry.absent
      else
        { state := if f.param 1 = 1 then .enabled else .suspended
          key := f.param 2
          officer := decide (f.param 3 = 1)
          disposer := decide (f.param 4 = 1)
          readOnly := decide (f.param 5 = 1)
          volumes := BitVec.ofNat 4 (f.param 6)
          window := if v = none32 ∨ base = none32 then none else some { volume := v, base := base } }
    let named := f.param 1 ≤ 2 ∧ (removal ∨ (f.param 3 ≤ 1 ∧ f.param 4 ≤ 1 ∧ f.param 5 ≤ 1))
    let inRange := i ≤ 31 ∧
      (removal ∨
        (f.param 2 ≤ 15 ∧ (v = none32 ∨ (1 ≤ v ∧ v ≤ 4)) ∧ (base = none32 ∨ (8 ≤ base ∧ base ≤ 65528))))
    let formed := removal ∨
      ((v = none32 ↔ base = none32) ∧ f.param 6 ≤ 15 ∧ (v ≠ none32 → (f.param 6).testBit (v - 1) = true))
    let shared := ¬ removal ∧ v ≠ none32 ∧ base ≠ none32 ∧
      ∃ j x, j ≠ i ∧ (s.initiator j).state ≠ .absent ∧ (s.initiator j).window = some x ∧ x.volume = v ∧
        x.base < base + 8 ∧ base < x.base + 8
    let officered := (given.state = .enabled ∧ given.officer = true) ∨
      ∃ j, j ≠ i ∧ (s.initiator j).state = .enabled ∧ (s.initiator j).officer = true
    let refused := fun code : Code => exec .loadInitiator s = .next (s.answered rest (f.refusal code none))
    (¬ named → refused .format) ∧
    (named → ¬ inRange → refused .outOfRange) ∧
    (named → inRange → ¬ formed → refused .format) ∧
    (named → inRange → formed → shared → refused .stateDenied) ∧
    (named → inRange → formed → ¬ shared → ¬ officered → refused .stateDenied) ∧
    (named → inRange → formed → ¬ shared → officered →
      (given = s.initiator i → exec .loadInitiator s = .next (s.answered rest (f.reply .unchanged []))) ∧
      (given ≠ s.initiator i → ¬ removal →
        exec .loadInitiator s =
          .next { s.answered rest (f.reply .done []) with initiators := s.initiators.setIfInBounds i given }))

/-- The removal of an initiator ends its work at once: its Streaming and Draining write contexts are freed or left
Aborting, an Aborting one goes on and is not answered, a Faulted or Reissuing one is left to its record; its reads are
freed, their waiting requests withdrawn and their sent ones left to answer without an owner; its requesters and resumers
are forgotten. The writers that name a context that is freed are cleared, and every other descriptor of the Map is as it
was. No frame but a refusal of check 1 waits for it, and the request is answered DONE; an officer that removes itself
while another Enabled officer remains is removed so too and is not answered (log 40). Every other initiator's work and
every other table is kept (R12, R53, R54, R97, R108, R133, R142, R156; the waiting frames, log 26; the marks of a
context whose replies are not sent, log 23; its unfinished collection, which ends, log 25). -/
def Obligations.RemovalEndsWork : Prop :=
  ∀ (s : State) (f : Frame) (rest : List RxFrame), s.officerAsks f rest 2 → f.param 1 = 0 →
    (s.initiator (f.param 0)).state ≠ .absent →
    (f.param 0 = f.initiator →
      ∃ i, i ≠ f.initiator ∧ (s.initiator i).state = .enabled ∧ (s.initiator i).officer = true) →
    let gone := fun i : Nat => i = f.param 0
    let forgotten := fun p : Option (Nat × Nat) => p.filter (fun q => decide (q.1 ≠ f.param 0))
    ∃ t, exec .loadInitiator s = .next t ∧ t.initiator (f.param 0) = InitiatorEntry.absent ∧
      (∀ i, i ≠ f.param 0 → t.initiator i = s.initiator i) ∧
      (∀ c w, s.context c = .write w → gone w.initiator →
        (w.state = .streaming ∨ w.state = .draining → t.context c = { w with removed := true }.silenced) ∧
        (w.state = .aborting → t.context c = .write { w with silent := true, removed := true }) ∧
        (w.state = .faulted ∨ w.state = .reissuing → t.context c = .write { w with removed := true })) ∧
      (∀ c w, s.context c = .write w → ¬ gone w.initiator → t.context c = .write w) ∧
      (∀ c, s.context c = .free → t.context c = .free) ∧
      s.dropsReads t (fun r => gone r.initiator) ∧
      t.eraseQueue = s.eraseQueue.map (fun e => { e with requester := forgotten e.requester }) ∧
      (∀ r, t.record r = (s.record r).map (fun x => { x with resumer := forgotten x.resumer })) ∧
      (∀ x, s.collection = some x → t.collection = if gone x.initiator then none else some x) ∧
      (s.collection = none → t.collection = none) ∧
      t.txQueue =
        s.txQueue.filter (fun x => !decide (x.initiator = f.param 0) || isCheckOneRefusal x) ++
          (if f.param 0 = f.initiator then [] else [f.reply .done []]) ∧
      (s.canonical →
        s.clearsFreed t
          (fun w => gone w.initiator ∧ (w.state = .streaming ∨ w.state = .draining) ∧ w.pending = [])) ∧
      s.endsQuietly t gone ∧
      t = { s with
        initiators := t.initiators, rxQueue := rest, txQueue := t.txQueue, contexts := t.contexts
        volumes := t.volumes, slots := t.slots, arbiter := t.arbiter, eraseQueue := t.eraseQueue
        records := t.records, collection := t.collection, conditions := t.conditions }


/-- LOAD CLASS, row by row: first a yes/no word above 1, FORMAT (R193); class 0, STATE_DENIED; a number out of range,
OUT_OF_RANGE; a post-trigger period of an untriggered entry other than 0 months 0 days, FORMAT; an entry that lowers a
Defined one, LOWERING (R41, R42; an absent post-trigger word of an untriggered entry counts as 0, log 35). An entry
equal to the present one is answered UNCHANGED; any other is written, is the only change, and is answered DONE (R41). -/
def Obligations.LoadClassWrites : Prop :=
  ∀ (s : State) (f : Frame) (rest : List RxFrame), s.officerAsks f rest 3 →
    let k := f.param 0
    let post := fun w : Nat => if f.param 4 ≠ 1 ∧ w = 4294967295 then 0 else w
    let months := post (f.param 6)
    let days := post (f.param 7)
    let given : ClassEntry :=
      { base := { months := f.param 1, days := f.param 2 }
        post := if f.param 4 = 1 then some { months := months, days := days } else none
        permanent := decide (f.param 3 = 1)
        triggered := decide (f.param 4 = 1)
        readProtection := decide (f.param 5 = 1) }
    let named := f.param 3 ≤ 1 ∧ f.param 4 ≤ 1 ∧ f.param 5 ≤ 1
    let inRange := k ≤ 63 ∧ f.param 1 ≤ 1199 ∧ f.param 2 ≤ 4095 ∧ months ≤ 1199 ∧ days ≤ 4095
    let formed := f.param 4 = 0 → months = 0 ∧ days = 0
    let after := fun e : ClassEntry => (e.post.getD { months := 0, days := 0 }).inDays
    let lowers := ∃ old, s.classEntry k = some old ∧
      (given.base.inDays < old.base.inDays ∨ (old.triggered = true ∧ after given < after old) ∨
        (old.permanent = true ∧ given.permanent = false) ∨ (old.triggered = true ∧ given.triggered = false))
    let refused := fun code : Code => exec .loadClass s = .next (s.answered rest (f.refusal code none))
    (¬ named → refused .format) ∧
    (named → k = 0 → refused .stateDenied) ∧
    (named → k ≠ 0 → ¬ inRange → refused .outOfRange) ∧
    (named → k ≠ 0 → inRange → ¬ formed → refused .format) ∧
    (named → k ≠ 0 → inRange → formed → lowers → refused .lowering) ∧
    (named → k ≠ 0 → inRange → formed → ¬ lowers →
      (s.classEntry k = some given → exec .loadClass s = .next (s.answered rest (f.reply .unchanged []))) ∧
      (s.classEntry k ≠ some given →
        exec .loadClass s =
          .next { s.answered rest (f.reply .done []) with classes := s.classes.setIfInBounds k (some given) }))

/-- SET VOLUME, row by row: first a state beyond the list or a yes/no word above 1, FORMAT (R193); a volume outside 1 to
4 and a count outside 9 to 65,536, OUT_OF_RANGE; a removal, or a lower count, over a segment that is not Blank or a hold
that reaches there, STATE_DENIED. The removal of a volume leaves it Absent; a new count keeps every segment below it,
brings new ones into being fresh, and moves the Blank count by the difference; no other volume is touched (R4, R7, R25).
A Sweeper cursor and an unfinished collection at or beyond the new count leave the volume and stop, the collection
answered after the request (R113, R129; the cursor, log 39; the collection stopped and answered in the step of the SET
VOLUME, log 44; the order of the two replies, log 52). -/
def Obligations.SetVolumeResizes : Prop :=
  ∀ (s : State) (f : Frame) (rest : List RxFrame), s.officerAsks f rest 4 →
    let v := f.param 0
    let x := s.volume v
    let count := f.param 2
    let named := f.param 1 ≤ 2 ∧ f.param 3 ≤ 1 ∧ f.param 4 ≤ 1
    let inRange := 1 ≤ v ∧ v ≤ 4 ∧ (f.param 1 ≠ 0 → 9 ≤ count ∧ count ≤ 65536)
    let clear := fun n : Nat =>
      (∀ m, n ≤ m → m < x.count → (s.segment v m).state = .blank) ∧
        ∀ k h, s.hold k = some h → h.volume = v → h.last < n
    let refused := fun code : Code => exec .setVolume s = .next (s.answered rest (f.refusal code none))
    let written := fun (y : Volume) (t : State) => s.volumeWritten v y (f.reply .done []) rest t
    (¬ named → refused .format) ∧
    (named → ¬ inRange → refused .outOfRange) ∧
    (named → inRange → f.param 1 = 0 → x.state = .absent →
      exec .setVolume s = .next (s.answered rest (f.reply .unchanged []))) ∧
    (named → inRange → s.canonical → (∀ e ∈ x.segments, e.1 < x.count) →
      (f.param 1 = 0 → x.state ≠ .absent →
        (¬ clear 0 → refused .stateDenied) ∧
        (clear 0 → ∃ t, exec .setVolume s = .next t ∧ written Volume.absent t)) ∧
      (f.param 1 ≠ 0 →
        (count < x.count → ¬ clear count → refused .stateDenied) ∧
        ((count < x.count → clear count) →
          ∃ t y, exec .setVolume s = .next t ∧ written y t ∧ t.volume v = y ∧
            y.state = (if f.param 1 = 1 then .online else .readOnly) ∧ y.count = count ∧
            y.writeInhibit = decide (f.param 3 = 1) ∧ y.commonKey = decide (f.param 4 = 1) ∧
            (∀ n, n < count → t.segment v n = if n < x.count then s.segment v n else Segment.fresh) ∧
            y.counts = { x.counts with blank := x.counts.blank + count - x.count } ∧
            y.zones.length = ceilDiv count 4096 ∧
            (∀ z, z < ceilDiv count 4096 → t.zone v z = s.zone v z) ∧
            (∀ u, u ≠ v → t.volume u = s.volume u))))

/-- SET ZONE: a flag word above 1 is refused FORMAT; volume outside 1 to 4, Absent volume and zone beyond the volume's
zones are refused in that order and change nothing; otherwise the zone's two flags are written, nothing else, and the
reply is DONE (R26, R193). -/
def Obligations.SetZoneWrites : Prop :=
  ∀ (s : State) (f : Frame) (rest : List RxFrame), s.officerAsks f rest 5 →
    let v := f.param 0
    let zones := ceilDiv (s.volume v).count 4096
    let formed := f.param 2 ≤ 1 ∧ f.param 3 ≤ 1
    (¬ formed → exec .setZone s = .next (s.answered rest (f.refusal .format none))) ∧
    (formed → v < 1 ∨ 4 < v → exec .setZone s = .next (s.answered rest (f.refusal .outOfRange none))) ∧
    (formed → 1 ≤ v → v ≤ 4 → (s.volume v).state = .absent →
      exec .setZone s = .next (s.answered rest (f.refusal .noVolume none))) ∧
    (formed → 1 ≤ v → v ≤ 4 → (s.volume v).state ≠ .absent → zones ≤ f.param 1 →
      exec .setZone s = .next (s.answered rest (f.refusal .outOfRange none))) ∧
    (formed → 1 ≤ v → v ≤ 4 → (s.volume v).state ≠ .absent → f.param 1 < zones → (s.volume v).zones.length = zones →
      ∃ t, exec .setZone s = .next t ∧
        t.zone v (f.param 1) = { writeInhibit := decide (f.param 2 = 1), spanning := decide (f.param 3 = 1) } ∧
        (∀ z, z ≠ f.param 1 → t.zone v z = s.zone v z) ∧ (∀ u, u ≠ v → t.volume u = s.volume u) ∧
        t.volume v = { s.volume v with zones := (t.volume v).zones } ∧
        t = { s.answered rest (f.reply .done []) with volumes := t.volumes })

/-- PLACE HOLD, row by row in the order of its rule: NO_VOLUME for a volume outside 1 to 4, outside the sender's set or
Absent; OUT_OF_RANGE for a range that is empty or reaches beyond the volume and for a filter outside 1 to 63; TABLE_FULL
without a Free slot; ERASE_IN_PROGRESS for an Erasing segment of the scope. Otherwise the lowest-numbered Free slot
holds the hold as Placing from its first segment, joins the tail of the walk queue, and is answered (R116, R119; a
refusal carries no segment, the model's reading, log 16). RELEASE HOLD by the state of its slot: out of range, Free,
Releasing, Placing with nothing raised, Placing with a count raised, Active (R118, R119). -/
def Obligations.HoldsPlacedAndReleased : Prop :=
  (∀ (s : State) (f : Frame) (rest : List RxFrame), s.officerAsks f rest 6 → s.canonical →
     let v := f.param 0
     let first := f.param 1
     let last := f.param 2
     let filter : Option Nat := if f.param 3 = 4294967295 then none else some (f.param 3)
     let volumeOk := 1 ≤ v ∧ v ≤ 4 ∧ (s.initiator f.initiator).volumes.getLsbD (v - 1) = true ∧
       (s.volume v).state ≠ .absent
     let inRange := first ≤ last ∧ last < (s.volume v).count ∧ (∀ k, filter = some k → 1 ≤ k ∧ k ≤ 63)
     let slotFree := ∃ k, 1 ≤ k ∧ k ≤ 64 ∧ s.hold k = none
     let erasing := ∃ n, first ≤ n ∧ n ≤ last ∧ (s.segment v n).state = .erasing ∧
       (filter = none ∨ filter = (s.segment v n).cls)
     let refused := fun code : Code => exec .placeHold s = .next (s.answered rest (f.refusal code none))
     (¬ volumeOk → refused .noVolume) ∧
     (volumeOk → ¬ inRange → refused .outOfRange) ∧
     (volumeOk → inRange → ¬ slotFree → refused .tableFull) ∧
     (volumeOk → inRange → slotFree → erasing → refused .eraseInProgress) ∧
     (∀ h, volumeOk → inRange → ¬ erasing → 1 ≤ h → h ≤ 64 → s.hold h = none →
       (∀ k, 1 ≤ k → k < h → s.hold k ≠ none) →
       exec .placeHold s =
         .next
           { s.answered rest (f.reply .done [h]) with
             holds :=
               s.holds.setIfInBounds (h - 1)
                 (some
                   { phase := .placing first, reference := f.param 4, volume := v, first := first, last := last,
                     filter := filter, placed := s.now })
             walkQueue := s.walkQueue ++ [h] })) ∧
  (∀ (s : State) (f : Frame) (rest : List RxFrame), s.officerAsks f rest 7 →
     let k := f.param 0
     (k < 1 ∨ 64 < k → exec .releaseHold s = .next (s.answered rest (f.refusal .outOfRange none))) ∧
     (1 ≤ k → k ≤ 64 → s.hold k = none →
       exec .releaseHold s = .next (s.answered rest (f.refusal .stateDenied none))) ∧
     (∀ h : Hold, 1 ≤ k → k ≤ 64 → s.hold k = some h →
       (∀ front raisedTo, h.phase = .releasing front raisedTo →
         exec .releaseHold s = .next (s.answered rest (f.reply .unchanged [3]))) ∧
       (h.phase = .placing h.first →
         exec .releaseHold s =
           .next
             { s.answered rest (f.reply .done [0]) with
               holds := s.holds.setIfInBounds (k - 1) none
               walkQueue := s.walkQueue.filter (fun q => !decide (q = k)) }) ∧
       (∀ front, h.phase = .placing front → front ≠ h.first →
         exec .releaseHold s =
           .next
             { s.answered rest (f.reply .done [3]) with
               holds := s.holds.setIfInBounds (k - 1) (some { h with phase := .releasing h.first front }) }) ∧
       (h.phase = .active →
         exec .releaseHold s =
           .next
             { s.answered rest (f.reply .done [3]) with
               holds := s.holds.setIfInBounds (k - 1) (some { h with phase := .releasing h.first (h.last + 1) })
               walkQueue := s.walkQueue ++ [k] })))

/-- TRIGGER, row by row, on a segment that passes the write checks (R19, R45; the reply, R193); a request that fails a
check is refused by Admission, and changes nothing. -/
def Obligations.TriggerByRow : Prop :=
  (∀ (s : State) (f : Frame) (rest : List RxFrame) (n : Nat), s.segmentAsked f rest 8 n →
     let v := f.param 0
     let g := s.segment v n
     let today := s.now / 86400
     let day := min (f.param 2) today
     let status : Status := if today < f.param 2 then .clamped else .done
     (s.clock.state = .unset → exec .trigger s = .next (s.answered rest (f.refusal .clockUnset (some n)))) ∧
     (s.clock.state = .running → g.state = .blank ∨ g.state = .erasing →
       exec .trigger s = .next (s.answered rest (f.refusal .stateDenied (some n)))) ∧
     (∀ e, s.clock.state = .running → g.state ≠ .blank → g.state ≠ .erasing → s.entryOf g = some e →
       (e.triggered = false → exec .trigger s = .next (s.answered rest (f.refusal .classMismatch (some n)))) ∧
       (e.triggered = true → g.triggerDay ≠ none →
         exec .trigger s = .next (s.answered rest (f.reply .unchanged [optionWord g.expiry]))) ∧
       (e.triggered = true → g.triggerDay = none → g.state = .opened →
         exec .trigger s =
           .next ((s.answered rest (f.reply status [4294967295])).putSegment v n { g with triggerDay := some day })) ∧
       (∀ x, e.triggered = true → g.triggerDay = none → g.state = .closed ∨ g.state = .expired →
         e.expiry ((g.closeTime.getD 0) / 86400) (some day) = some x →
         let later := max (g.expiry.getD 0) x
         exec .trigger s =
           .next
             ((s.answered rest (f.reply status [later])).putSegment v n
               { g with
                 triggerDay := some day
                 expiry := some later
                 state := if g.state = .expired ∧ today < later then .closed else g.state })))) ∧
  (∀ (s : State) (f : Frame) (rest : List RxFrame) (d : Denial), s.awaits f rest → f.kind = 6 → f.code = 8 →
     s.ingestLink = .ready → judgeWriteControl s f (f.param 0) (f.param 1) = some d →
     s.refusedBy f rest .trigger d)

/-- EXTEND RETENTION, row by row, on a segment that passes the write checks (R19, R46; the reply, R193); a request that
fails a check is refused by Admission, and changes nothing. -/
def Obligations.ExtendByRow : Prop :=
  (∀ (s : State) (f : Frame) (rest : List RxFrame) (n : Nat), s.segmentAsked f rest 9 n →
     let v := f.param 0
     let g := s.segment v n
     let day := f.param 2
     let today := s.now / 86400
     (1048575 < day → exec .extendRetention s = .next (s.answered rest (f.refusal .outOfRange (some n)))) ∧
     (day ≤ 1048575 → g.state ≠ .closed → g.state ≠ .expired →
       exec .extendRetention s = .next (s.answered rest (f.refusal .stateDenied (some n)))) ∧
     (day ≤ 1048575 → g.state = .closed ∨ g.state = .expired → g.expiry = none →
       exec .extendRetention s = .next (s.answered rest (f.refusal .stateDenied (some n)))) ∧
     (∀ e, day ≤ 1048575 → g.expiry = some e →
       (g.state = .expired → s.clock.state = .unset →
         exec .extendRetention s = .next (s.answered rest (f.refusal .clockUnset (some n)))) ∧
       (g.state = .closed ∨ (g.state = .expired ∧ s.clock.state = .running) → day ≤ e →
         exec .extendRetention s = .next (s.answered rest (f.reply .unchanged [e, g.state.number]))) ∧
       (g.state = .closed ∨ (g.state = .expired ∧ s.clock.state = .running) → e < day →
         let state := if g.state = .expired ∧ today < day then .closed else g.state
         exec .extendRetention s =
           .next
             ((s.answered rest (f.reply .done [day, state.number])).putSegment v n
               { g with expiry := some day, state := state })))) ∧
  (∀ (s : State) (f : Frame) (rest : List RxFrame) (d : Denial), s.awaits f rest → f.kind = 6 → f.code = 9 →
     s.ingestLink = .ready → judgeWriteControl s f (f.param 0) (f.param 1) = some d →
     s.refusedBy f rest .extendRetention d)

/-- CLOSE, row by row, on a segment that passes the write checks; a close records the time and the expiry, clears the
writer and raises the close high-water mark (R13, R17, R38; the reply, R193). A request that fails a check is refused
by Admission, and changes nothing. -/
def Obligations.CloseByRow : Prop :=
  (∀ (s : State) (f : Frame) (rest : List RxFrame) (n : Nat), s.segmentAsked f rest 10 n →
     let v := f.param 0
     let g := s.segment v n
     (g.state ≠ .opened → exec .closeSegment s = .next (s.answered rest (f.refusal .stateDenied (some n)))) ∧
     (g.state = .opened → g.writer ≠ none →
       exec .closeSegment s = .next (s.answered rest (f.refusal .segmentBusy (some n)))) ∧
     (g.state = .opened → g.writer = none → g.cls = some 0 →
       exec .closeSegment s = .next (s.answered rest (f.refusal .classMismatch (some n)))) ∧
     (g.state = .opened → g.writer = none → g.cls ≠ some 0 → s.clock.state = .unset →
       exec .closeSegment s = .next (s.answered rest (f.refusal .clockUnset (some n)))) ∧
     (g.state = .opened → g.writer = none → g.cls ≠ some 0 → s.clock.state = .running →
       let expiry := s.expiryAt g (s.clock.value / 86400)
       exec .closeSegment s =
         .next
           { (s.answered rest
               (f.reply .done [s.clock.value / 86400, s.clock.value % 86400, optionWord expiry])).putSegment v n
               { g with state := .closed, closeTime := some s.clock.value, expiry := expiry, writer := none } with
             clock := { s.clock with mark := max s.clock.mark s.clock.value } })) ∧
  (∀ (s : State) (f : Frame) (rest : List RxFrame) (d : Denial), s.awaits f rest → f.kind = 6 → f.code = 10 →
     s.ingestLink = .ready → judgeWriteControl s f (f.param 0) (f.param 1) = some d →
     s.refusedBy f rest .closeSegment d)

/-- A descriptor written reads back, every other descriptor reads as before, and the state counts of its volume move
with its state: where they were the numbers of the volume's segments in each state they are so after (R3, R23). Every
command keeps that of every volume, while the Map is listed in its canonical form (log 37), and no command but SET
VOLUME and SET ZONE changes the state of a volume, its segment count, its flags or its zones (R2, R3, R4). -/
def Obligations.TransitionMovesCounts : Prop :=
  (∀ (s : State) (v n : Nat) (g : Segment), s.canonical → 1 ≤ v ∧ v ≤ 4 → n < (s.volume v).count →
    (s.putSegment v n g).segment v n = g ∧
    (∀ u m, ¬ (u = v ∧ m = n) → (s.putSegment v n g).segment u m = s.segment u m) ∧
    ((s.volume v).tallied → ((s.putSegment v n g).volume v).tallied) ∧
    ((s.volume v).tallied → ((s.putSegment v n g).volume v).counts.total = (s.volume v).count)) ∧
  (∀ (c : Instr) (s t : State), s.mapSound → exec c s = .next t → t.mapSound) ∧
  (∀ (c : Instr) (s t : State) (v : Nat), exec c s = .next t → c ≠ .setVolume → c ≠ .setZone →
    (t.volume v).state = (s.volume v).state ∧ (t.volume v).count = (s.volume v).count ∧
      (t.volume v).writeInhibit = (s.volume v).writeInhibit ∧ (t.volume v).commonKey = (s.volume v).commonKey ∧
      (t.volume v).zones = (s.volume v).zones)

/-- SWEEP sets the Sweeper's pass-again to yes and answers DONE, whatever the Sweeper's state and the Clock's (R127,
R130). A pass begins when the Sweeper is Idle, pass-again is yes and the Clock Running: pass-again becomes no and the
cursor stands at segment 0 of the lowest volume that is not Absent, or the pass ends when there is none (R127). -/
def Obligations.SweepAndPassBegin : Prop :=
  (∀ (s : State) (f : Frame) (rest : List RxFrame), s.officerAsks f rest 13 →
     exec .sweep s =
       .next { s.answered rest (f.reply .done []) with sweeper := { s.sweeper with passAgain := true } }) ∧
  (∀ s : State, s.takesEvents = true → s.settled → s.sweeper = { state := .idle, passAgain := true } →
     s.clock.state = .running →
     (∀ v, 1 ≤ v → v ≤ 4 → (s.volume v).state ≠ .absent → (∀ u, 1 ≤ u → u < v → (s.volume u).state = .absent) →
       exec .passBegin s = .next { s with sweeper := { state := .passing v 0, passAgain := false } }) ∧
     ((∀ v, 1 ≤ v → v ≤ 4 → (s.volume v).state = .absent) →
       exec .passBegin s = .next { s with sweeper := { state := .idle, passAgain := false } }))

/-- CLEAR CONDITIONS: no group or a name beyond the five is refused FORMAT; groups all clear are UNCHANGED; otherwise
every flag of every named group becomes no, no other flag changes, and the reply carries the groups after the clearing
(R176). A notice takes the present number, which rises by one, from 65,535 back to 0, and carries the causes of its
step, the five groups and the Last Outcome record (R178, R179, R192; the order of the causes and the notice's place
after the step's other frames, log 18). -/
def Obligations.ClearConditionsClears : Prop :=
  (∀ (s : State) (f : Frame) (rest : List RxFrame), s.officerAsks f rest 19 →
    let named := fun g : Group => (f.param 0).testBit g.number
    (f.param 0 = 0 ∨ 31 < f.param 0 → exec .clearConditions s = .next (s.answered rest (f.refusal .format none))) ∧
    (f.param 0 ≠ 0 → f.param 0 ≤ 31 → (∀ g, named g = true → s.conditions.accrued.groupSet g = false) →
      exec .clearConditions s =
        .next (s.answered rest (f.reply .unchanged [s.conditions.accrued.groups.toNat]))) ∧
    (f.param 0 ≤ 31 → (∃ g, named g = true ∧ s.conditions.accrued.groupSet g = true) →
      ∃ t, exec .clearConditions s = .next t ∧
        (∀ c : Cond, t.conditions.accrued.getLsbD c.number =
          (s.conditions.accrued.getLsbD c.number && !named c.group)) ∧
        t = { s.answered rest (f.reply .done [t.conditions.accrued.groups.toNat]) with
          conditions := { s.conditions with accrued := t.conditions.accrued } })) ∧
  (∀ s : State, s.conditions.causes ≠ [] →
    let x := s.conditions
    let causeWords := fun c : Cause => (match c with
      | .groupSet g cond op => [0, g.number, cond.number, op.initiator.getD 32, op.tag.getD 4294967295, op.kind.word]
      | .faultRecord r => [1, r, 4294967295, 4294967295, 4294967295, 4294967295]
      | .scanEnd p => [2, p.number, (p.cause.map StopCause.number).getD 4294967295, 4294967295, 4294967295, 4294967295]
      : List Nat)
    let lastWords : List Nat := match x.last with
      | some o =>
        [o.op.initiator.getD 32, o.op.tag.getD 4294967295, o.op.kind.word, o.outcome.toNat, o.time / 86400,
         o.time % 86400]
      | none => List.replicate 6 4294967295
    let words := [x.noticeNumber, x.causes.length] ++ x.causes.flatMap causeWords ++ [x.accrued.groups.toNat] ++ lastWords
    let notice : Frame :=
      { Frame.blank 10 x.noticeInitiator 0 0 with
        payloadLength := 4 * words.length, payload := wordsBytes words }
    s.endStep =
      { s with
        conditions := { x with noticeNumber := (x.noticeNumber + 1) % 65536, causes := [] }
        txQueue :=
          if s.present x.noticeInitiator = true ∧ s.txQueue.length < 2048 then s.txQueue ++ [notice]
          else s.txQueue }) ∧
  (∀ (s : State) (op : Operation) (cond : Cond) (g : Group),
    (s.raise op cond).conditions.accrued = s.conditions.accrued ||| cond.bit ∧
    ((s.raise op cond).conditions.accrued.groupSet g = true ↔
      s.conditions.accrued.groupSet g = true ∨ g = cond.group) ∧
    (s.raise op cond).conditions.causes =
      if s.conditions.accrued.groupSet cond.group = false ∧ s.conditions.enables.has cond.group = true then
        s.conditions.causes ++ [.groupSet cond.group cond op]
      else s.conditions.causes)

/-- SET NOTICE, case by case in its order (R177). SET TIMEOUTS: a value present out of its range is refused
OUT_OF_RANGE; every value present equal to the present one is UNCHANGED; otherwise the values present are taken and
both are answered (R195). -/
def Obligations.SettingsSet : Prop :=
  (∀ (s : State) (f : Frame) (rest : List RxFrame), s.officerAsks f rest 20 →
     (31 < f.param 0 → exec .setNotice s = .next (s.answered rest (f.refusal .outOfRange none))) ∧
     (f.param 0 ≤ 31 → 31 < f.param 1 → exec .setNotice s = .next (s.answered rest (f.refusal .format none))) ∧
     (f.param 0 = s.conditions.noticeInitiator → f.param 1 = s.conditions.enables.toNat → f.param 0 ≤ 31 →
       exec .setNotice s = .next (s.answered rest (f.reply .unchanged []))) ∧
     (f.param 0 ≤ 31 → f.param 1 ≤ 31 →
       ¬ (f.param 0 = s.conditions.noticeInitiator ∧ f.param 1 = s.conditions.enables.toNat) →
       exec .setNotice s =
         .next
           { s.answered rest (f.reply .done []) with
             conditions :=
               { s.conditions with noticeInitiator := f.param 0, enables := BitVec.ofNat 5 (f.param 1) } })) ∧
  (∀ (s : State) (f : Frame) (rest : List RxFrame), s.officerAsks f rest 21 →
     let idle := wordOption (f.param 0)
     let media := wordOption (f.param 1)
     let inRange := (∀ x, idle = some x → 5 ≤ x ∧ x ≤ 300) ∧ (∀ x, media = some x → 1 ≤ x ∧ x ≤ 60)
     let same := (∀ x, idle = some x → x = s.idleTime) ∧ (∀ x, media = some x → x = s.mediaTimeout)
     (¬ inRange → exec .setTimeouts s = .next (s.answered rest (f.refusal .outOfRange none))) ∧
     (inRange → same →
       exec .setTimeouts s = .next (s.answered rest (f.reply .unchanged [s.idleTime, s.mediaTimeout]))) ∧
     (inRange → ¬ same →
       exec .setTimeouts s =
         .next
           { s.answered rest (f.reply .done [idle.getD s.idleTime, media.getD s.mediaTimeout]) with
             idleTime := idle.getD s.idleTime, mediaTimeout := media.getD s.mediaTimeout }))

/-- Relocation exchanges the window's eight segments with the label area's numbers and moves no other number; so every
real segment is reached by exactly one named number, and an initiator without a window has no number relocated (R55). -/
def Obligations.RelocationExchanges : Prop :=
  (∀ (e : InitiatorEntry) (w : Window), e.window = some w → 8 ≤ w.base →
    (∀ n, n < 8 → e.relocate w.volume n = w.base + n ∧ e.relocate w.volume (w.base + n) = n) ∧
    (∀ n, 8 ≤ n → (n < w.base ∨ w.base + 8 ≤ n) → e.relocate w.volume n = n) ∧
    (∀ v n, v ≠ w.volume → e.relocate v n = n) ∧
    (∀ v n, e.relocate v (e.relocate v n) = n)) ∧
  (∀ (e : InitiatorEntry) (v n : Nat), e.window = none → e.relocate v n = n)

/-! ### Scans, fault records and collections -/

/-- LOAD SCAN, row by row in the order of its rule: FORMAT for a scan-through word above 1 (R193) and for no entry or
more than 16; NO_VOLUME for an entry whose volume is outside 1 to 4, outside the sender's set or Absent; OUT_OF_RANGE
for an entry of no segments or that reaches beyond its volume; BUSY when the Queued descriptor is not Empty. Behind a
scan the ranges given stand Loaded in the Queued descriptor and the reply says Queued; into two Empty descriptors the
scan enters the Active one, Running at the first segment of its first entry, makes its first visit there in the same
step, and the reply says Active (R161, R162, R165; a refusal carries no segment, the model's reading, log 16; one visit
is made, log 33; the cursor of a scan that this visit ends, log 32; a notice follows the reply, log 18). -/
def Obligations.LoadScanLoads : Prop :=
  ∀ (s : State) (f : Frame) (rest : List RxFrame), s.officerAsks f rest 14 →
    let ranges : List ScanRange :=
      (List.range (f.param 1)).map
        (fun k => { volume := f.param (2 + 3 * k), first := f.param (3 + 3 * k), count := f.param (4 + 3 * k) })
    let loaded : Scan :=
      { phase := .loaded, ranges := ranges, scanThrough := decide (f.param 0 = 1), cursor := none, examined := 0,
        mismatched := 0, skipped := 0, segmentRead := none, list := [], cancelRequested := false, outcome := 0#18 }
    let formed := f.param 0 ≤ 1 ∧ 1 ≤ f.param 1 ∧ f.param 1 ≤ 16
    let volumesOk := ∀ r ∈ ranges, 1 ≤ r.volume ∧ r.volume ≤ 4 ∧
      (s.initiator f.initiator).volumes.getLsbD (r.volume - 1) = true ∧ (s.volume r.volume).state ≠ .absent
    let inRange := ∀ r ∈ ranges, r.count ≠ 0 ∧ r.first + r.count ≤ (s.volume r.volume).count
    let refused := fun code : Code => exec .loadScan s = .next (s.answered rest (f.refusal code none))
    (¬ formed → refused .format) ∧
    (formed → ¬ volumesOk → refused .noVolume) ∧
    (formed → volumesOk → ¬ inRange → refused .outOfRange) ∧
    (formed → volumesOk → inRange → s.scanQueued ≠ none → refused .busy) ∧
    (∀ x, formed → volumesOk → inRange → s.scanQueued = none → s.scanActive = some x →
      exec .loadScan s = .next { s.answered rest (f.reply .done [1]) with scanQueued := some loaded }) ∧
    (∀ r, formed → volumesOk → inRange → s.scanQueued = none → s.scanActive = none → s.canonical →
      ranges[0]? = some r →
      ∃ t more, exec .loadScan s = .next t ∧
        s.visits t (loaded.promoted r) r.volume { entry := 1, segment := r.first } ∧ t.scanQueued = none ∧
        t.rxQueue = rest ∧ t.txQueue = s.txQueue ++ [f.reply .done [0]] ++ more ∧ more.length ≤ 1 ∧
        (∀ y ∈ more, y.kind = 10) ∧ s.sameButScan t)

/-- CANCEL SCAN by the descriptor named and its state: refused, UNCHANGED, the Queued scan removed, the Active one
Stopped at once when no read of it is sent, its requests withdrawn and its end reported, or asked to stop when one is
(R164, R170; arrived entries leave the list with the waiting ones, log 31). RELEASE SCAN returns the result of a Done or
Stopped Active scan and empties the descriptor; a Loaded Queued scan is promoted in the same step: it is the Active one,
Running at the first segment of its first entry, and makes its first visit there (R162, R163, R165; one visit is made,
log 33; the cursor of a scan that this visit ends, log 32). A Running scan is refused BUSY and an Empty descriptor
STATE_DENIED (R163; a notice follows the reply, log 18). -/
def Obligations.ScanCancelledOrReleased : Prop :=
  (∀ (s : State) (f : Frame) (rest : List RxFrame), s.officerAsks f rest 15 →
     (1 < f.param 0 → exec .cancelScan s = .next (s.answered rest (f.refusal .format none))) ∧
     (f.param 0 = 1 → s.scanQueued = none →
       exec .cancelScan s = .next (s.answered rest (f.refusal .stateDenied none))) ∧
     (∀ x, f.param 0 = 1 → s.scanQueued = some x →
       exec .cancelScan s = .next { s.answered rest (f.reply .done []) with scanQueued := none }) ∧
     (f.param 0 = 0 → s.scanActive = none →
       exec .cancelScan s = .next (s.answered rest (f.refusal .stateDenied none))) ∧
     (∀ x, f.param 0 = 0 → s.scanActive = some x → x.phase ≠ .running ∨ x.cancelRequested = true →
       exec .cancelScan s = .next (s.answered rest (f.reply .unchanged []))) ∧
     (∀ x, f.param 0 = 0 → s.scanActive = some x → x.phase = .running → x.cancelRequested = false →
       (∀ e ∈ x.list, e.progress ≠ .sent) →
       ∃ t more, exec .cancelScan s = .next t ∧
         t.scanActive = some { x with phase := .stopped .cancel, segmentRead := none, list := [] } ∧
         s.reports t { initiator := none, tag := none, kind := .scan } x.outcome ∧
         t.conditions.accrued = s.conditions.accrued ∧
         t.txQueue = s.txQueue ++ [f.reply .done []] ++ more ∧ more.length ≤ 1 ∧ (∀ y ∈ more, y.kind = 10) ∧
         (∀ q, q ∈ t.arbiter.verify ↔ q ∈ s.arbiter.verify ∧ q.owner ≠ .scan) ∧
         (∀ e ∈ x.list, ∀ k command cls owner timer, e.mediaTag = some k →
           s.slot k = .busy command cls owner timer → t.slot k = .busy command cls none timer) ∧
         (∀ k, (∀ e ∈ x.list, e.mediaTag ≠ some k) → t.slot k = s.slot k) ∧
         t = { s with
           rxQueue := rest, txQueue := t.txQueue, scanActive := t.scanActive, slots := t.slots
           arbiter := { s.arbiter with verify := t.arbiter.verify }, conditions := t.conditions }) ∧
     (∀ x, f.param 0 = 0 → s.scanActive = some x → x.phase = .running → x.cancelRequested = false →
       (∃ e ∈ x.list, e.progress = .sent) →
       ∃ t, exec .cancelScan s = .next t ∧
         t.scanActive =
           some { x with cancelRequested := true, list := x.list.filter (fun e => decide (e.progress = .sent)) } ∧
         (∀ q, q ∈ t.arbiter.verify ↔ q ∈ s.arbiter.verify ∧ q.owner ≠ .scan) ∧
         t = { s.answered rest (f.reply .done []) with
           scanActive := t.scanActive, arbiter := { s.arbiter with verify := t.arbiter.verify } })) ∧
  (∀ (s : State) (f : Frame) (rest : List RxFrame), s.officerAsks f rest 16 →
     (s.scanActive = none → exec .releaseScan s = .next (s.answered rest (f.refusal .stateDenied none))) ∧
     (∀ x, s.scanActive = some x → x.phase = .running →
       exec .releaseScan s = .next (s.answered rest (f.refusal .busy none))) ∧
     (∀ x cause, s.scanActive = some x → (x.phase = .done ∧ cause = 4294967295) ∨
         (∃ k : StopCause, x.phase = .stopped k ∧ cause = k.number) →
       let reply := f.reply .done [if x.phase = .done then 3 else 4, x.examined, x.mismatched, x.skipped, cause]
       (s.scanQueued = none → exec .releaseScan s = .next { s.answered rest reply with scanActive := none }) ∧
       (∀ q r, s.scanQueued = some q → q.ranges[0]? = some r → s.canonical →
         ∃ t more, exec .releaseScan s = .next t ∧
           s.visits t (q.promoted r) r.volume { entry := 1, segment := r.first } ∧ t.scanQueued = none ∧
           t.rxQueue = rest ∧ t.txQueue = s.txQueue ++ [reply] ++ more ∧ more.length ≤ 1 ∧
           (∀ x ∈ more, x.kind = 10) ∧ s.sameButScan t)))

/-- RESUME is judged in its order: record outside 1 to 4, disposition above 1, record Free or Reissuing, not settled,
three reissues begun; a refused RESUME changes nothing (R151; the row of the table that takes it, log 19). A reissue
begins: the record is Reissuing with its count raised and the RESUME as its resumer, its writes are the context's again
with the reissue-free ones confirmed, and each unconfirmed one asks for an MWRITE; the segments so written again are
marked written (R152, R111; the step of that mark, log 51); that the record stays settled and keeps its fault place
while it is Reissuing is the model's reading (log 28). A reissue whose last answer leaves no write has succeeded,
whatever that answer's run fills: the record is Free, fault pending gone, the resumer answered, and the context is
Streaming with credit 3 and a CREDIT frame, or completes (R14, R86, R88, R92, R153; the closed flag, log 42; the writer
at the close, log 45; a fault pending flag that goes with the confirmed point, log 27; a notice follows the frames, log
18; the frame check state after the response, log 12). -/
def Obligations.ResumeReissues : Prop :=
  (∀ (s : State) (f : Frame) (rest : List RxFrame), s.officerAsks f rest 17 →
     let refuses := fun code : Code =>
       exec (if f.param 1 = 1 then .resumeAbandon else .resumeReissue) s =
         .next (s.answered rest (f.refusal code none))
     (f.param 0 < 1 ∨ 4 < f.param 0 → refuses .outOfRange) ∧
     (1 ≤ f.param 0 → f.param 0 ≤ 4 →
       (1 < f.param 1 → refuses .format) ∧
       (f.param 1 ≤ 1 → s.record (f.param 0) = none → refuses .format) ∧
       ∀ x, f.param 1 ≤ 1 → s.record (f.param 0) = some x →
         (x.state = .reissuing → refuses .format) ∧
         (x.state = .held → x.settled = false → refuses .busy) ∧
         (x.state = .held → x.settled = true → f.param 1 = 0 → 3 ≤ x.reissues → refuses .limit))) ∧
  (∀ (s : State) (f : Frame) (rest : List RxFrame) (x : FaultRecord) (w : WriteContext), s.officerAsks f rest 17 →
     1 ≤ f.param 0 → f.param 0 ≤ 4 → f.param 1 = 0 → s.record (f.param 0) = some x → x.state = .held →
     x.settled = true → x.reissues < 3 → s.context x.context = .write w → s.canonical →
     ∃ t, exec .resumeReissue s = .next t ∧
       t.record (f.param 0) =
         some
           { x with
             state := .reissuing, reissues := x.reissues + 1, resumer := some (f.initiator, f.tag), writes := [] } ∧
       (∀ r, r ≠ f.param 0 → t.record r = s.record r) ∧
       t.context x.context =
         .write
           { w with
             state := .reissuing
             pending :=
               x.writes.map (fun e =>
                 { segment := e.segment, offset := e.offset, count := e.count, mediaTag := none,
                   confirmed := !e.needsReissue, data := e.data }) } ∧
       (∀ d, d ≠ x.context → t.context d = s.context d) ∧
       t.arbiter =
         { s.arbiter with
           write :=
             s.arbiter.write ++
               (x.writes.filter RecordWrite.needsReissue).map (fun e =>
                 { command :=
                     { kind := .mwrite, volume := w.volume, segment := e.segment, offset := e.offset,
                       count := e.count }
                   owner := .write x.context }) } ∧
       (∀ v m,
         let again := v = w.volume ∧ m < (s.volume v).count ∧ ∃ e ∈ x.writes, e.needsReissue = true ∧ e.segment = m
         (again → t.segment v m = { s.segment v m with writtenSince := true }) ∧
         (¬ again → t.segment v m = s.segment v m)) ∧
       t = { s with
         rxQueue := rest, records := t.records, contexts := t.contexts, arbiter := t.arbiter
         volumes := t.volumes }) ∧
  (∀ (s : State) (bytes : List Byte) (f : Frame) (c r : Nat) (w : WriteContext) (run : List PendingWrite)
    (y : FaultRecord),
    s.writeAnswered bytes f c w run [] → w.state = .reissuing → s.recordOf c = some r → s.record r = some y →
    s.txQueue.length + 2 ≤ 2048 → (∀ p, y.resumer = some p → (s.initiator p.1).state ≠ .absent) →
    ∃ (t u : State) (x : WriteContext) (notices : List Frame), exec (.mstatus bytes) s = .next t ∧
      s.foldsTo u w x run ∧
      let done := w.folded x f run []
      let g : Segment := { u.segment w.volume x.current with faultPending := false }
      let resumed : List Frame := match y.resumer with
        | some p => [controlReply p.1 p.2 17 .done [r, x.current, x.confirmedOffset]]
        | none => []
      notices.length ≤ 1 ∧ t.record r = none ∧ (∀ k, k ≠ r → t.record k = s.record k) ∧
      (∀ d, d ≠ c → t.context d = s.context d) ∧ t.conditions.accrued = s.conditions.accrued ||| softSet f ∧
      (y.continuation = .resumeStreaming →
        t.context c = .write { done with state := .streaming, credit := 3, idle := some s.idleTime } ∧
        t.segment w.volume x.current = g ∧
        (∀ v m, ¬ (v = w.volume ∧ m = x.current) → t.segment v m = u.segment v m) ∧
        t.txQueue = s.txQueue ++ resumed ++ [creditOf w x.current x.confirmedOffset 3] ++ notices ∧
        t.clock = u.clock ∧ s.completesNothing t) ∧
      (y.continuation = .resumeDraining →
        (u.putSegment w.volume x.current g).finishes t c done ∧
        s.reports t { initiator := some w.initiator, tag := some w.tag, kind := .beginTransfer } done.outcome ∧
        t.txQueue =
          s.txQueue ++ resumed ++
            [completionFrame done (decide ((t.segment w.volume done.lastBlock).state = .closed))] ++ notices) ∧
      t = { u with
        mediaCheck := checkAfter bytes, slots := s.slots.setIfInBounds f.tag .free, volumes := t.volumes
        contexts := t.contexts, records := t.records, clock := t.clock, conditions := t.conditions
        txQueue := t.txQueue })

/-- An Abandon closes the record's segment truncated, unless its class is 0 or 1, frees the context and the record,
sends the transfer its Terminated reply with MEDIA_FAULT, and answers the RESUME with the segment and its append point.
Every writer that names the context is cleared, of a segment that stays Open and of a reserved next segment too, and
nothing else of another segment changes (R12, R16, R155; the segment the Terminated reply names, log 54). -/
def Obligations.AbandonDisposes : Prop :=
  ∀ (s : State) (f : Frame) (rest : List RxFrame) (x : FaultRecord) (w : WriteContext) (p : FaultPlace),
    s.officerAsks f rest 17 → 1 ≤ f.param 0 → f.param 0 ≤ 4 → f.param 1 = 1 → s.record (f.param 0) = some x →
    x.state = .held → x.settled = true → x.place = some p → s.context x.context = .write w → s.hears w →
    s.canonical → s.segmentExists p.volume p.segment = true → 1 ≤ p.volume ∧ p.volume ≤ 4 →
    (s.segment p.volume p.segment).state = .opened →
    let g := s.segment p.volume p.segment
    let worked := fun v m : Nat =>
      v = w.volume ∧ (m = w.startSegment ∨ m = w.current ∨ w.next = some m) ∧ m < (s.volume v).count
    let cleared := fun v m : Nat => { s.segment v m with writer := none }
    ∃ t, exec .resumeAbandon s = .next t ∧ t.record (f.param 0) = none ∧
      (∀ r, r ≠ f.param 0 → t.record r = s.record r) ∧ t.context x.context = .free ∧
      (∀ d, d ≠ x.context → t.context d = s.context d) ∧
      (t.segment p.volume p.segment).faultPending = false ∧
      (g.cls ≠ some 0 → g.cls ≠ some 1 →
        t.segment p.volume p.segment =
          { g with
            state := .closed, closeTime := some s.now, expiry := s.expiryAt g (s.now / 86400), truncated := true,
            faultPending := false, writer := none } ∧
        t.clock = { s.clock with mark := max s.clock.mark s.now }) ∧
      (g.cls = some 0 ∨ g.cls = some 1 →
        (worked p.volume p.segment ∧ g.writer = some x.context →
          t.segment p.volume p.segment = { g with faultPending := false, writer := none }) ∧
        (¬ (worked p.volume p.segment ∧ g.writer = some x.context) →
          t.segment p.volume p.segment = { g with faultPending := false }) ∧
        t.clock = s.clock) ∧
      t.txQueue =
        s.txQueue ++
          [refusedFrame w.initiator w.tag w.volume .mediaFault true 0 (some w.current)
              (some (w.current, w.confirmedOffset)),
           f.reply .done [f.param 0, p.segment, g.appendPoint]] ∧
      (∀ v m, ¬ (v = p.volume ∧ m = p.segment) →
        (worked v m ∧ (s.segment v m).writer = some x.context → t.segment v m = cleared v m) ∧
        (¬ (worked v m ∧ (s.segment v m).writer = some x.context) → t.segment v m = s.segment v m)) ∧
      ((∀ v m, (s.segment v m).writer = some x.context → worked v m) →
        ∀ v m, (t.segment v m).writer ≠ some x.context) ∧
      s.reports t { initiator := some w.initiator, tag := some w.tag, kind := .beginTransfer } w.outcome ∧
      t = { s with
        rxQueue := rest, txQueue := t.txQueue, records := t.records, contexts := t.contexts, volumes := t.volumes,
        clock := t.clock, conditions := t.conditions } ∧
      t.conditions.accrued = s.conditions.accrued

/-- COLLECT ACTIVITY is judged in its order and takes its place as the unfinished collection, without a reply; an
examination takes the next segment's two flags, in whatever state the segment stands (log 47), clears them, and stops at
the volume's end or at 256 entries with its reply; one that stands at a segment that does not exist stops with resume
end (R112, R113; log 44). -/
def Obligations.CollectionRuns : Prop :=
  (∀ (s : State) (f : Frame) (rest : List RxFrame), s.officerAsks f rest 18 →
    let n := (s.initiator f.initiator).relocate (f.param 0) (f.param 1)
    let volumeOpen := check2 s (s.initiator f.initiator) (f.param 0) = none
    (¬ volumeOpen → exec .collectActivity s = .next (s.answered rest (f.refusal .noVolume (some n)))) ∧
    (volumeOpen → (s.volume (f.param 0)).count ≤ n →
      exec .collectActivity s = .next (s.answered rest (f.refusal .outOfRange (some n)))) ∧
    (volumeOpen → n < (s.volume (f.param 0)).count → s.collection ≠ none →
      exec .collectActivity s = .next (s.answered rest (f.refusal .busy (some n)))) ∧
    (volumeOpen → n < (s.volume (f.param 0)).count → s.collection = none →
      exec .collectActivity s =
        .next
          { s.taken rest with
            collection :=
              some { initiator := f.initiator, tag := f.tag, volume := f.param 0, nextSegment := n, entries := [] } })) ∧
  (∀ (s : State) (x : Collection), s.takesEvents = true → s.settled → s.collection = some x →
    s.ingestLink = .ready → (s.initiator x.initiator).state ≠ .absent → s.txQueue.length < 2048 →
    let g := s.segment x.volume x.nextSegment
    let entry : ActivityEntry :=
      { segment := x.nextSegment, readSince := g.readSince, writtenSince := g.writtenSince }
    let entries :=
      x.entries ++
        (if g.readSince || g.writtenSince then [entry] else [])
    let cleared := s.putSegment x.volume x.nextSegment { g with readSince := false, writtenSince := false }
    let reply := fun (l : List ActivityEntry) (resume : Nat) =>
      controlReply x.initiator x.tag 18 .done ([l.length] ++ l.map ActivityEntry.word ++ [resume])
    (s.segmentExists x.volume x.nextSegment = false →
      exec .collectionExamine s =
        .next { s with collection := none, txQueue := s.txQueue ++ [reply x.entries 4294967295] }) ∧
    (s.segmentExists x.volume x.nextSegment = true → (s.volume x.volume).count ≤ x.nextSegment + 1 →
      exec .collectionExamine s =
        .next { cleared with collection := none, txQueue := s.txQueue ++ [reply entries 4294967295] }) ∧
    (s.segmentExists x.volume x.nextSegment = true → x.nextSegment + 1 < (s.volume x.volume).count →
      256 ≤ entries.length →
      exec .collectionExamine s =
        .next { cleared with collection := none, txQueue := s.txQueue ++ [reply entries (x.nextSegment + 1)] }) ∧
    (s.segmentExists x.volume x.nextSegment = true → x.nextSegment + 1 < (s.volume x.volume).count →
      entries.length < 256 →
      exec .collectionExamine s =
        .next { cleared with collection := some { x with nextSegment := x.nextSegment + 1, entries := entries } }))

/-! ### The Media Port -/

/-- A grant gives the lowest-numbered Free slot to the head request of the first eligible class in the rotation after
the class granted last; the slot is Busy with the full media timeout, and the command is sent with the slot as its tag
(R139, R145, R146; the bytes sent are the model's view of the link, log 11). The tag of a granted command is recorded
in the one waiting entry that asked for it, and an MWRITE carries the blocks of its own pending write (R84, R103,
R132, R139, R166). -/
def Obligations.GrantFollowsRotation : Prop :=
  (∀ (s : State) (t : Nat) (cls : MediaClass) (r : Request) (rest : List Request), s.takesEvents = true → s.settled →
     s.mediaLink = .ready → s.slot t = .free → t < 16 → (∀ u, u < t → s.slot u ≠ .free) →
     s.eligible cls = true → s.arbiter.queue cls = r :: rest →
     (∀ before after, s.arbiter.last.rotation = before ++ cls :: after → ∀ c ∈ before, s.eligible c = false) →
     ∃ u, exec .mediaGrant s = .next u ∧ u.slot t = .busy r.command cls (some r.owner) s.mediaTimeout ∧
       (∀ k, k ≠ t → u.slot k = s.slot k) ∧ u.arbiter.queue cls = rest ∧
       (∀ c, c ≠ cls → u.arbiter.queue c = s.arbiter.queue c) ∧ u.arbiter.last = cls ∧
       u.mediaOut = (commandFrame r.command t (s.blocksOf r)).wire ∧
       (u.contexts = (recordTag r t s).contexts ∧ u.eraseQueue = (recordTag r t s).eraseQueue ∧
         u.scanActive = (recordTag r t s).scanActive) ∧
       u = { s with
         slots := u.slots, arbiter := u.arbiter, contexts := u.contexts, eraseQueue := u.eraseQueue,
         scanActive := u.scanActive, mediaOut := u.mediaOut }) ∧
  (∀ (s : State) (r : Request) (t : Nat),
     (∀ c w before e after, r.owner = .write c → s.context c = .write w → w.pending = before ++ e :: after →
       (∀ x ∈ before ++ after, asksFor w r x = false) → asksFor w r e = true →
       s.blocksOf r = e.data ∧
       (recordTag r t s).context c =
         .write { w with pending := before ++ { e with mediaTag := some t } :: after } ∧
       (∀ d, d ≠ c → (recordTag r t s).context d = s.context d)) ∧
     (∀ before e after, r.owner = .erase → s.eraseQueue = before ++ e :: after →
       (∀ x ∈ before ++ after, ¬ (x.volume = r.command.volume ∧ x.segment = r.command.segment ∧ x.progress = .waiting)) →
       e.volume = r.command.volume → e.segment = r.command.segment → e.progress = .waiting →
       s.blocksOf r = [] ∧
       (recordTag r t s).eraseQueue = before ++ { e with mediaTag := some t, progress := .sent } :: after) ∧
     (∀ c x before e after, r.owner = .read c → s.context c = .read x → x.list = before ++ e :: after →
       (∀ y ∈ before ++ after, y.asks r.command = false) → e.asks r.command = true →
       (recordTag r t s).context c =
         .read { x with list := before ++ { e with mediaTag := some t, progress := .sent } :: after } ∧
       (∀ d, d ≠ c → (recordTag r t s).context d = s.context d)) ∧
     (∀ x before e after, r.owner = .scan → s.scanActive = some x → x.list = before ++ e :: after →
       (∀ y ∈ before ++ after, y.asks r.command = false) → e.asks r.command = true →
       (recordTag r t s).scanActive =
         some { x with list := before ++ { e with mediaTag := some t, progress := .sent } :: after }) ∧
     (r.owner = .erase ∨ r.owner = .scan → (recordTag r t s).contexts = s.contexts) ∧
     (r.owner ≠ .erase → (recordTag r t s).eraseQueue = s.eraseQueue) ∧
     (r.owner ≠ .scan → (recordTag r t s).scanActive = s.scanActive))

/-- MSTATUS OK or SOFT for a media write: the entry is confirmed; while the head of the list is confirmed its blocks are
folded into the segment, the append point and the confirmed point follow, and credit rises by one for each entry that
leaves. A Streaming context then sends one CREDIT frame; with no entry gone, none. Another state with entries left goes
on; a Faulted one with none in flight settles its record. SOFT also raises MEDIA_SOFT (R47, R86, R87, R140, R149, R150,
R153; the record's settling, log 28). A class 0 segment is not folded (R89). An entry that ends at offset 16,384 fills
its segment, which closes unless its class is 0 or 1; the confirmed point is carried to the next segment, with a fault
pending flag, and the entries after it are folded there, in whatever state the context is (R14, R88; log 27). A notice
follows the other frames (log 18); the frame check state after the response is the model's reading (log 12), and an
answered write has no media tag (log 21). The last answers of a Draining, an Aborting and a Reissuing context have their
own statements, EndFinishesTransfer, FatalCauseAborts and ResumeReissues. -/
def Obligations.WriteConfirmed : Prop :=
  ∀ (s : State) (bytes : List Byte) (f : Frame) (c : Nat) (w : WriteContext) (run rest : List PendingWrite),
    s.writeAnswered bytes f c w run rest →
    ∃ (u : State) (x : WriteContext), s.foldsTo u w x run ∧
      let after := w.folded x f run rest
      let goesOn := fun (y : WriteContext) (frames : List Frame) =>
        ∃ (t : State) (notices : List Frame), exec (.mstatus bytes) s = .next t ∧ notices.length ≤ 1 ∧
          t.context c = .write y ∧ (∀ d, d ≠ c → t.context d = s.context d) ∧
          t.conditions.accrued = s.conditions.accrued ||| softSet f ∧ s.completesNothing t ∧
          t.txQueue = s.txQueue ++ frames ++ notices ∧
          t = { u with
            mediaCheck := checkAfter bytes, slots := s.slots.setIfInBounds f.tag .free, contexts := t.contexts
            conditions := t.conditions, txQueue := t.txQueue }
      (w.state = .streaming → run ≠ [] →
        goesOn { after with idle := some s.idleTime } [creditOf w x.current x.confirmedOffset (w.credit + run.length)]) ∧
      (w.state = .streaming → run = [] → goesOn after []) ∧
      (w.state = .draining ∨ w.state = .aborting ∨ w.state = .reissuing → rest ≠ [] → goesOn after []) ∧
      (w.state = .faulted → (∃ e ∈ rest, e.mediaTag ≠ none) → goesOn after []) ∧
      (∀ r y, w.state = .faulted → (∀ e ∈ rest, e.mediaTag = none) → s.recordOf c = some r → s.record r = some y →
        (∀ p, y.resumer = some p → (s.initiator p.1).state ≠ .absent) →
        ∃ (t : State) (notices : List Frame), exec (.mstatus bytes) s = .next t ∧ notices.length ≤ 1 ∧
          u.settles t c r y after (u.segment w.volume x.current) ∧ (∀ d, d ≠ c → t.context d = s.context d) ∧
          t.conditions.accrued = s.conditions.accrued ||| softSet f ∧ s.completesNothing t ∧
          t.txQueue = s.txQueue ++ settlingFrames y after r ++ notices ∧
          t = { u with
            mediaCheck := checkAfter bytes, slots := s.slots.setIfInBounds f.tag .free, volumes := t.volumes
            contexts := t.contexts, records := t.records, conditions := t.conditions, txQueue := t.txQueue })

/-- A failed media write, by MSTATUS FAULT, by an MDATA or by the timeout, raises MEDIA_FAULT (R90, R140, R141). A
Streaming or Draining context is Faulted with credit 0 and takes the lowest-numbered Free record; with none Free it is
Aborting, FAULT_LOST (R148). In Aborting the failed entry and every newer one leave the list, those that wait withdrawn,
those that are sent left to answer without an owner, and an empty list frees the context with its Terminated reply (R90,
R95, R142). A Faulted context keeps its record's fault kind (R149); a Reissuing one is Faulted and its record Held
again, with this kind (R154; its place until it settles, log 28). While another write is sent and unanswered the record
is not settled; otherwise it settles at once: it takes the pending writes and the fault place, the segment has fault
pending, and FAULTED answers the initiator, or a resumer that waits (R150). The Terminated reply names the context's
current segment (log 54). A notice follows the frames (log 18); the frame check state after a response, log 12; a failed
write has no media tag, log 21. -/
def Obligations.WriteFailureFaults : Prop :=
  ∀ (s u : State) (ev : Instr) (tag c : Nat) (timeout : Bool) (w : WriteContext),
    s.fails ev tag (.write c) none timeout u → s.context c = .write w → s.canonical → s.hears w →
    s.segmentExists w.volume w.current = true → s.txQueue.length < 2048 →
    let kind : FaultKind := if timeout then .writeTimeout else .writeFault
    let list := w.pending.map (fun e => if e.mediaTag = some tag then { e with mediaTag := none } else e)
    let g := s.segment w.volume w.current
    let faulted : WriteContext :=
      { w with
        state := .faulted, credit := if w.state = .faulted then w.credit else 0
        idle := if w.state = .faulted then w.idle else none, outcome := w.outcome ||| Cond.mediaFault.bit
        pending := list }
    let inRecord := fun (r : Nat) (x : FaultRecord) =>
      ∃ (t : State) (notices : List Frame), exec ev s = .next t ∧ notices.length ≤ 1 ∧
        t.conditions.accrued = s.conditions.accrued ||| Cond.mediaFault.bit ∧ s.completesNothing t ∧
        (w.state ≠ .faulted →
          ∀ q, q ∈ t.arbiter.write ↔ q ∈ s.arbiter.write ∧ q.owner ≠ .write c) ∧
        (w.state = .faulted → t.arbiter = s.arbiter) ∧
        (∀ d, d ≠ c → t.context d = s.context d) ∧
        ((∃ e ∈ list, e.mediaTag ≠ none) →
          t.record r = some x ∧ (∀ k, k ≠ r → t.record k = s.record k) ∧ t.context c = .write faulted ∧
          t.volumes = s.volumes ∧ t.txQueue = s.txQueue ++ notices) ∧
        ((∀ e ∈ list, e.mediaTag = none) →
          s.settles t c r x faulted g ∧ t.txQueue = s.txQueue ++ settlingFrames x faulted r ++ notices) ∧
        t = { u with
          arbiter := { u.arbiter with write := t.arbiter.write }, contexts := t.contexts, records := t.records
          volumes := t.volumes, conditions := t.conditions, txQueue := t.txQueue }
    let kept := w.pending.takeWhile (fun e => decide (e.mediaTag ≠ some tag))
    let gone := w.pending.dropWhile (fun e => decide (e.mediaTag ≠ some tag))
    let aborting := fun (raised : CondSet) (fatal : Option Code) =>
      ∃ (t : State) (notices : List Frame), exec ev s = .next t ∧ notices.length ≤ 1 ∧
        t.conditions.accrued = s.conditions.accrued ||| raised ∧
        (∀ q, q ∈ t.arbiter.write ↔
          q ∈ s.arbiter.write ∧
            ¬ (q.owner = .write c ∧
              ∃ e ∈ gone,
                q.command =
                  { kind := .mwrite, volume := w.volume, segment := e.segment, offset := e.offset,
                    count := e.count })) ∧
        (∀ e ∈ gone, ∀ k command cls owner timer, e.mediaTag = some k → u.slot k = .busy command cls owner timer →
          t.slot k = .busy command cls none timer) ∧
        (∀ k, (∀ e ∈ gone, e.mediaTag = some k → k = tag) → t.slot k = u.slot k) ∧
        (∀ d, d ≠ c → t.context d = s.context d) ∧
        (kept ≠ [] →
          t.context c =
            .write
              { w with
                state := .aborting, idle := if w.state = .aborting then w.idle else none, fatal := fatal
                outcome := w.outcome ||| raised, pending := kept } ∧
          t.volumes = s.volumes ∧ s.completesNothing t ∧ t.txQueue = s.txQueue ++ notices) ∧
        (kept = [] →
          t.context c = .free ∧ s.clears t c w ∧
          s.reports t { initiator := some w.initiator, tag := some w.tag, kind := .beginTransfer }
            (w.outcome ||| raised) ∧
          t.txQueue =
            s.txQueue ++
              (match fatal with
               | some code =>
                 [refusedFrame w.initiator w.tag w.volume code true 0 (some w.current)
                   (some (w.current, w.confirmedOffset))]
               | none => []) ++ notices) ∧
        t = { u with
          slots := t.slots, arbiter := { u.arbiter with write := t.arbiter.write }, contexts := t.contexts
          volumes := t.volumes, conditions := t.conditions, txQueue := t.txQueue }
    (∀ r, w.state = .streaming ∨ w.state = .draining → 1 ≤ r → r ≤ 4 → s.record r = none →
      (∀ k, 1 ≤ k → k < r → s.record k ≠ none) → (∀ k x, s.record k = some x → x.context ≠ c) →
      inRecord r
        { state := .held, settled := false, context := c, initiator := w.initiator, tag := w.tag, place := none,
          kind := kind, writes := []
          continuation := if w.state = .streaming then .resumeStreaming else .resumeDraining
          reissues := 0, created := s.now, resumer := none }) ∧
    (∀ r x, s.recordOf c = some r → s.record r = some x →
      (∀ p, x.resumer = some p → (s.initiator p.1).state ≠ .absent) →
      (w.state = .faulted → inRecord r x) ∧
      (w.state = .reissuing → inRecord r { x with state := .held, settled := false, kind := kind })) ∧
    (w.state = .streaming ∨ w.state = .draining → (∀ k, 1 ≤ k → k ≤ 4 → s.record k ≠ none) → w.fatal = none →
      aborting (Cond.faultLost.bit ||| Cond.mediaFault.bit) (some .faultLost)) ∧
    (w.state = .aborting → aborting Cond.mediaFault.bit w.fatal)

/-- MERASE answered OK or SOFT: the segment is Blank and fresh with its generation one higher, held at 65,535, the
entry leaves the queue, and a waiting requester is answered DONE with the generation; SOFT also raises MEDIA_SOFT. Any
failure, by MSTATUS FAULT, by an MDATA or by the timeout, returns the segment to Expired with ERASE_FAILED, and the
requester is refused. An entry without a requester is answered to no one, and reports as the engine's (R21, R22, R132,
R140, R141, R173; a notice follows the reply, log 18; the frame check state after the response, log 12). -/
def Obligations.EraseAnswered : Prop :=
  ∀ (s : State) (before after : List EraseEntry) (e : EraseEntry) (tag : Nat),
    s.eraseQueue = before ++ e :: after → e.mediaTag = some tag →
    (∀ x ∈ before ++ after, x.mediaTag ≠ some tag ∧ ¬ (x.volume = e.volume ∧ x.segment = e.segment)) →
    s.canonical → s.segmentExists e.volume e.segment = true → (s.segment e.volume e.segment).state = .erasing →
    s.ingestLink = .ready → (∀ p, e.requester = some p → (s.initiator p.1).state ≠ .absent) →
    s.txQueue.length < 2048 →
    let g := s.segment e.volume e.segment
    let generation := min 65535 (g.generation + 1)
    let op : Operation :=
      { initiator := e.requester.map Prod.fst, tag := e.requester.map Prod.snd, kind := .eraseSegment }
    let ended := fun (u t : State) (x : Segment) (reply : Nat × Nat → Frame) (raised : CondSet) =>
      t.eraseQueue = before ++ after ∧ t.segment e.volume e.segment = x ∧
      (∀ v m, ¬ (v = e.volume ∧ m = e.segment) → t.segment v m = s.segment v m) ∧
      t.conditions.accrued = s.conditions.accrued ||| raised ∧ s.reports t op raised ∧
      (∃ notices : List Frame,
        t.txQueue = s.txQueue ++ (e.requester.map reply).toList ++ notices ∧ notices.length ≤ 1) ∧
      t = { u with
        volumes := t.volumes, eraseQueue := t.eraseQueue, txQueue := t.txQueue, conditions := t.conditions }
    (∀ (bytes : List Byte) (f : Frame), s.answers bytes f 19 → bytesAreMdata bytes = false → f.tag = tag →
      s.owned tag .erase → f.status = 16 ∨ f.status = 17 →
      ∃ t, exec (.mstatus bytes) s = .next t ∧
        ended (s.slotFreed bytes tag) t { Segment.fresh with generation := generation }
          (fun p => { replyFrame p.1 p.2 e.volume .done with segment := e.segment }.withPayload
            (wordsBytes [generation]))
          (softSet f)) ∧
    (∀ (u : State) (ev : Instr) (timeout : Bool), s.fails ev tag .erase none timeout u →
      ∃ t, exec ev s = .next t ∧
        ended u t { g with state := .expired }
          (fun p => refusedFrame p.1 p.2 e.volume .eraseFailed false 0 (some e.segment) none) Cond.eraseFailed.bit)

/-- A response, MSTATUS or MDATA, whose slot has no owner is discarded and frees the slot; one to a Busy-late or Free
slot raises MEDIA_LATE and leaves the slot Free; one whose check word fails raises FRAME_CHECK and touches no slot (R142
to R144; the frame check state after a whole frame, log 12; a run of fewer than four bytes counts as one whose check
word fails, log 49; the row a response belongs to, log 20). A notice, and at most one, is the step's only frame (log
18). The timer of a Busy slot without an owner has run out: the slot is Busy-late and no one is told; a slot whose timer
still runs, and one that is not Busy, is left, since its timeout cannot arise (R141, R142; log 2; a timer has run out at
no remaining time, log 9). -/
def Obligations.AnswersWithoutOwner : Prop :=
  (∀ (s : State) (c : Instr) (bytes : List Byte) (kind : Nat),
     (c = .mstatus bytes ∧ bytesAreMdata bytes = false ∧ kind = 19) ∨
       (c = .mdata bytes ∧ bytesAreMdata bytes = true ∧ kind = 20) →
     let alone := fun (kind : OpKind) (cond : Cond) =>
       ({ op := { initiator := none, tag := none, kind := kind }, outcome := cond.bit, time := s.now } : LastOutcome)
     (∀ f command cls timer, s.answers bytes f kind → s.slot f.tag = .busy command cls none timer →
       exec c s = .next (s.slotFreed bytes f.tag)) ∧
     (∀ f, s.answers bytes f kind → s.slot f.tag = .busyLate ∨ s.slot f.tag = .free →
       ∃ (t : State) (notices : List Frame), exec c s = .next t ∧
         t = { s.slotFreed bytes f.tag with conditions := t.conditions, txQueue := s.txQueue ++ notices } ∧
         s.raisesOne t .mediaLate (some (alone .media .mediaLate)) notices) ∧
     (s.takesEvents = true → s.settled → s.mediaLink = .ready → checkPasses bytes = false →
       ∃ (t : State) (notices : List Frame), exec c s = .next t ∧
         t = { s with
           mediaCheck := checkAfter bytes, conditions := t.conditions, txQueue := s.txQueue ++ notices } ∧
         s.raisesOne t .frameCheck (some (alone .frame .frameCheck)) notices)) ∧
  (∀ (s : State) (n : Nat) (command : MediaCommand) (cls : MediaClass), s.takesEvents = true → s.settled → n < 16 →
     (s.slot n = .busy command cls none 0 →
       exec (.mediaTimeout n) s = .next { s with slots := s.slots.setIfInBounds n .busyLate }) ∧
     (∀ owner timer, s.slot n = .busy command cls owner (timer + 1) → exec (.mediaTimeout n) s = .next s) ∧
     (s.slot n = .free ∨ s.slot n = .busyLate → exec (.mediaTimeout n) s = .next s))

/-- An MDATA with exactly the blocks of an entry of a read: the entry has arrived. While the oldest entry has arrived
its blocks leave as one RDATA frame, in the order of the list, and delivered rises; an entry that is not the oldest
waits for the older ones. The first delivery marks the segment read, in whatever state it stands (log 47, log 55), and a
read whose list is then empty is answered and freed: FAULTED when a failure was taken, SHORT when entries were withdrawn
or fewer blocks than asked were there, DONE otherwise (R104, R105, R110). A failed media read, by any MSTATUS, by an
MDATA of another length or by the timeout, raises MEDIA_FAULT and stops the read short: the failed entry and every newer
one leave the list, those that wait withdrawn, those that are sent left to answer without an owner; with none left the
read is answered FAULTED and freed (R104 to R106, R140 to R142; when an MDATA holds exactly the blocks of an entry, log
38; an answered entry has no media tag, log 21; a notice follows the reply, log 18; the frame check state after the
response, log 12). -/
def Obligations.ReadServed : Prop :=
  (∀ (s : State) (bytes : List Byte) (f : Frame) (c : Nat) (r : ReadContext) (before after : List ReadEntry)
    (e : ReadEntry) (heads kept : List ReadEntry),
    s.answers bytes f 20 → bytesAreMdata bytes = true → s.owned f.tag (.read c) → s.context c = .read r →
    r.list = before ++ e :: after → e.mediaTag = some f.tag → (∀ y ∈ before ++ after, y.mediaTag ≠ some f.tag) →
    f.holdsBlocks e.count = true → s.ingestLink = .ready → (s.initiator r.initiator).state ≠ .absent →
    s.txQueue.length + r.list.length < 2048 → s.canonical → s.segmentExists r.volume r.segment = true →
    before ++ { e with progress := .arrived, mediaTag := none, data := f.payload } :: after = heads ++ kept →
    (∀ h ∈ heads, h.progress = .arrived) → (∀ h, kept.head? = some h → h.progress ≠ .arrived) →
    let delivered := r.delivered + (heads.map ReadEntry.count).sum
    let frames := heads.map (fun h =>
      { Frame.blank 9 r.initiator r.tag r.volume with
        segment := r.segment, offset := h.offset, count := h.count }.withPayload h.data)
    let status : Status := match r.ending with
      | none => if delivered = r.requested then .done else .short
      | some .short => .short
      | some .faulted => .faulted
    ∃ t, exec (.mdata bytes) s = .next t ∧
      t.segment r.volume r.segment =
        { s.segment r.volume r.segment with
          readSince := (s.segment r.volume r.segment).readSince || decide (heads ≠ [] ∧ r.delivered = 0) } ∧
      (kept ≠ [] →
        t.context c = .read { r with list := kept, delivered := delivered } ∧ t.txQueue = s.txQueue ++ frames ∧
        t.conditions = s.conditions) ∧
      (kept = [] →
        t.context c = .free ∧
        t.txQueue =
          s.txQueue ++ frames ++
            [{ replyFrame r.initiator r.tag r.volume status with
                segment := r.segment, offset := r.firstOffset, count := delivered
              }.withPayload (wordsBytes [r.outcome.toNat])] ∧
        s.reports t { initiator := some r.initiator, tag := some r.tag, kind := .readTransfer } r.outcome ∧
        t.conditions = { s.conditions with last := t.conditions.last }) ∧
      (∀ d, d ≠ c → t.context d = s.context d) ∧
      (∀ v m, ¬ (v = r.volume ∧ m = r.segment) → t.segment v m = s.segment v m) ∧
      t = { s with
        mediaCheck := checkAfter bytes, slots := s.slots.setIfInBounds f.tag .free, volumes := t.volumes
        contexts := t.contexts, conditions := t.conditions, txQueue := t.txQueue }) ∧
  (∀ (s u : State) (ev : Instr) (tag c : Nat) (timeout : Bool) (r : ReadContext) (kept newer : List ReadEntry)
    (e : ReadEntry),
    s.fails ev tag (.read c) (some e.count) timeout u → s.context c = .read r → r.list = kept ++ e :: newer →
    e.mediaTag = some tag → (∀ x ∈ kept ++ newer, x.mediaTag ≠ some tag) → s.ingestLink = .ready →
    (s.initiator r.initiator).state ≠ .absent → s.txQueue.length < 2048 →
    let outcome := r.outcome ||| Cond.mediaFault.bit
    ∃ (t : State) (notices : List Frame), exec ev s = .next t ∧ notices.length ≤ 1 ∧
      t.conditions.accrued = s.conditions.accrued ||| Cond.mediaFault.bit ∧
      (∀ q, q ∈ t.arbiter.read ↔
        q ∈ s.arbiter.read ∧
          ¬ (q.owner = .read c ∧
            ∃ x ∈ e :: newer,
              q.command =
                { kind := .mread, volume := r.volume, segment := r.segment, offset := x.offset,
                  count := x.count })) ∧
      (∀ x ∈ newer, ∀ k command cls owner left, x.mediaTag = some k → u.slot k = .busy command cls owner left →
        t.slot k = .busy command cls none left) ∧
      (∀ k, (∀ x ∈ newer, x.mediaTag ≠ some k) → t.slot k = u.slot k) ∧
      (∀ d, d ≠ c → t.context d = s.context d) ∧
      (kept ≠ [] →
        t.context c = .read { r with list := kept, ending := some .faulted, outcome := outcome } ∧
        s.completesNothing t ∧ t.txQueue = s.txQueue ++ notices) ∧
      (kept = [] →
        t.context c = .free ∧
        s.reports t { initiator := some r.initiator, tag := some r.tag, kind := .readTransfer } outcome ∧
        t.txQueue =
          s.txQueue ++
            [{ replyFrame r.initiator r.tag r.volume .faulted with
                segment := r.segment, offset := r.firstOffset, count := r.delivered }.withPayload
              (wordsBytes [outcome.toNat])] ++ notices) ∧
      t = { u with
        slots := t.slots, arbiter := { u.arbiter with read := t.arbiter.read }, contexts := t.contexts
        conditions := t.conditions, txQueue := t.txQueue })

/-! ### The background -/

/-- A Sweeper visit moves its segment to Expired when it is Closed, due on the present day and not covered, and leaves
any other; the cursor goes to the next segment, the next volume that is not Absent, or the pass ends. A cursor that is
to leave its volume, or whose segment is gone, goes to the next volume that is not Absent, or the pass ends, and
nothing else changes (R18, R24, R128, R129; the step in which it leaves, log 39). -/
def Obligations.SweeperVisits : Prop :=
  (∀ (s : State) (v n : Nat), s.takesEvents = true → s.settled → s.sweeper.state = .passing v n →
    s.clock.state = .running → s.segmentExists v n = true →
    let g := s.segment v n
    let due := g.state = .closed ∧ (∃ e, g.expiry = some e ∧ e ≤ s.clock.value / 86400) ∧ s.covered v n = false
    let x := if n + 1 < (s.volume v).count then SweepState.passing v (n + 1) else s.passFrom v
    (due →
      exec .sweeperVisit s =
        .next
          { s.putSegment v n { g with state := .expired } with
            sweeper := { state := x, passAgain := s.sweeper.passAgain } }) ∧
    (¬ due →
      exec .sweeperVisit s = .next { s with sweeper := { state := x, passAgain := s.sweeper.passAgain } })) ∧
  (∀ (s : State) (v n : Nat), s.takesEvents = true → s.settled → s.clock.state = .running →
    s.sweeper.state = .leaving v ∨ (s.sweeper.state = .passing v n ∧ s.segmentExists v n = false) →
    (∀ u, v < u → 1 ≤ u → u ≤ 4 → (s.volume u).state ≠ .absent →
      (∀ k, v < k → 1 ≤ k → k < u → (s.volume k).state = .absent) →
      exec .sweeperVisit s =
        .next { s with sweeper := { state := .passing u 0, passAgain := s.sweeper.passAgain } }) ∧
    ((∀ u, v < u → 1 ≤ u → u ≤ 4 → (s.volume u).state = .absent) →
      exec .sweeperVisit s = .next { s with sweeper := { state := .idle, passAgain := s.sweeper.passAgain } }))

/-- A walk visit for the head hold passes over a Blank or class 0 segment and one its filter leaves out; otherwise a
Placing hold raises the count and returns Expired to Closed, and a Releasing hold lowers it. The front advances, and
at its end the hold is Active, or its slot Free, and leaves the head of the queue (R19, R120 to R123). Every command
keeps the walk queue at exactly the Placing and Releasing holds, each once (R119), and, while the Map is sound, every
segment's hold count at the number of holds that have raised it and not lowered it again (R124). -/
def Obligations.WalkerVisits : Prop :=
  (∀ (s : State) (k : Nat) (queue : List Nat) (h : Hold), s.takesEvents = true → s.settled →
    s.walkQueue = k :: queue → s.hold k = some h → 1 ≤ k → k ≤ 64 →
    let visited := fun (n : Nat) (f : Segment → Segment) =>
      let g := s.segment h.volume n
      if g.state = .blank ∨ g.cls = some 0 ∨ (h.filter ≠ none ∧ h.filter ≠ g.cls) then s
      else s.putSegment h.volume n (f g)
    let raised := fun g : Segment =>
      { g with holdCount := g.holdCount + 1, state := if g.state = .expired then .closed else g.state }
    let lowered := fun g : Segment => { g with holdCount := g.holdCount - 1 }
    (∀ n, h.phase = .placing n → n < h.last →
      exec .walkerVisit s =
        .next
          { visited n raised with holds := s.holds.setIfInBounds (k - 1) (some { h with phase := .placing (n + 1) }) }) ∧
    (h.phase = .placing h.last →
      exec .walkerVisit s =
        .next
          { visited h.last raised with
            holds := s.holds.setIfInBounds (k - 1) (some { h with phase := .active }), walkQueue := queue }) ∧
    (∀ n m, h.phase = .releasing n m → n + 1 < m →
      exec .walkerVisit s =
        .next
          { visited n lowered with
            holds := s.holds.setIfInBounds (k - 1) (some { h with phase := .releasing (n + 1) m }) }) ∧
    (∀ n, h.phase = .releasing n (n + 1) →
      exec .walkerVisit s =
        .next
          { visited n lowered with holds := s.holds.setIfInBounds (k - 1) none, walkQueue := queue })) ∧
  (∀ (c : Instr) (s t : State), s.walkLawful → exec c s = .next t → t.walkLawful) ∧
  (∀ (c : Instr) (s t : State), s.mapSound → s.walkLawful → s.holdLawful → exec c s = .next t → t.holdLawful)

/-- A scan visit skips a segment that does not exist or is Blank, Open or Erasing, compares a Closed or Expired one with
append point 0 against the fold (1, 0), and begins the read of another; the last segment of an entry leads to the next
entry, that of the last entry to the end (R165 to R167, R170; one visit is made, log 33). An MDATA for the scan is kept;
the arrived entries at the head are folded, each making room for one further piece, and the last one leads to the
comparison: equal folds match, others mark the segment suspect with DIGEST_MISMATCH (R166, R167). With a cancel
requested it is dropped unfolded, and the scan stops when none remains (R164). A failed media read, by any MSTATUS, by
an MDATA of another length or by the timeout, stops the scan with MEDIA_FAULT, its cursor and counts kept (R168; at once
and as cancelled when a cancel was requested, log 31). Past the last segment of the last entry the scan is Done, its
cursor one beyond that segment (log 32). A notice is the step's only frame (log 18); when an MDATA holds exactly the
blocks of an entry, log 38; an answered entry has no media tag, log 21; the frame check state after a response, log 12.
-/
def Obligations.ScanVisits : Prop :=
  (∀ (s : State) (x : Scan) (cur : ScanCursor) (range : ScanRange), s.takesEvents = true → s.settled → s.canonical →
    s.scanActive = some x → x.phase = .running → x.segmentRead = none → x.cancelRequested = false →
    x.cursor = some cur → 1 ≤ cur.entry → x.ranges[cur.entry - 1]? = some range →
    ∃ t more, exec .scanVisit s = .next t ∧ s.visits t x range.volume cur ∧ t.scanQueued = s.scanQueued ∧
      t.rxQueue = s.rxQueue ∧ t.txQueue = s.txQueue ++ more ∧ more.length ≤ 1 ∧ s.sameButScan t) ∧
  (∀ (s : State) (bytes : List Byte) (f : Frame) (x : Scan) (cur : ScanCursor) (range : ScanRange)
    (before after : List ReadEntry) (e : ReadEntry),
    s.answers bytes f 20 → bytesAreMdata bytes = true → s.owned f.tag .scan → s.canonical →
    s.scanActive = some x → x.phase = .running → x.cursor = some cur → 1 ≤ cur.entry →
    x.ranges[cur.entry - 1]? = some range → x.list = before ++ e :: after → e.mediaTag = some f.tag →
    (∀ y ∈ before ++ after, y.mediaTag ≠ some f.tag) → f.holdsBlocks e.count = true →
    s.segmentExists range.volume cur.segment = true →
    let u := s.slotFreed bytes f.tag
    let list := before ++ { e with progress := .arrived, mediaTag := none, data := f.payload } :: after
    (∀ rd heads kept final, x.cancelRequested = false → x.segmentRead = some rd → list = heads ++ kept →
      (∀ h ∈ heads, h.progress = .arrived) → (∀ h, kept.head? = some h → h.progress ≠ .arrived) →
      x.list.getLast? = some final →
      let fold := heads.foldl (fun p h => foldBytes p h.data) (rd.foldA, rd.foldB)
      let fresh := (pieces heads.length (final.offset + final.count) rd.readEnd).map waitingEntry
      (kept ++ fresh ≠ [] →
        exec (.mdata bytes) s =
          .next
            { u with
              scanActive :=
                some { x with segmentRead := some { rd with foldA := fold.1, foldB := fold.2 }, list := kept ++ fresh }
              arbiter :=
                { s.arbiter with
                  verify :=
                    s.arbiter.verify ++
                      fresh.map (fun h =>
                        { command :=
                            { kind := .mread, volume := range.volume, segment := cur.segment, offset := h.offset
                              count := h.count }
                          owner := .scan }) } }) ∧
      (kept ++ fresh = [] →
        ∃ t more, exec (.mdata bytes) s = .next t ∧ s.compares t x range.volume cur fold ∧
          t.txQueue = s.txQueue ++ more ∧ more.length ≤ 1 ∧
          t = { u with
            scanActive := t.scanActive, volumes := t.volumes, conditions := t.conditions, txQueue := t.txQueue })) ∧
    (x.cancelRequested = true → before ++ after ≠ [] →
      exec (.mdata bytes) s = .next { u with scanActive := some { x with list := before ++ after } }) ∧
    (x.cancelRequested = true → before ++ after = [] →
      ∃ t more, exec (.mdata bytes) s = .next t ∧
        t.scanActive =
          some { x with phase := .stopped .cancel, segmentRead := none, list := [], cancelRequested := false } ∧
        s.reports t { initiator := none, tag := none, kind := .scan } x.outcome ∧
        t.conditions.accrued = s.conditions.accrued ∧ t.txQueue = s.txQueue ++ more ∧ more.length ≤ 1 ∧
        t = { u with scanActive := t.scanActive, conditions := t.conditions, txQueue := t.txQueue })) ∧
  (∀ (s u : State) (ev : Instr) (tag : Nat) (timeout : Bool) (x : Scan) (before after : List ReadEntry)
    (e : ReadEntry),
    s.fails ev tag .scan (some e.count) timeout u → s.scanActive = some x → x.list = before ++ e :: after →
    e.mediaTag = some tag → (∀ y ∈ before ++ after, y.mediaTag ≠ some tag) →
    let y : Scan :=
      { x with
        phase := .stopped (if x.cancelRequested then .cancel else .mediaFault), segmentRead := none, list := []
        cancelRequested := false, outcome := x.outcome ||| Cond.mediaFault.bit }
    ∃ t more, exec ev s = .next t ∧ t.scanActive = some y ∧
      t.conditions.accrued = s.conditions.accrued ||| Cond.mediaFault.bit ∧
      s.reports t { initiator := none, tag := none, kind := .scan } y.outcome ∧
      (∀ q, q ∈ t.arbiter.verify ↔ q ∈ s.arbiter.verify ∧ q.owner ≠ .scan) ∧
      (∀ h ∈ before ++ after, ∀ k command cls owner left, h.mediaTag = some k →
        u.slot k = .busy command cls owner left → t.slot k = .busy command cls none left) ∧
      (∀ k, (∀ h ∈ before ++ after, h.mediaTag ≠ some k) → t.slot k = u.slot k) ∧
      t.txQueue = s.txQueue ++ more ∧ more.length ≤ 1 ∧
      t = { u with
        scanActive := t.scanActive, slots := t.slots, arbiter := { u.arbiter with verify := t.arbiter.verify }
        conditions := t.conditions, txQueue := t.txQueue })

/-- The fold of a sequence of words: it starts at (1, 0), and each word w moves A to (A + w) mod M and B to (B + A) mod
M with the new A, M being 4,294,967,291; no word leaves it as it stands. So the fold of a run of words is the fold of
its parts in turn, however they were grouped, and lies below M (R47). The bytes of a run are taken as words of four, the
first byte the most significant (R48). -/
def Obligations.FoldRunsOn : Prop :=
  ((Segment.fresh.foldA, Segment.fresh.foldB) = (1, 0) ∧
    (∀ p : Nat × Nat, foldWords p [] = p) ∧
    (∀ (p : Nat × Nat) (w : Nat) (ws : List Nat),
      foldWords p (w :: ws) =
        foldWords ((p.1 + w) % 4294967291, (p.2 + (p.1 + w) % 4294967291) % 4294967291) ws)) ∧
  (∀ (p : Nat × Nat) (xs ys : List Nat), foldWords p (xs ++ ys) = foldWords (foldWords p xs) ys) ∧
  (∀ (p : Nat × Nat) (xs : List Nat), p.1 < 4294967291 → p.2 < 4294967291 →
    (foldWords p xs).1 < 4294967291 ∧ (foldWords p xs).2 < 4294967291 ∧
      (foldWords p xs).1 = (p.1 + xs.sum) % 4294967291) ∧
  (∀ (p : Nat × Nat) (a b c d : Byte) (bytes : List Byte),
    foldBytes p [] = p ∧
    foldBytes p (a :: b :: c :: d :: bytes) =
      foldBytes (foldWords p [a.toNat * 16777216 + b.toNat * 65536 + c.toNat * 256 + d.toNat]) bytes)

/-! ### What every step keeps -/

/-- While the Clock is Running its value is never earlier than the close high-water mark, the mark never decreases,
and both stay at or below the top stop, whatever command is taken (R29, R31, R38). -/
def Obligations.ClockLawKept : Prop :=
  ∀ (c : Instr) (s t : State), s.clock.lawful → exec c s = .next t → t.clock.lawful ∧ s.clock.mark ≤ t.clock.mark

/-- The receive queue never holds more than 64 frames, nor the transmit queue more than 2,048 (R183, R184). No notice
cause is left between two steps: each step gives its own notice (R178). The erase class never has more than 2 Busy
slots, nor the verify class more than 4 (R145). A command's effect is on everything but the queue of commands (the form
of the block, log 3). -/
def Obligations.BoundsKept : Prop :=
  (∀ (c : Instr) (s t : State), s.bounded → exec c s = .next t → t.bounded) ∧
  (∀ (c : Instr) (s t : State), s.settled → exec c s = .next t → t.settled) ∧
  (∀ (c : Instr) (s t : State), s.limited → exec c s = .next t → t.limited) ∧
  (∀ (c : Instr) (s t : State), exec c s = .next t → t.pending = s.pending)

/-- Every command keeps the Retention Map's tables in their canonical form, which is the model's own choice (log 37).
-/
def Obligations.MapStaysCanonical : Prop :=
  ∀ (c : Instr) (s t : State), s.canonical → exec c s = .next t → t.canonical

/-- No command takes the last Enabled officer from the Initiator Table (R53). -/
def Obligations.OfficerRemains : Prop :=
  ∀ (c : Instr) (s t : State), s.officered → exec c s = .next t → t.officered

/-- No command takes a Defined class away or lowers it: its periods do not fall, the post-trigger period of a
triggered class among them, and permanent and triggered stay (R41, R42). -/
def Obligations.RetentionNeverLowered : Prop :=
  ∀ (c : Instr) (s t : State) (k : Nat) (old : ClassEntry), s.classEntry k = some old → exec c s = .next t →
    let days := fun e : ClassEntry => (e.post.getD { months := 0, days := 0 }).inDays
    ∃ new, t.classEntry k = some new ∧ old.base.inDays ≤ new.base.inDays ∧
      (old.triggered = true → days old ≤ days new) ∧
      (old.permanent = true → new.permanent = true) ∧ (old.triggered = true → new.triggered = true)

/-- A Closed segment that no entry of the erase queue names stays Closed under every command but a Sweeper visit: no
request, frame or answer opens, erases or removes it (R13, R18, R25). -/
def Obligations.ClosedStaysClosed : Prop :=
  ∀ (c : Instr) (s t : State) (v n : Nat), s.canonical → s.segmentExists v n = true →
    (s.segment v n).state = .closed → s.notQueued v n → c ≠ .sweeperVisit → exec c s = .next t →
    (t.segment v n).state = .closed

/-- A segment becomes Erasing only by an ERASE frame, from Expired, with the Clock Running, the day at or past its
expiry and no hold covering it (R20, R69, R131). -/
def Obligations.ErasingOnlyWhenDue : Prop :=
  ∀ (c : Instr) (s t : State) (v n : Nat), s.canonical → exec c s = .next t → (s.segment v n).state ≠ .erasing →
    (t.segment v n).state = .erasing →
    c = .eraseFrame ∧ (s.segment v n).state = .expired ∧ s.clock.state = .running ∧
      (s.segment v n).expiry.getD 0 ≤ s.clock.value / 86400 ∧ s.covered v n = false

/-- The state after reset, a part right after its first power-on (log 1), meets every invariant that the steps keep:
the laws of the Clock (R29), of the queues and slots (R145, R183, R184), of the Initiator Table (R53), of the notice
causes (R178), of the Map in its canonical form (R23; log 37), of the walk queue (R119) and of the hold counts (R124).
-/
def Obligations.ResetMeetsInvariants : Prop :=
  State.reset.settled ∧ State.reset.clock.lawful ∧ State.reset.bounded ∧ State.reset.canonical ∧
    State.reset.officered ∧ State.reset.limited ∧ State.reset.mapSound ∧ State.reset.walkLawful ∧
    State.reset.holdLawful

end Statements
end

