-- ==== Sys2Proof/Laws/State.lean ====
section
/-! SUPPORT. One lemma for each field that an update of the state leaves as it was. -/

namespace Sys2Proof.Machine

section SetVolumeFields

variable (s : State) (v : Nat) (x : Volume)

@[simp] theorem State.setVolume_mainPower : (s.setVolume v x).mainPower = s.mainPower := rfl
@[simp] theorem State.setVolume_backupSupply : (s.setVolume v x).backupSupply = s.backupSupply := rfl
@[simp] theorem State.setVolume_resetHeld : (s.setVolume v x).resetHeld = s.resetHeld := rfl
@[simp] theorem State.setVolume_ingestLink : (s.setVolume v x).ingestLink = s.ingestLink := rfl
@[simp] theorem State.setVolume_mediaLink : (s.setVolume v x).mediaLink = s.mediaLink := rfl
@[simp] theorem State.setVolume_ingestCheck : (s.setVolume v x).ingestCheck = s.ingestCheck := rfl
@[simp] theorem State.setVolume_mediaCheck : (s.setVolume v x).mediaCheck = s.mediaCheck := rfl
@[simp] theorem State.setVolume_ingestOut : (s.setVolume v x).ingestOut = s.ingestOut := rfl
@[simp] theorem State.setVolume_mediaOut : (s.setVolume v x).mediaOut = s.mediaOut := rfl
@[simp] theorem State.setVolume_rxQueue : (s.setVolume v x).rxQueue = s.rxQueue := rfl
@[simp] theorem State.setVolume_txQueue : (s.setVolume v x).txQueue = s.txQueue := rfl
@[simp] theorem State.setVolume_initiators : (s.setVolume v x).initiators = s.initiators := rfl
@[simp] theorem State.setVolume_classes : (s.setVolume v x).classes = s.classes := rfl
@[simp] theorem State.setVolume_clock : (s.setVolume v x).clock = s.clock := rfl
@[simp] theorem State.setVolume_contexts : (s.setVolume v x).contexts = s.contexts := rfl
@[simp] theorem State.setVolume_slots : (s.setVolume v x).slots = s.slots := rfl
@[simp] theorem State.setVolume_arbiter : (s.setVolume v x).arbiter = s.arbiter := rfl
@[simp] theorem State.setVolume_records : (s.setVolume v x).records = s.records := rfl
@[simp] theorem State.setVolume_holds : (s.setVolume v x).holds = s.holds := rfl
@[simp] theorem State.setVolume_walkQueue : (s.setVolume v x).walkQueue = s.walkQueue := rfl
@[simp] theorem State.setVolume_sweeper : (s.setVolume v x).sweeper = s.sweeper := rfl
@[simp] theorem State.setVolume_eraseQueue : (s.setVolume v x).eraseQueue = s.eraseQueue := rfl
@[simp] theorem State.setVolume_scanActive : (s.setVolume v x).scanActive = s.scanActive := rfl
@[simp] theorem State.setVolume_scanQueued : (s.setVolume v x).scanQueued = s.scanQueued := rfl
@[simp] theorem State.setVolume_conditions : (s.setVolume v x).conditions = s.conditions := rfl
@[simp] theorem State.setVolume_collection : (s.setVolume v x).collection = s.collection := rfl
@[simp] theorem State.setVolume_idleTime : (s.setVolume v x).idleTime = s.idleTime := rfl
@[simp] theorem State.setVolume_mediaTimeout : (s.setVolume v x).mediaTimeout = s.mediaTimeout := rfl
@[simp] theorem State.setVolume_pending : (s.setVolume v x).pending = s.pending := rfl

end SetVolumeFields

section PutSegmentFields

variable (s : State) (v n : Nat) (g : Segment)

@[simp] theorem State.putSegment_mainPower : (s.putSegment v n g).mainPower = s.mainPower := rfl
@[simp] theorem State.putSegment_backupSupply : (s.putSegment v n g).backupSupply = s.backupSupply := rfl
@[simp] theorem State.putSegment_resetHeld : (s.putSegment v n g).resetHeld = s.resetHeld := rfl
@[simp] theorem State.putSegment_ingestLink : (s.putSegment v n g).ingestLink = s.ingestLink := rfl
@[simp] theorem State.putSegment_mediaLink : (s.putSegment v n g).mediaLink = s.mediaLink := rfl
@[simp] theorem State.putSegment_ingestCheck : (s.putSegment v n g).ingestCheck = s.ingestCheck := rfl
@[simp] theorem State.putSegment_mediaCheck : (s.putSegment v n g).mediaCheck = s.mediaCheck := rfl
@[simp] theorem State.putSegment_ingestOut : (s.putSegment v n g).ingestOut = s.ingestOut := rfl
@[simp] theorem State.putSegment_mediaOut : (s.putSegment v n g).mediaOut = s.mediaOut := rfl
@[simp] theorem State.putSegment_rxQueue : (s.putSegment v n g).rxQueue = s.rxQueue := rfl
@[simp] theorem State.putSegment_txQueue : (s.putSegment v n g).txQueue = s.txQueue := rfl
@[simp] theorem State.putSegment_initiators : (s.putSegment v n g).initiators = s.initiators := rfl
@[simp] theorem State.putSegment_classes : (s.putSegment v n g).classes = s.classes := rfl
@[simp] theorem State.putSegment_clock : (s.putSegment v n g).clock = s.clock := rfl
@[simp] theorem State.putSegment_contexts : (s.putSegment v n g).contexts = s.contexts := rfl
@[simp] theorem State.putSegment_slots : (s.putSegment v n g).slots = s.slots := rfl
@[simp] theorem State.putSegment_arbiter : (s.putSegment v n g).arbiter = s.arbiter := rfl
@[simp] theorem State.putSegment_records : (s.putSegment v n g).records = s.records := rfl
@[simp] theorem State.putSegment_holds : (s.putSegment v n g).holds = s.holds := rfl
@[simp] theorem State.putSegment_walkQueue : (s.putSegment v n g).walkQueue = s.walkQueue := rfl
@[simp] theorem State.putSegment_sweeper : (s.putSegment v n g).sweeper = s.sweeper := rfl
@[simp] theorem State.putSegment_eraseQueue : (s.putSegment v n g).eraseQueue = s.eraseQueue := rfl
@[simp] theorem State.putSegment_scanActive : (s.putSegment v n g).scanActive = s.scanActive := rfl
@[simp] theorem State.putSegment_scanQueued : (s.putSegment v n g).scanQueued = s.scanQueued := rfl
@[simp] theorem State.putSegment_conditions : (s.putSegment v n g).conditions = s.conditions := rfl
@[simp] theorem State.putSegment_collection : (s.putSegment v n g).collection = s.collection := rfl
@[simp] theorem State.putSegment_idleTime : (s.putSegment v n g).idleTime = s.idleTime := rfl
@[simp] theorem State.putSegment_mediaTimeout : (s.putSegment v n g).mediaTimeout = s.mediaTimeout := rfl
@[simp] theorem State.putSegment_pending : (s.putSegment v n g).pending = s.pending := rfl

end PutSegmentFields

section SetContextFields

variable (s : State) (c : Nat) (x : Context)

@[simp] theorem State.setContext_mainPower : (s.setContext c x).mainPower = s.mainPower := rfl
@[simp] theorem State.setContext_backupSupply : (s.setContext c x).backupSupply = s.backupSupply := rfl
@[simp] theorem State.setContext_resetHeld : (s.setContext c x).resetHeld = s.resetHeld := rfl
@[simp] theorem State.setContext_ingestLink : (s.setContext c x).ingestLink = s.ingestLink := rfl
@[simp] theorem State.setContext_mediaLink : (s.setContext c x).mediaLink = s.mediaLink := rfl
@[simp] theorem State.setContext_ingestCheck : (s.setContext c x).ingestCheck = s.ingestCheck := rfl
@[simp] theorem State.setContext_mediaCheck : (s.setContext c x).mediaCheck = s.mediaCheck := rfl
@[simp] theorem State.setContext_ingestOut : (s.setContext c x).ingestOut = s.ingestOut := rfl
@[simp] theorem State.setContext_mediaOut : (s.setContext c x).mediaOut = s.mediaOut := rfl
@[simp] theorem State.setContext_rxQueue : (s.setContext c x).rxQueue = s.rxQueue := rfl
@[simp] theorem State.setContext_txQueue : (s.setContext c x).txQueue = s.txQueue := rfl
@[simp] theorem State.setContext_initiators : (s.setContext c x).initiators = s.initiators := rfl
@[simp] theorem State.setContext_volumes : (s.setContext c x).volumes = s.volumes := rfl
@[simp] theorem State.setContext_classes : (s.setContext c x).classes = s.classes := rfl
@[simp] theorem State.setContext_clock : (s.setContext c x).clock = s.clock := rfl
@[simp] theorem State.setContext_slots : (s.setContext c x).slots = s.slots := rfl
@[simp] theorem State.setContext_arbiter : (s.setContext c x).arbiter = s.arbiter := rfl
@[simp] theorem State.setContext_records : (s.setContext c x).records = s.records := rfl
@[simp] theorem State.setContext_holds : (s.setContext c x).holds = s.holds := rfl
@[simp] theorem State.setContext_walkQueue : (s.setContext c x).walkQueue = s.walkQueue := rfl
@[simp] theorem State.setContext_sweeper : (s.setContext c x).sweeper = s.sweeper := rfl
@[simp] theorem State.setContext_eraseQueue : (s.setContext c x).eraseQueue = s.eraseQueue := rfl
@[simp] theorem State.setContext_scanActive : (s.setContext c x).scanActive = s.scanActive := rfl
@[simp] theorem State.setContext_scanQueued : (s.setContext c x).scanQueued = s.scanQueued := rfl
@[simp] theorem State.setContext_conditions : (s.setContext c x).conditions = s.conditions := rfl
@[simp] theorem State.setContext_collection : (s.setContext c x).collection = s.collection := rfl
@[simp] theorem State.setContext_idleTime : (s.setContext c x).idleTime = s.idleTime := rfl
@[simp] theorem State.setContext_mediaTimeout : (s.setContext c x).mediaTimeout = s.mediaTimeout := rfl
@[simp] theorem State.setContext_pending : (s.setContext c x).pending = s.pending := rfl

end SetContextFields

section PutWriteFields

variable (s : State) (c : Nat) (w : WriteContext)

@[simp] theorem State.putWrite_mainPower : (s.putWrite c w).mainPower = s.mainPower := rfl
@[simp] theorem State.putWrite_backupSupply : (s.putWrite c w).backupSupply = s.backupSupply := rfl
@[simp] theorem State.putWrite_resetHeld : (s.putWrite c w).resetHeld = s.resetHeld := rfl
@[simp] theorem State.putWrite_ingestLink : (s.putWrite c w).ingestLink = s.ingestLink := rfl
@[simp] theorem State.putWrite_mediaLink : (s.putWrite c w).mediaLink = s.mediaLink := rfl
@[simp] theorem State.putWrite_ingestCheck : (s.putWrite c w).ingestCheck = s.ingestCheck := rfl
@[simp] theorem State.putWrite_mediaCheck : (s.putWrite c w).mediaCheck = s.mediaCheck := rfl
@[simp] theorem State.putWrite_ingestOut : (s.putWrite c w).ingestOut = s.ingestOut := rfl
@[simp] theorem State.putWrite_mediaOut : (s.putWrite c w).mediaOut = s.mediaOut := rfl
@[simp] theorem State.putWrite_rxQueue : (s.putWrite c w).rxQueue = s.rxQueue := rfl
@[simp] theorem State.putWrite_txQueue : (s.putWrite c w).txQueue = s.txQueue := rfl
@[simp] theorem State.putWrite_initiators : (s.putWrite c w).initiators = s.initiators := rfl
@[simp] theorem State.putWrite_volumes : (s.putWrite c w).volumes = s.volumes := rfl
@[simp] theorem State.putWrite_classes : (s.putWrite c w).classes = s.classes := rfl
@[simp] theorem State.putWrite_clock : (s.putWrite c w).clock = s.clock := rfl
@[simp] theorem State.putWrite_slots : (s.putWrite c w).slots = s.slots := rfl
@[simp] theorem State.putWrite_arbiter : (s.putWrite c w).arbiter = s.arbiter := rfl
@[simp] theorem State.putWrite_records : (s.putWrite c w).records = s.records := rfl
@[simp] theorem State.putWrite_holds : (s.putWrite c w).holds = s.holds := rfl
@[simp] theorem State.putWrite_walkQueue : (s.putWrite c w).walkQueue = s.walkQueue := rfl
@[simp] theorem State.putWrite_sweeper : (s.putWrite c w).sweeper = s.sweeper := rfl
@[simp] theorem State.putWrite_eraseQueue : (s.putWrite c w).eraseQueue = s.eraseQueue := rfl
@[simp] theorem State.putWrite_scanActive : (s.putWrite c w).scanActive = s.scanActive := rfl
@[simp] theorem State.putWrite_scanQueued : (s.putWrite c w).scanQueued = s.scanQueued := rfl
@[simp] theorem State.putWrite_conditions : (s.putWrite c w).conditions = s.conditions := rfl
@[simp] theorem State.putWrite_collection : (s.putWrite c w).collection = s.collection := rfl
@[simp] theorem State.putWrite_idleTime : (s.putWrite c w).idleTime = s.idleTime := rfl
@[simp] theorem State.putWrite_mediaTimeout : (s.putWrite c w).mediaTimeout = s.mediaTimeout := rfl
@[simp] theorem State.putWrite_pending : (s.putWrite c w).pending = s.pending := rfl

end PutWriteFields

section SetSlotFields

variable (s : State) (t : Nat) (x : Slot)

@[simp] theorem State.setSlot_mainPower : (s.setSlot t x).mainPower = s.mainPower := rfl
@[simp] theorem State.setSlot_backupSupply : (s.setSlot t x).backupSupply = s.backupSupply := rfl
@[simp] theorem State.setSlot_resetHeld : (s.setSlot t x).resetHeld = s.resetHeld := rfl
@[simp] theorem State.setSlot_ingestLink : (s.setSlot t x).ingestLink = s.ingestLink := rfl
@[simp] theorem State.setSlot_mediaLink : (s.setSlot t x).mediaLink = s.mediaLink := rfl
@[simp] theorem State.setSlot_ingestCheck : (s.setSlot t x).ingestCheck = s.ingestCheck := rfl
@[simp] theorem State.setSlot_mediaCheck : (s.setSlot t x).mediaCheck = s.mediaCheck := rfl
@[simp] theorem State.setSlot_ingestOut : (s.setSlot t x).ingestOut = s.ingestOut := rfl
@[simp] theorem State.setSlot_mediaOut : (s.setSlot t x).mediaOut = s.mediaOut := rfl
@[simp] theorem State.setSlot_rxQueue : (s.setSlot t x).rxQueue = s.rxQueue := rfl
@[simp] theorem State.setSlot_txQueue : (s.setSlot t x).txQueue = s.txQueue := rfl
@[simp] theorem State.setSlot_initiators : (s.setSlot t x).initiators = s.initiators := rfl
@[simp] theorem State.setSlot_volumes : (s.setSlot t x).volumes = s.volumes := rfl
@[simp] theorem State.setSlot_classes : (s.setSlot t x).classes = s.classes := rfl
@[simp] theorem State.setSlot_clock : (s.setSlot t x).clock = s.clock := rfl
@[simp] theorem State.setSlot_contexts : (s.setSlot t x).contexts = s.contexts := rfl
@[simp] theorem State.setSlot_arbiter : (s.setSlot t x).arbiter = s.arbiter := rfl
@[simp] theorem State.setSlot_records : (s.setSlot t x).records = s.records := rfl
@[simp] theorem State.setSlot_holds : (s.setSlot t x).holds = s.holds := rfl
@[simp] theorem State.setSlot_walkQueue : (s.setSlot t x).walkQueue = s.walkQueue := rfl
@[simp] theorem State.setSlot_sweeper : (s.setSlot t x).sweeper = s.sweeper := rfl
@[simp] theorem State.setSlot_eraseQueue : (s.setSlot t x).eraseQueue = s.eraseQueue := rfl
@[simp] theorem State.setSlot_scanActive : (s.setSlot t x).scanActive = s.scanActive := rfl
@[simp] theorem State.setSlot_scanQueued : (s.setSlot t x).scanQueued = s.scanQueued := rfl
@[simp] theorem State.setSlot_conditions : (s.setSlot t x).conditions = s.conditions := rfl
@[simp] theorem State.setSlot_collection : (s.setSlot t x).collection = s.collection := rfl
@[simp] theorem State.setSlot_idleTime : (s.setSlot t x).idleTime = s.idleTime := rfl
@[simp] theorem State.setSlot_mediaTimeout : (s.setSlot t x).mediaTimeout = s.mediaTimeout := rfl
@[simp] theorem State.setSlot_pending : (s.setSlot t x).pending = s.pending := rfl

end SetSlotFields

section SetRecordFields

variable (s : State) (r : Nat) (x : Option FaultRecord)

@[simp] theorem State.setRecord_mainPower : (s.setRecord r x).mainPower = s.mainPower := rfl
@[simp] theorem State.setRecord_backupSupply : (s.setRecord r x).backupSupply = s.backupSupply := rfl
@[simp] theorem State.setRecord_resetHeld : (s.setRecord r x).resetHeld = s.resetHeld := rfl
@[simp] theorem State.setRecord_ingestLink : (s.setRecord r x).ingestLink = s.ingestLink := rfl
@[simp] theorem State.setRecord_mediaLink : (s.setRecord r x).mediaLink = s.mediaLink := rfl
@[simp] theorem State.setRecord_ingestCheck : (s.setRecord r x).ingestCheck = s.ingestCheck := rfl
@[simp] theorem State.setRecord_mediaCheck : (s.setRecord r x).mediaCheck = s.mediaCheck := rfl
@[simp] theorem State.setRecord_ingestOut : (s.setRecord r x).ingestOut = s.ingestOut := rfl
@[simp] theorem State.setRecord_mediaOut : (s.setRecord r x).mediaOut = s.mediaOut := rfl
@[simp] theorem State.setRecord_rxQueue : (s.setRecord r x).rxQueue = s.rxQueue := rfl
@[simp] theorem State.setRecord_txQueue : (s.setRecord r x).txQueue = s.txQueue := rfl
@[simp] theorem State.setRecord_initiators : (s.setRecord r x).initiators = s.initiators := rfl
@[simp] theorem State.setRecord_volumes : (s.setRecord r x).volumes = s.volumes := rfl
@[simp] theorem State.setRecord_classes : (s.setRecord r x).classes = s.classes := rfl
@[simp] theorem State.setRecord_clock : (s.setRecord r x).clock = s.clock := rfl
@[simp] theorem State.setRecord_contexts : (s.setRecord r x).contexts = s.contexts := rfl
@[simp] theorem State.setRecord_slots : (s.setRecord r x).slots = s.slots := rfl
@[simp] theorem State.setRecord_arbiter : (s.setRecord r x).arbiter = s.arbiter := rfl
@[simp] theorem State.setRecord_holds : (s.setRecord r x).holds = s.holds := rfl
@[simp] theorem State.setRecord_walkQueue : (s.setRecord r x).walkQueue = s.walkQueue := rfl
@[simp] theorem State.setRecord_sweeper : (s.setRecord r x).sweeper = s.sweeper := rfl
@[simp] theorem State.setRecord_eraseQueue : (s.setRecord r x).eraseQueue = s.eraseQueue := rfl
@[simp] theorem State.setRecord_scanActive : (s.setRecord r x).scanActive = s.scanActive := rfl
@[simp] theorem State.setRecord_scanQueued : (s.setRecord r x).scanQueued = s.scanQueued := rfl
@[simp] theorem State.setRecord_conditions : (s.setRecord r x).conditions = s.conditions := rfl
@[simp] theorem State.setRecord_collection : (s.setRecord r x).collection = s.collection := rfl
@[simp] theorem State.setRecord_idleTime : (s.setRecord r x).idleTime = s.idleTime := rfl
@[simp] theorem State.setRecord_mediaTimeout : (s.setRecord r x).mediaTimeout = s.mediaTimeout := rfl
@[simp] theorem State.setRecord_pending : (s.setRecord r x).pending = s.pending := rfl

end SetRecordFields

section SetHoldFields

variable (s : State) (h : Nat) (x : Option Hold)

@[simp] theorem State.setHold_mainPower : (s.setHold h x).mainPower = s.mainPower := rfl
@[simp] theorem State.setHold_backupSupply : (s.setHold h x).backupSupply = s.backupSupply := rfl
@[simp] theorem State.setHold_resetHeld : (s.setHold h x).resetHeld = s.resetHeld := rfl
@[simp] theorem State.setHold_ingestLink : (s.setHold h x).ingestLink = s.ingestLink := rfl
@[simp] theorem State.setHold_mediaLink : (s.setHold h x).mediaLink = s.mediaLink := rfl
@[simp] theorem State.setHold_ingestCheck : (s.setHold h x).ingestCheck = s.ingestCheck := rfl
@[simp] theorem State.setHold_mediaCheck : (s.setHold h x).mediaCheck = s.mediaCheck := rfl
@[simp] theorem State.setHold_ingestOut : (s.setHold h x).ingestOut = s.ingestOut := rfl
@[simp] theorem State.setHold_mediaOut : (s.setHold h x).mediaOut = s.mediaOut := rfl
@[simp] theorem State.setHold_rxQueue : (s.setHold h x).rxQueue = s.rxQueue := rfl
@[simp] theorem State.setHold_txQueue : (s.setHold h x).txQueue = s.txQueue := rfl
@[simp] theorem State.setHold_initiators : (s.setHold h x).initiators = s.initiators := rfl
@[simp] theorem State.setHold_volumes : (s.setHold h x).volumes = s.volumes := rfl
@[simp] theorem State.setHold_classes : (s.setHold h x).classes = s.classes := rfl
@[simp] theorem State.setHold_clock : (s.setHold h x).clock = s.clock := rfl
@[simp] theorem State.setHold_contexts : (s.setHold h x).contexts = s.contexts := rfl
@[simp] theorem State.setHold_slots : (s.setHold h x).slots = s.slots := rfl
@[simp] theorem State.setHold_arbiter : (s.setHold h x).arbiter = s.arbiter := rfl
@[simp] theorem State.setHold_records : (s.setHold h x).records = s.records := rfl
@[simp] theorem State.setHold_walkQueue : (s.setHold h x).walkQueue = s.walkQueue := rfl
@[simp] theorem State.setHold_sweeper : (s.setHold h x).sweeper = s.sweeper := rfl
@[simp] theorem State.setHold_eraseQueue : (s.setHold h x).eraseQueue = s.eraseQueue := rfl
@[simp] theorem State.setHold_scanActive : (s.setHold h x).scanActive = s.scanActive := rfl
@[simp] theorem State.setHold_scanQueued : (s.setHold h x).scanQueued = s.scanQueued := rfl
@[simp] theorem State.setHold_conditions : (s.setHold h x).conditions = s.conditions := rfl
@[simp] theorem State.setHold_collection : (s.setHold h x).collection = s.collection := rfl
@[simp] theorem State.setHold_idleTime : (s.setHold h x).idleTime = s.idleTime := rfl
@[simp] theorem State.setHold_mediaTimeout : (s.setHold h x).mediaTimeout = s.mediaTimeout := rfl
@[simp] theorem State.setHold_pending : (s.setHold h x).pending = s.pending := rfl

end SetHoldFields

section EnqueueFields

variable (s : State) (f : Frame)

@[simp] theorem State.enqueue_mainPower : (s.enqueue f).mainPower = s.mainPower := rfl
@[simp] theorem State.enqueue_backupSupply : (s.enqueue f).backupSupply = s.backupSupply := rfl
@[simp] theorem State.enqueue_resetHeld : (s.enqueue f).resetHeld = s.resetHeld := rfl
@[simp] theorem State.enqueue_ingestLink : (s.enqueue f).ingestLink = s.ingestLink := rfl
@[simp] theorem State.enqueue_mediaLink : (s.enqueue f).mediaLink = s.mediaLink := rfl
@[simp] theorem State.enqueue_ingestCheck : (s.enqueue f).ingestCheck = s.ingestCheck := rfl
@[simp] theorem State.enqueue_mediaCheck : (s.enqueue f).mediaCheck = s.mediaCheck := rfl
@[simp] theorem State.enqueue_ingestOut : (s.enqueue f).ingestOut = s.ingestOut := rfl
@[simp] theorem State.enqueue_mediaOut : (s.enqueue f).mediaOut = s.mediaOut := rfl
@[simp] theorem State.enqueue_rxQueue : (s.enqueue f).rxQueue = s.rxQueue := rfl
@[simp] theorem State.enqueue_initiators : (s.enqueue f).initiators = s.initiators := rfl
@[simp] theorem State.enqueue_volumes : (s.enqueue f).volumes = s.volumes := rfl
@[simp] theorem State.enqueue_classes : (s.enqueue f).classes = s.classes := rfl
@[simp] theorem State.enqueue_clock : (s.enqueue f).clock = s.clock := rfl
@[simp] theorem State.enqueue_contexts : (s.enqueue f).contexts = s.contexts := rfl
@[simp] theorem State.enqueue_slots : (s.enqueue f).slots = s.slots := rfl
@[simp] theorem State.enqueue_arbiter : (s.enqueue f).arbiter = s.arbiter := rfl
@[simp] theorem State.enqueue_records : (s.enqueue f).records = s.records := rfl
@[simp] theorem State.enqueue_holds : (s.enqueue f).holds = s.holds := rfl
@[simp] theorem State.enqueue_walkQueue : (s.enqueue f).walkQueue = s.walkQueue := rfl
@[simp] theorem State.enqueue_sweeper : (s.enqueue f).sweeper = s.sweeper := rfl
@[simp] theorem State.enqueue_eraseQueue : (s.enqueue f).eraseQueue = s.eraseQueue := rfl
@[simp] theorem State.enqueue_scanActive : (s.enqueue f).scanActive = s.scanActive := rfl
@[simp] theorem State.enqueue_scanQueued : (s.enqueue f).scanQueued = s.scanQueued := rfl
@[simp] theorem State.enqueue_conditions : (s.enqueue f).conditions = s.conditions := rfl
@[simp] theorem State.enqueue_collection : (s.enqueue f).collection = s.collection := rfl
@[simp] theorem State.enqueue_idleTime : (s.enqueue f).idleTime = s.idleTime := rfl
@[simp] theorem State.enqueue_mediaTimeout : (s.enqueue f).mediaTimeout = s.mediaTimeout := rfl
@[simp] theorem State.enqueue_pending : (s.enqueue f).pending = s.pending := rfl

end EnqueueFields

section AskFields

variable (s : State) (c : MediaClass) (q : List Request)

@[simp] theorem State.ask_mainPower : (s.ask c q).mainPower = s.mainPower := rfl
@[simp] theorem State.ask_backupSupply : (s.ask c q).backupSupply = s.backupSupply := rfl
@[simp] theorem State.ask_resetHeld : (s.ask c q).resetHeld = s.resetHeld := rfl
@[simp] theorem State.ask_ingestLink : (s.ask c q).ingestLink = s.ingestLink := rfl
@[simp] theorem State.ask_mediaLink : (s.ask c q).mediaLink = s.mediaLink := rfl
@[simp] theorem State.ask_ingestCheck : (s.ask c q).ingestCheck = s.ingestCheck := rfl
@[simp] theorem State.ask_mediaCheck : (s.ask c q).mediaCheck = s.mediaCheck := rfl
@[simp] theorem State.ask_ingestOut : (s.ask c q).ingestOut = s.ingestOut := rfl
@[simp] theorem State.ask_mediaOut : (s.ask c q).mediaOut = s.mediaOut := rfl
@[simp] theorem State.ask_rxQueue : (s.ask c q).rxQueue = s.rxQueue := rfl
@[simp] theorem State.ask_txQueue : (s.ask c q).txQueue = s.txQueue := rfl
@[simp] theorem State.ask_initiators : (s.ask c q).initiators = s.initiators := rfl
@[simp] theorem State.ask_volumes : (s.ask c q).volumes = s.volumes := rfl
@[simp] theorem State.ask_classes : (s.ask c q).classes = s.classes := rfl
@[simp] theorem State.ask_clock : (s.ask c q).clock = s.clock := rfl
@[simp] theorem State.ask_contexts : (s.ask c q).contexts = s.contexts := rfl
@[simp] theorem State.ask_slots : (s.ask c q).slots = s.slots := rfl
@[simp] theorem State.ask_records : (s.ask c q).records = s.records := rfl
@[simp] theorem State.ask_holds : (s.ask c q).holds = s.holds := rfl
@[simp] theorem State.ask_walkQueue : (s.ask c q).walkQueue = s.walkQueue := rfl
@[simp] theorem State.ask_sweeper : (s.ask c q).sweeper = s.sweeper := rfl
@[simp] theorem State.ask_eraseQueue : (s.ask c q).eraseQueue = s.eraseQueue := rfl
@[simp] theorem State.ask_scanActive : (s.ask c q).scanActive = s.scanActive := rfl
@[simp] theorem State.ask_scanQueued : (s.ask c q).scanQueued = s.scanQueued := rfl
@[simp] theorem State.ask_conditions : (s.ask c q).conditions = s.conditions := rfl
@[simp] theorem State.ask_collection : (s.ask c q).collection = s.collection := rfl
@[simp] theorem State.ask_idleTime : (s.ask c q).idleTime = s.idleTime := rfl
@[simp] theorem State.ask_mediaTimeout : (s.ask c q).mediaTimeout = s.mediaTimeout := rfl
@[simp] theorem State.ask_pending : (s.ask c q).pending = s.pending := rfl

end AskFields

section WithdrawFields

variable (s : State) (c : MediaClass) (p : Request → Bool)

@[simp] theorem State.withdraw_mainPower : (s.withdraw c p).mainPower = s.mainPower := rfl
@[simp] theorem State.withdraw_backupSupply : (s.withdraw c p).backupSupply = s.backupSupply := rfl
@[simp] theorem State.withdraw_resetHeld : (s.withdraw c p).resetHeld = s.resetHeld := rfl
@[simp] theorem State.withdraw_ingestLink : (s.withdraw c p).ingestLink = s.ingestLink := rfl
@[simp] theorem State.withdraw_mediaLink : (s.withdraw c p).mediaLink = s.mediaLink := rfl
@[simp] theorem State.withdraw_ingestCheck : (s.withdraw c p).ingestCheck = s.ingestCheck := rfl
@[simp] theorem State.withdraw_mediaCheck : (s.withdraw c p).mediaCheck = s.mediaCheck := rfl
@[simp] theorem State.withdraw_ingestOut : (s.withdraw c p).ingestOut = s.ingestOut := rfl
@[simp] theorem State.withdraw_mediaOut : (s.withdraw c p).mediaOut = s.mediaOut := rfl
@[simp] theorem State.withdraw_rxQueue : (s.withdraw c p).rxQueue = s.rxQueue := rfl
@[simp] theorem State.withdraw_txQueue : (s.withdraw c p).txQueue = s.txQueue := rfl
@[simp] theorem State.withdraw_initiators : (s.withdraw c p).initiators = s.initiators := rfl
@[simp] theorem State.withdraw_volumes : (s.withdraw c p).volumes = s.volumes := rfl
@[simp] theorem State.withdraw_classes : (s.withdraw c p).classes = s.classes := rfl
@[simp] theorem State.withdraw_clock : (s.withdraw c p).clock = s.clock := rfl
@[simp] theorem State.withdraw_contexts : (s.withdraw c p).contexts = s.contexts := rfl
@[simp] theorem State.withdraw_slots : (s.withdraw c p).slots = s.slots := rfl
@[simp] theorem State.withdraw_records : (s.withdraw c p).records = s.records := rfl
@[simp] theorem State.withdraw_holds : (s.withdraw c p).holds = s.holds := rfl
@[simp] theorem State.withdraw_walkQueue : (s.withdraw c p).walkQueue = s.walkQueue := rfl
@[simp] theorem State.withdraw_sweeper : (s.withdraw c p).sweeper = s.sweeper := rfl
@[simp] theorem State.withdraw_eraseQueue : (s.withdraw c p).eraseQueue = s.eraseQueue := rfl
@[simp] theorem State.withdraw_scanActive : (s.withdraw c p).scanActive = s.scanActive := rfl
@[simp] theorem State.withdraw_scanQueued : (s.withdraw c p).scanQueued = s.scanQueued := rfl
@[simp] theorem State.withdraw_conditions : (s.withdraw c p).conditions = s.conditions := rfl
@[simp] theorem State.withdraw_collection : (s.withdraw c p).collection = s.collection := rfl
@[simp] theorem State.withdraw_idleTime : (s.withdraw c p).idleTime = s.idleTime := rfl
@[simp] theorem State.withdraw_mediaTimeout : (s.withdraw c p).mediaTimeout = s.mediaTimeout := rfl
@[simp] theorem State.withdraw_pending : (s.withdraw c p).pending = s.pending := rfl

end WithdrawFields

section RaiseFields

variable (s : State) (op : Operation) (c : Cond)

@[simp] theorem State.raise_mainPower : (s.raise op c).mainPower = s.mainPower := rfl
@[simp] theorem State.raise_backupSupply : (s.raise op c).backupSupply = s.backupSupply := rfl
@[simp] theorem State.raise_resetHeld : (s.raise op c).resetHeld = s.resetHeld := rfl
@[simp] theorem State.raise_ingestLink : (s.raise op c).ingestLink = s.ingestLink := rfl
@[simp] theorem State.raise_mediaLink : (s.raise op c).mediaLink = s.mediaLink := rfl
@[simp] theorem State.raise_ingestCheck : (s.raise op c).ingestCheck = s.ingestCheck := rfl
@[simp] theorem State.raise_mediaCheck : (s.raise op c).mediaCheck = s.mediaCheck := rfl
@[simp] theorem State.raise_ingestOut : (s.raise op c).ingestOut = s.ingestOut := rfl
@[simp] theorem State.raise_mediaOut : (s.raise op c).mediaOut = s.mediaOut := rfl
@[simp] theorem State.raise_rxQueue : (s.raise op c).rxQueue = s.rxQueue := rfl
@[simp] theorem State.raise_txQueue : (s.raise op c).txQueue = s.txQueue := rfl
@[simp] theorem State.raise_initiators : (s.raise op c).initiators = s.initiators := rfl
@[simp] theorem State.raise_volumes : (s.raise op c).volumes = s.volumes := rfl
@[simp] theorem State.raise_classes : (s.raise op c).classes = s.classes := rfl
@[simp] theorem State.raise_clock : (s.raise op c).clock = s.clock := rfl
@[simp] theorem State.raise_contexts : (s.raise op c).contexts = s.contexts := rfl
@[simp] theorem State.raise_slots : (s.raise op c).slots = s.slots := rfl
@[simp] theorem State.raise_arbiter : (s.raise op c).arbiter = s.arbiter := rfl
@[simp] theorem State.raise_records : (s.raise op c).records = s.records := rfl
@[simp] theorem State.raise_holds : (s.raise op c).holds = s.holds := rfl
@[simp] theorem State.raise_walkQueue : (s.raise op c).walkQueue = s.walkQueue := rfl
@[simp] theorem State.raise_sweeper : (s.raise op c).sweeper = s.sweeper := rfl
@[simp] theorem State.raise_eraseQueue : (s.raise op c).eraseQueue = s.eraseQueue := rfl
@[simp] theorem State.raise_scanActive : (s.raise op c).scanActive = s.scanActive := rfl
@[simp] theorem State.raise_scanQueued : (s.raise op c).scanQueued = s.scanQueued := rfl
@[simp] theorem State.raise_collection : (s.raise op c).collection = s.collection := rfl
@[simp] theorem State.raise_idleTime : (s.raise op c).idleTime = s.idleTime := rfl
@[simp] theorem State.raise_mediaTimeout : (s.raise op c).mediaTimeout = s.mediaTimeout := rfl
@[simp] theorem State.raise_pending : (s.raise op c).pending = s.pending := rfl

end RaiseFields

section NoteFields

variable (s : State) (c : Cause)

@[simp] theorem State.note_mainPower : (s.note c).mainPower = s.mainPower := rfl
@[simp] theorem State.note_backupSupply : (s.note c).backupSupply = s.backupSupply := rfl
@[simp] theorem State.note_resetHeld : (s.note c).resetHeld = s.resetHeld := rfl
@[simp] theorem State.note_ingestLink : (s.note c).ingestLink = s.ingestLink := rfl
@[simp] theorem State.note_mediaLink : (s.note c).mediaLink = s.mediaLink := rfl
@[simp] theorem State.note_ingestCheck : (s.note c).ingestCheck = s.ingestCheck := rfl
@[simp] theorem State.note_mediaCheck : (s.note c).mediaCheck = s.mediaCheck := rfl
@[simp] theorem State.note_ingestOut : (s.note c).ingestOut = s.ingestOut := rfl
@[simp] theorem State.note_mediaOut : (s.note c).mediaOut = s.mediaOut := rfl
@[simp] theorem State.note_rxQueue : (s.note c).rxQueue = s.rxQueue := rfl
@[simp] theorem State.note_txQueue : (s.note c).txQueue = s.txQueue := rfl
@[simp] theorem State.note_initiators : (s.note c).initiators = s.initiators := rfl
@[simp] theorem State.note_volumes : (s.note c).volumes = s.volumes := rfl
@[simp] theorem State.note_classes : (s.note c).classes = s.classes := rfl
@[simp] theorem State.note_clock : (s.note c).clock = s.clock := rfl
@[simp] theorem State.note_contexts : (s.note c).contexts = s.contexts := rfl
@[simp] theorem State.note_slots : (s.note c).slots = s.slots := rfl
@[simp] theorem State.note_arbiter : (s.note c).arbiter = s.arbiter := rfl
@[simp] theorem State.note_records : (s.note c).records = s.records := rfl
@[simp] theorem State.note_holds : (s.note c).holds = s.holds := rfl
@[simp] theorem State.note_walkQueue : (s.note c).walkQueue = s.walkQueue := rfl
@[simp] theorem State.note_sweeper : (s.note c).sweeper = s.sweeper := rfl
@[simp] theorem State.note_eraseQueue : (s.note c).eraseQueue = s.eraseQueue := rfl
@[simp] theorem State.note_scanActive : (s.note c).scanActive = s.scanActive := rfl
@[simp] theorem State.note_scanQueued : (s.note c).scanQueued = s.scanQueued := rfl
@[simp] theorem State.note_collection : (s.note c).collection = s.collection := rfl
@[simp] theorem State.note_idleTime : (s.note c).idleTime = s.idleTime := rfl
@[simp] theorem State.note_mediaTimeout : (s.note c).mediaTimeout = s.mediaTimeout := rfl
@[simp] theorem State.note_pending : (s.note c).pending = s.pending := rfl

end NoteFields

section PutScanFields

variable (s : State) (x : Scan)

@[simp] theorem State.putScan_mainPower : (s.putScan x).mainPower = s.mainPower := rfl
@[simp] theorem State.putScan_backupSupply : (s.putScan x).backupSupply = s.backupSupply := rfl
@[simp] theorem State.putScan_resetHeld : (s.putScan x).resetHeld = s.resetHeld := rfl
@[simp] theorem State.putScan_ingestLink : (s.putScan x).ingestLink = s.ingestLink := rfl
@[simp] theorem State.putScan_mediaLink : (s.putScan x).mediaLink = s.mediaLink := rfl
@[simp] theorem State.putScan_ingestCheck : (s.putScan x).ingestCheck = s.ingestCheck := rfl
@[simp] theorem State.putScan_mediaCheck : (s.putScan x).mediaCheck = s.mediaCheck := rfl
@[simp] theorem State.putScan_ingestOut : (s.putScan x).ingestOut = s.ingestOut := rfl
@[simp] theorem State.putScan_mediaOut : (s.putScan x).mediaOut = s.mediaOut := rfl
@[simp] theorem State.putScan_rxQueue : (s.putScan x).rxQueue = s.rxQueue := rfl
@[simp] theorem State.putScan_txQueue : (s.putScan x).txQueue = s.txQueue := rfl
@[simp] theorem State.putScan_initiators : (s.putScan x).initiators = s.initiators := rfl
@[simp] theorem State.putScan_volumes : (s.putScan x).volumes = s.volumes := rfl
@[simp] theorem State.putScan_classes : (s.putScan x).classes = s.classes := rfl
@[simp] theorem State.putScan_clock : (s.putScan x).clock = s.clock := rfl
@[simp] theorem State.putScan_contexts : (s.putScan x).contexts = s.contexts := rfl
@[simp] theorem State.putScan_slots : (s.putScan x).slots = s.slots := rfl
@[simp] theorem State.putScan_arbiter : (s.putScan x).arbiter = s.arbiter := rfl
@[simp] theorem State.putScan_records : (s.putScan x).records = s.records := rfl
@[simp] theorem State.putScan_holds : (s.putScan x).holds = s.holds := rfl
@[simp] theorem State.putScan_walkQueue : (s.putScan x).walkQueue = s.walkQueue := rfl
@[simp] theorem State.putScan_sweeper : (s.putScan x).sweeper = s.sweeper := rfl
@[simp] theorem State.putScan_eraseQueue : (s.putScan x).eraseQueue = s.eraseQueue := rfl
@[simp] theorem State.putScan_scanQueued : (s.putScan x).scanQueued = s.scanQueued := rfl
@[simp] theorem State.putScan_conditions : (s.putScan x).conditions = s.conditions := rfl
@[simp] theorem State.putScan_collection : (s.putScan x).collection = s.collection := rfl
@[simp] theorem State.putScan_idleTime : (s.putScan x).idleTime = s.idleTime := rfl
@[simp] theorem State.putScan_mediaTimeout : (s.putScan x).mediaTimeout = s.mediaTimeout := rfl
@[simp] theorem State.putScan_pending : (s.putScan x).pending = s.pending := rfl

end PutScanFields

section RolloverFields

variable (s : State)

@[simp] theorem State.rollover_mainPower : (s.rollover).mainPower = s.mainPower := rfl
@[simp] theorem State.rollover_backupSupply : (s.rollover).backupSupply = s.backupSupply := rfl
@[simp] theorem State.rollover_resetHeld : (s.rollover).resetHeld = s.resetHeld := rfl
@[simp] theorem State.rollover_ingestLink : (s.rollover).ingestLink = s.ingestLink := rfl
@[simp] theorem State.rollover_mediaLink : (s.rollover).mediaLink = s.mediaLink := rfl
@[simp] theorem State.rollover_ingestCheck : (s.rollover).ingestCheck = s.ingestCheck := rfl
@[simp] theorem State.rollover_mediaCheck : (s.rollover).mediaCheck = s.mediaCheck := rfl
@[simp] theorem State.rollover_ingestOut : (s.rollover).ingestOut = s.ingestOut := rfl
@[simp] theorem State.rollover_mediaOut : (s.rollover).mediaOut = s.mediaOut := rfl
@[simp] theorem State.rollover_rxQueue : (s.rollover).rxQueue = s.rxQueue := rfl
@[simp] theorem State.rollover_txQueue : (s.rollover).txQueue = s.txQueue := rfl
@[simp] theorem State.rollover_initiators : (s.rollover).initiators = s.initiators := rfl
@[simp] theorem State.rollover_volumes : (s.rollover).volumes = s.volumes := rfl
@[simp] theorem State.rollover_classes : (s.rollover).classes = s.classes := rfl
@[simp] theorem State.rollover_clock : (s.rollover).clock = s.clock := rfl
@[simp] theorem State.rollover_contexts : (s.rollover).contexts = s.contexts := rfl
@[simp] theorem State.rollover_slots : (s.rollover).slots = s.slots := rfl
@[simp] theorem State.rollover_arbiter : (s.rollover).arbiter = s.arbiter := rfl
@[simp] theorem State.rollover_records : (s.rollover).records = s.records := rfl
@[simp] theorem State.rollover_holds : (s.rollover).holds = s.holds := rfl
@[simp] theorem State.rollover_walkQueue : (s.rollover).walkQueue = s.walkQueue := rfl
@[simp] theorem State.rollover_eraseQueue : (s.rollover).eraseQueue = s.eraseQueue := rfl
@[simp] theorem State.rollover_scanActive : (s.rollover).scanActive = s.scanActive := rfl
@[simp] theorem State.rollover_scanQueued : (s.rollover).scanQueued = s.scanQueued := rfl
@[simp] theorem State.rollover_conditions : (s.rollover).conditions = s.conditions := rfl
@[simp] theorem State.rollover_collection : (s.rollover).collection = s.collection := rfl
@[simp] theorem State.rollover_idleTime : (s.rollover).idleTime = s.idleTime := rfl
@[simp] theorem State.rollover_mediaTimeout : (s.rollover).mediaTimeout = s.mediaTimeout := rfl
@[simp] theorem State.rollover_pending : (s.rollover).pending = s.pending := rfl

end RolloverFields

section SetSweepFields

variable (s : State) (x : SweepState)

@[simp] theorem State.setSweep_mainPower : (s.setSweep x).mainPower = s.mainPower := rfl
@[simp] theorem State.setSweep_backupSupply : (s.setSweep x).backupSupply = s.backupSupply := rfl
@[simp] theorem State.setSweep_resetHeld : (s.setSweep x).resetHeld = s.resetHeld := rfl
@[simp] theorem State.setSweep_ingestLink : (s.setSweep x).ingestLink = s.ingestLink := rfl
@[simp] theorem State.setSweep_mediaLink : (s.setSweep x).mediaLink = s.mediaLink := rfl
@[simp] theorem State.setSweep_ingestCheck : (s.setSweep x).ingestCheck = s.ingestCheck := rfl
@[simp] theorem State.setSweep_mediaCheck : (s.setSweep x).mediaCheck = s.mediaCheck := rfl
@[simp] theorem State.setSweep_ingestOut : (s.setSweep x).ingestOut = s.ingestOut := rfl
@[simp] theorem State.setSweep_mediaOut : (s.setSweep x).mediaOut = s.mediaOut := rfl
@[simp] theorem State.setSweep_rxQueue : (s.setSweep x).rxQueue = s.rxQueue := rfl
@[simp] theorem State.setSweep_txQueue : (s.setSweep x).txQueue = s.txQueue := rfl
@[simp] theorem State.setSweep_initiators : (s.setSweep x).initiators = s.initiators := rfl
@[simp] theorem State.setSweep_volumes : (s.setSweep x).volumes = s.volumes := rfl
@[simp] theorem State.setSweep_classes : (s.setSweep x).classes = s.classes := rfl
@[simp] theorem State.setSweep_clock : (s.setSweep x).clock = s.clock := rfl
@[simp] theorem State.setSweep_contexts : (s.setSweep x).contexts = s.contexts := rfl
@[simp] theorem State.setSweep_slots : (s.setSweep x).slots = s.slots := rfl
@[simp] theorem State.setSweep_arbiter : (s.setSweep x).arbiter = s.arbiter := rfl
@[simp] theorem State.setSweep_records : (s.setSweep x).records = s.records := rfl
@[simp] theorem State.setSweep_holds : (s.setSweep x).holds = s.holds := rfl
@[simp] theorem State.setSweep_walkQueue : (s.setSweep x).walkQueue = s.walkQueue := rfl
@[simp] theorem State.setSweep_eraseQueue : (s.setSweep x).eraseQueue = s.eraseQueue := rfl
@[simp] theorem State.setSweep_scanActive : (s.setSweep x).scanActive = s.scanActive := rfl
@[simp] theorem State.setSweep_scanQueued : (s.setSweep x).scanQueued = s.scanQueued := rfl
@[simp] theorem State.setSweep_conditions : (s.setSweep x).conditions = s.conditions := rfl
@[simp] theorem State.setSweep_collection : (s.setSweep x).collection = s.collection := rfl
@[simp] theorem State.setSweep_idleTime : (s.setSweep x).idleTime = s.idleTime := rfl
@[simp] theorem State.setSweep_mediaTimeout : (s.setSweep x).mediaTimeout = s.mediaTimeout := rfl
@[simp] theorem State.setSweep_pending : (s.setSweep x).pending = s.pending := rfl

end SetSweepFields

section CompleteFields

variable (s : State) (op : Operation) (o : CondSet)

@[simp] theorem State.complete_mainPower : (s.complete op o).mainPower = s.mainPower := by unfold State.complete; split <;> rfl
@[simp] theorem State.complete_backupSupply : (s.complete op o).backupSupply = s.backupSupply := by unfold State.complete; split <;> rfl
@[simp] theorem State.complete_resetHeld : (s.complete op o).resetHeld = s.resetHeld := by unfold State.complete; split <;> rfl
@[simp] theorem State.complete_ingestLink : (s.complete op o).ingestLink = s.ingestLink := by unfold State.complete; split <;> rfl
@[simp] theorem State.complete_mediaLink : (s.complete op o).mediaLink = s.mediaLink := by unfold State.complete; split <;> rfl
@[simp] theorem State.complete_ingestCheck : (s.complete op o).ingestCheck = s.ingestCheck := by unfold State.complete; split <;> rfl
@[simp] theorem State.complete_mediaCheck : (s.complete op o).mediaCheck = s.mediaCheck := by unfold State.complete; split <;> rfl
@[simp] theorem State.complete_ingestOut : (s.complete op o).ingestOut = s.ingestOut := by unfold State.complete; split <;> rfl
@[simp] theorem State.complete_mediaOut : (s.complete op o).mediaOut = s.mediaOut := by unfold State.complete; split <;> rfl
@[simp] theorem State.complete_rxQueue : (s.complete op o).rxQueue = s.rxQueue := by unfold State.complete; split <;> rfl
@[simp] theorem State.complete_txQueue : (s.complete op o).txQueue = s.txQueue := by unfold State.complete; split <;> rfl
@[simp] theorem State.complete_initiators : (s.complete op o).initiators = s.initiators := by unfold State.complete; split <;> rfl
@[simp] theorem State.complete_volumes : (s.complete op o).volumes = s.volumes := by unfold State.complete; split <;> rfl
@[simp] theorem State.complete_classes : (s.complete op o).classes = s.classes := by unfold State.complete; split <;> rfl
@[simp] theorem State.complete_clock : (s.complete op o).clock = s.clock := by unfold State.complete; split <;> rfl
@[simp] theorem State.complete_contexts : (s.complete op o).contexts = s.contexts := by unfold State.complete; split <;> rfl
@[simp] theorem State.complete_slots : (s.complete op o).slots = s.slots := by unfold State.complete; split <;> rfl
@[simp] theorem State.complete_arbiter : (s.complete op o).arbiter = s.arbiter := by unfold State.complete; split <;> rfl
@[simp] theorem State.complete_records : (s.complete op o).records = s.records := by unfold State.complete; split <;> rfl
@[simp] theorem State.complete_holds : (s.complete op o).holds = s.holds := by unfold State.complete; split <;> rfl
@[simp] theorem State.complete_walkQueue : (s.complete op o).walkQueue = s.walkQueue := by unfold State.complete; split <;> rfl
@[simp] theorem State.complete_sweeper : (s.complete op o).sweeper = s.sweeper := by unfold State.complete; split <;> rfl
@[simp] theorem State.complete_eraseQueue : (s.complete op o).eraseQueue = s.eraseQueue := by unfold State.complete; split <;> rfl
@[simp] theorem State.complete_scanActive : (s.complete op o).scanActive = s.scanActive := by unfold State.complete; split <;> rfl
@[simp] theorem State.complete_scanQueued : (s.complete op o).scanQueued = s.scanQueued := by unfold State.complete; split <;> rfl
@[simp] theorem State.complete_collection : (s.complete op o).collection = s.collection := by unfold State.complete; split <;> rfl
@[simp] theorem State.complete_idleTime : (s.complete op o).idleTime = s.idleTime := by unfold State.complete; split <;> rfl
@[simp] theorem State.complete_mediaTimeout : (s.complete op o).mediaTimeout = s.mediaTimeout := by unfold State.complete; split <;> rfl
@[simp] theorem State.complete_pending : (s.complete op o).pending = s.pending := by unfold State.complete; split <;> rfl

end CompleteFields

section SendFields

variable (s : State) (f : Frame)

@[simp] theorem State.send_mainPower : (s.send f).mainPower = s.mainPower := by unfold State.send; split <;> rfl
@[simp] theorem State.send_backupSupply : (s.send f).backupSupply = s.backupSupply := by unfold State.send; split <;> rfl
@[simp] theorem State.send_resetHeld : (s.send f).resetHeld = s.resetHeld := by unfold State.send; split <;> rfl
@[simp] theorem State.send_ingestLink : (s.send f).ingestLink = s.ingestLink := by unfold State.send; split <;> rfl
@[simp] theorem State.send_mediaLink : (s.send f).mediaLink = s.mediaLink := by unfold State.send; split <;> rfl
@[simp] theorem State.send_ingestCheck : (s.send f).ingestCheck = s.ingestCheck := by unfold State.send; split <;> rfl
@[simp] theorem State.send_mediaCheck : (s.send f).mediaCheck = s.mediaCheck := by unfold State.send; split <;> rfl
@[simp] theorem State.send_ingestOut : (s.send f).ingestOut = s.ingestOut := by unfold State.send; split <;> rfl
@[simp] theorem State.send_mediaOut : (s.send f).mediaOut = s.mediaOut := by unfold State.send; split <;> rfl
@[simp] theorem State.send_rxQueue : (s.send f).rxQueue = s.rxQueue := by unfold State.send; split <;> rfl
@[simp] theorem State.send_initiators : (s.send f).initiators = s.initiators := by unfold State.send; split <;> rfl
@[simp] theorem State.send_volumes : (s.send f).volumes = s.volumes := by unfold State.send; split <;> rfl
@[simp] theorem State.send_classes : (s.send f).classes = s.classes := by unfold State.send; split <;> rfl
@[simp] theorem State.send_clock : (s.send f).clock = s.clock := by unfold State.send; split <;> rfl
@[simp] theorem State.send_contexts : (s.send f).contexts = s.contexts := by unfold State.send; split <;> rfl
@[simp] theorem State.send_slots : (s.send f).slots = s.slots := by unfold State.send; split <;> rfl
@[simp] theorem State.send_arbiter : (s.send f).arbiter = s.arbiter := by unfold State.send; split <;> rfl
@[simp] theorem State.send_records : (s.send f).records = s.records := by unfold State.send; split <;> rfl
@[simp] theorem State.send_holds : (s.send f).holds = s.holds := by unfold State.send; split <;> rfl
@[simp] theorem State.send_walkQueue : (s.send f).walkQueue = s.walkQueue := by unfold State.send; split <;> rfl
@[simp] theorem State.send_sweeper : (s.send f).sweeper = s.sweeper := by unfold State.send; split <;> rfl
@[simp] theorem State.send_eraseQueue : (s.send f).eraseQueue = s.eraseQueue := by unfold State.send; split <;> rfl
@[simp] theorem State.send_scanActive : (s.send f).scanActive = s.scanActive := by unfold State.send; split <;> rfl
@[simp] theorem State.send_scanQueued : (s.send f).scanQueued = s.scanQueued := by unfold State.send; split <;> rfl
@[simp] theorem State.send_conditions : (s.send f).conditions = s.conditions := by unfold State.send; split <;> rfl
@[simp] theorem State.send_collection : (s.send f).collection = s.collection := by unfold State.send; split <;> rfl
@[simp] theorem State.send_idleTime : (s.send f).idleTime = s.idleTime := by unfold State.send; split <;> rfl
@[simp] theorem State.send_mediaTimeout : (s.send f).mediaTimeout = s.mediaTimeout := by unfold State.send; split <;> rfl
@[simp] theorem State.send_pending : (s.send f).pending = s.pending := by unfold State.send; split <;> rfl

end SendFields

@[simp] theorem State.setVolume_volumes (s : State) (v : Nat) (x : Volume) :
    (s.setVolume v x).volumes = Table.set1 s.volumes v x := rfl

@[simp] theorem State.setContext_contexts (s : State) (c : Nat) (x : Context) :
    (s.setContext c x).contexts = Table.set s.contexts c x := rfl

@[simp] theorem State.setSlot_slots (s : State) (t : Nat) (x : Slot) :
    (s.setSlot t x).slots = Table.set s.slots t x := rfl

@[simp] theorem State.setRecord_records (s : State) (r : Nat) (x : Option FaultRecord) :
    (s.setRecord r x).records = Table.set1 s.records r x := rfl

@[simp] theorem State.setHold_holds (s : State) (h : Nat) (x : Option Hold) :
    (s.setHold h x).holds = Table.set1 s.holds h x := rfl

@[simp] theorem State.enqueue_txQueue (s : State) (f : Frame) : (s.enqueue f).txQueue = s.txQueue ++ [f] := rfl

@[simp] theorem State.putScan_scanActive (s : State) (x : Scan) : (s.putScan x).scanActive = some x := rfl

@[simp] theorem State.raise_accrued (s : State) (op : Operation) (c : Cond) :
    (s.raise op c).conditions.accrued = s.conditions.accrued ||| c.bit := rfl

@[simp] theorem State.raise_last (s : State) (op : Operation) (c : Cond) :
    (s.raise op c).conditions.last = s.conditions.last := rfl

end Sys2Proof.Machine
end

