-- ==== Sys2Proof/Laws/Maps.lean ====
section
/-! SUPPORT. The laws of the tables: reading after writing, and the canonical form of the sparse table. -/

namespace Sys2Proof.Machine

/-! ### Fixed tables -/

theorem Table.get_set_same {α : Type} {n : Nat} (d : α) (t : Vector α n) (i : Nat) (x : α) (h : i < n) :
    Table.get d (Table.set t i x) i = x := by
  simp [Table.get, Table.set, h]

theorem Table.get_set_other {α : Type} {n : Nat} (d : α) (t : Vector α n) (i j : Nat) (x : α) (h : j ≠ i) :
    Table.get d (Table.set t i x) j = Table.get d t j := by
  have h' : i ≠ j := fun e => h e.symm
  simp [Table.get, Table.set, h']

theorem Table.get1_set1_same {α : Type} {n : Nat} (d : α) (t : Vector α n) (i : Nat) (x : α) (h : 1 ≤ i ∧ i ≤ n) :
    Table.get1 d (Table.set1 t i x) i = x := by
  have h0 : i ≠ 0 := by omega
  simp only [Table.get1, Table.set1, h0, if_false]
  exact Table.get_set_same d t (i - 1) x (by omega)

theorem Table.get1_set1_other {α : Type} {n : Nat} (d : α) (t : Vector α n) (i j : Nat) (x : α) (h : j ≠ i) :
    Table.get1 d (Table.set1 t i x) j = Table.get1 d t j := by
  unfold Table.get1 Table.set1
  split
  · rfl
  · split
    · rfl
    · exact Table.get_set_other d t (i - 1) (j - 1) x (by omega)

theorem State.setVolume_volume_same (s : State) (v : Nat) (x : Volume) (h : 1 ≤ v ∧ v ≤ 4) :
    (s.setVolume v x).volume v = x := Table.get1_set1_same _ _ _ _ h

theorem State.setVolume_volume_other (s : State) (v u : Nat) (x : Volume) (h : u ≠ v) :
    (s.setVolume v x).volume u = s.volume u := Table.get1_set1_other _ _ _ _ _ h

theorem State.setContext_context_same (s : State) (c : Nat) (x : Context) (h : c < 32) :
    (s.setContext c x).context c = x := Table.get_set_same _ _ _ _ h

theorem State.setContext_context_other (s : State) (c d : Nat) (x : Context) (h : d ≠ c) :
    (s.setContext c x).context d = s.context d := Table.get_set_other _ _ _ _ _ h

theorem State.setSlot_slot_same (s : State) (t : Nat) (x : Slot) (h : t < 16) : (s.setSlot t x).slot t = x :=
  Table.get_set_same _ _ _ _ h

theorem State.setSlot_slot_other (s : State) (t u : Nat) (x : Slot) (h : u ≠ t) :
    (s.setSlot t x).slot u = s.slot u := Table.get_set_other _ _ _ _ _ h

/-! ### The sparse table -/

/-- A canonical table above b reads as unlisted below b. -/
theorem Sparse.get_below (d : Segment) (l : List (Nat × Segment)) (b n : Nat) (h : Sparse.wfAbove d b l = true)
    (hn : n < b) : Sparse.get d l n = d := by
  cases l with
  | nil => rfl
  | cons e rest =>
    simp only [Sparse.wfAbove, Bool.and_eq_true, decide_eq_true_eq] at h
    simp only [Sparse.get]
    rw [if_pos (by omega)]

theorem Sparse.wfAbove_weaken (d : Segment) (l : List (Nat × Segment)) (a b : Nat) (hab : a ≤ b)
    (h : Sparse.wfAbove d b l = true) : Sparse.wfAbove d a l = true := by
  cases l with
  | nil => rfl
  | cons e rest =>
    simp only [Sparse.wfAbove, Bool.and_eq_true, decide_eq_true_eq] at h ⊢
    exact ⟨⟨by omega, h.1.2⟩, h.2⟩

/-- Reading the number written gives the value written. -/
theorem Sparse.get_set_same (d : Segment) (l : List (Nat × Segment)) (n : Nat) (x : Segment) (b : Nat)
    (h : Sparse.wfAbove d b l = true) : Sparse.get d (Sparse.set d l n x) n = x := by
  induction l generalizing b with
  | nil =>
    simp only [Sparse.set]
    split
    · rename_i hx; simp [Sparse.get, hx]
    · simp [Sparse.get]
  | cons e rest ih =>
    simp only [Sparse.wfAbove, Bool.and_eq_true, decide_eq_true_eq] at h
    simp only [Sparse.set]
    by_cases h1 : n < e.1
    · rw [if_pos h1]
      split
      · rename_i hx; simp [Sparse.get, h1, hx]
      · simp [Sparse.get]
    · rw [if_neg h1]
      by_cases h2 : n = e.1
      · rw [if_pos h2]
        split
        · rename_i hx
          rw [hx]; exact Sparse.get_below d rest (e.1 + 1) n h.2 (by omega)
        · simp [Sparse.get]
      · rw [if_neg h2]
        simp only [Sparse.get, if_neg h1, if_neg h2]
        exact ih _ h.2

/-- Reading another number gives what it gave before. -/
theorem Sparse.get_set_other (d : Segment) (l : List (Nat × Segment)) (n m : Nat) (x : Segment) (b : Nat)
    (h : Sparse.wfAbove d b l = true) (hm : m ≠ n) : Sparse.get d (Sparse.set d l n x) m = Sparse.get d l m := by
  induction l generalizing b with
  | nil =>
    simp only [Sparse.set]
    split
    · rfl
    · simp [Sparse.get, hm]
  | cons e rest ih =>
    simp only [Sparse.wfAbove, Bool.and_eq_true, decide_eq_true_eq] at h
    simp only [Sparse.set]
    by_cases h1 : n < e.1
    · rw [if_pos h1]
      split
      · rfl
      · simp only [Sparse.get]
        by_cases h3 : m < n
        · rw [if_pos h3, if_pos (by omega)]
        · rw [if_neg h3, if_neg hm]
    · rw [if_neg h1]
      by_cases h2 : n = e.1
      · rw [if_pos h2]
        split
        · simp only [Sparse.get]
          by_cases h3 : m < e.1
          · rw [if_pos h3]; exact Sparse.get_below d rest (e.1 + 1) m h.2 (by omega)
          · rw [if_neg h3, if_neg (by omega)]
        · simp only [Sparse.get, h2]
          by_cases h3 : m < e.1
          · rw [if_pos h3, if_pos h3]
          · rw [if_neg h3, if_neg h3, if_neg (by omega), if_neg (by omega)]
      · rw [if_neg h2]
        simp only [Sparse.get]
        rw [ih _ h.2]

/-- A write keeps the canonical form. -/
theorem Sparse.set_wfAbove (d : Segment) (l : List (Nat × Segment)) (n : Nat) (x : Segment) (b : Nat)
    (hb : b ≤ n) (h : Sparse.wfAbove d b l = true) : Sparse.wfAbove d b (Sparse.set d l n x) = true := by
  induction l generalizing b with
  | nil =>
    simp only [Sparse.set]
    split
    · rfl
    · rename_i hx; simp [Sparse.wfAbove, hb, hx]
  | cons e rest ih =>
    have h' := h
    simp only [Sparse.wfAbove, Bool.and_eq_true, decide_eq_true_eq] at h
    simp only [Sparse.set]
    by_cases h1 : n < e.1
    · rw [if_pos h1]
      split
      · exact h'
      · rename_i hx
        simp only [Sparse.wfAbove, Bool.and_eq_true, decide_eq_true_eq]
        exact ⟨⟨hb, by simp [hx]⟩, ⟨by omega, h.1.2⟩, h.2⟩
    · rw [if_neg h1]
      by_cases h2 : n = e.1
      · rw [if_pos h2]
        split
        · exact Sparse.wfAbove_weaken d rest b (e.1 + 1) (by omega) h.2
        · rename_i hx
          simp only [Sparse.wfAbove, Bool.and_eq_true, decide_eq_true_eq]
          exact ⟨⟨hb, by simp [hx]⟩, by rw [h2]; exact h.2⟩
      · rw [if_neg h2]
        simp only [Sparse.wfAbove, Bool.and_eq_true, decide_eq_true_eq]
        exact ⟨h.1, ih (e.1 + 1) (by omega) h.2⟩

theorem Sparse.set_wf (d : Segment) (l : List (Nat × Segment)) (n : Nat) (x : Segment)
    (h : Sparse.wf d l = true) : Sparse.wf d (Sparse.set d l n x) = true :=
  Sparse.set_wfAbove d l n x 0 (Nat.zero_le n) h

/-- Changing every listed value keeps the canonical form. -/
theorem Sparse.map_wfAbove (d : Segment) (f : Segment → Segment) (l : List (Nat × Segment)) (b : Nat)
    (h : Sparse.wfAbove d b l = true) : Sparse.wfAbove d b (Sparse.map d f l) = true := by
  induction l generalizing b with
  | nil => rfl
  | cons e rest ih =>
    simp only [Sparse.wfAbove, Bool.and_eq_true, decide_eq_true_eq] at h
    have hr := ih (e.1 + 1) h.2
    by_cases hx : f e.2 = d
    · have : Sparse.map d f (e :: rest) = Sparse.map d f rest := by simp [Sparse.map, hx]
      rw [this]; exact Sparse.wfAbove_weaken d _ b (e.1 + 1) (by omega) hr
    · have : Sparse.map d f (e :: rest) = (e.1, f e.2) :: Sparse.map d f rest := by simp [Sparse.map, hx]
      rw [this]
      simp only [Sparse.wfAbove, Bool.and_eq_true, decide_eq_true_eq]
      exact ⟨⟨h.1.1, by simp [hx]⟩, hr⟩

theorem Sparse.map_wf (d : Segment) (f : Segment → Segment) (l : List (Nat × Segment))
    (h : Sparse.wf d l = true) : Sparse.wf d (Sparse.map d f l) = true := Sparse.map_wfAbove d f l 0 h

/-- Reading the table with every listed value changed, for a change that keeps the unlisted value. -/
theorem Sparse.get_map (d : Segment) (f : Segment → Segment) (l : List (Nat × Segment)) (n b : Nat)
    (hd : f d = d) (h : Sparse.wfAbove d b l = true) : Sparse.get d (Sparse.map d f l) n = f (Sparse.get d l n) := by
  induction l generalizing b with
  | nil => simp [Sparse.map, Sparse.get, hd]
  | cons e rest ih =>
    simp only [Sparse.wfAbove, Bool.and_eq_true, decide_eq_true_eq] at h
    have hr := ih (e.1 + 1) h.2
    by_cases hx : f e.2 = d
    · have hm : Sparse.map d f (e :: rest) = Sparse.map d f rest := by simp [Sparse.map, hx]
      rw [hm, hr]
      simp only [Sparse.get]
      by_cases h1 : n < e.1
      · rw [if_pos h1, Sparse.get_below d rest (e.1 + 1) n h.2 (by omega)]
      · rw [if_neg h1]
        by_cases h2 : n = e.1
        · rw [if_pos h2, Sparse.get_below d rest (e.1 + 1) n h.2 (by omega), hd, hx]
        · rw [if_neg h2]
    · have hm : Sparse.map d f (e :: rest) = (e.1, f e.2) :: Sparse.map d f rest := by simp [Sparse.map, hx]
      rw [hm]
      simp only [Sparse.get]
      by_cases h1 : n < e.1
      · rw [if_pos h1, if_pos h1, hd]
      · rw [if_neg h1, if_neg h1]
        by_cases h2 : n = e.1
        · rw [if_pos h2, if_pos h2]
        · rw [if_neg h2, if_neg h2, hr]

/-- The numbers below a bound keep the canonical form. -/
theorem Sparse.below_wfAbove (d : Segment) (l : List (Nat × Segment)) (n b : Nat)
    (h : Sparse.wfAbove d b l = true) : Sparse.wfAbove d b (Sparse.below n l) = true := by
  induction l generalizing b with
  | nil => rfl
  | cons e rest ih =>
    simp only [Sparse.wfAbove, Bool.and_eq_true, decide_eq_true_eq] at h
    have hr := ih (e.1 + 1) h.2
    by_cases hx : e.1 < n
    · have hm : Sparse.below n (e :: rest) = e :: Sparse.below n rest := by simp [Sparse.below, hx]
      rw [hm]
      simp only [Sparse.wfAbove, Bool.and_eq_true, decide_eq_true_eq]
      exact ⟨h.1, hr⟩
    · have hm : Sparse.below n (e :: rest) = Sparse.below n rest := by simp [Sparse.below, hx]
      rw [hm]; exact Sparse.wfAbove_weaken d _ b (e.1 + 1) (by omega) hr

theorem Sparse.below_wf (d : Segment) (l : List (Nat × Segment)) (n : Nat)
    (h : Sparse.wf d l = true) : Sparse.wf d (Sparse.below n l) = true := Sparse.below_wfAbove d l n 0 h

/-! ### The Retention Map -/

/-- A volume that holds a segment is one of the four. -/
theorem State.volume_range (s : State) (v n : Nat) (h : n < (s.volume v).count) : 1 ≤ v ∧ v ≤ 4 := by
  by_cases hv : 1 ≤ v ∧ v ≤ 4
  · exact hv
  · have : s.volume v = Volume.absent := by
      unfold State.volume Table.get1
      split
      · rfl
      · have h4 : ¬ v - 1 < 4 := by omega
        simp [Table.get, h4]
    rw [this] at h
    exact absurd h (Nat.not_lt_zero n)

/-- The volume of a segment written. -/
theorem State.putSegment_volume_same (s : State) (v n : Nat) (g : Segment) (h : n < (s.volume v).count) :
    (s.putSegment v n g).volume v =
      { s.volume v with
        counts := (s.volume v).counts.move (s.segment v n).state g.state
        segments := Sparse.set Segment.fresh (s.volume v).segments n g } := by
  unfold State.putSegment State.volume
  have h' : n < (Table.get1 Volume.absent s.volumes v).count := h
  simp only [h', if_true]
  exact Table.get1_set1_same _ _ _ _ (s.volume_range v n h)

/-- A segment that does not exist is not written (R1). -/
theorem State.putSegment_beyond (s : State) (v n : Nat) (g : Segment) (h : (s.volume v).count ≤ n) :
    s.putSegment v n g = s := by
  unfold State.putSegment
  simp only [Nat.not_lt.mpr h, if_false]

/-- Every other volume is as before. -/
theorem State.putSegment_volume_other (s : State) (v u n : Nat) (g : Segment) (h : u ≠ v) :
    (s.putSegment v n g).volume u = s.volume u := by
  by_cases hn : n < (s.volume v).count
  · unfold State.putSegment State.volume
    have h' : n < (Table.get1 Volume.absent s.volumes v).count := hn
    simp only [h', if_true]
    exact Table.get1_set1_other _ _ _ _ _ h
  · rw [s.putSegment_beyond v n g (Nat.not_lt.mp hn)]

/-- A segment written reads back. -/
theorem State.putSegment_segment_same (s : State) (v n : Nat) (g : Segment) (h : n < (s.volume v).count)
    (hw : Sparse.wf Segment.fresh (s.volume v).segments = true) : (s.putSegment v n g).segment v n = g := by
  rw [State.segment, s.putSegment_volume_same v n g h]
  exact Sparse.get_set_same _ _ _ _ 0 hw

/-- Every other segment of the volume reads as before. -/
theorem State.putSegment_segment_other (s : State) (v n m : Nat) (g : Segment)
    (hw : Sparse.wf Segment.fresh (s.volume v).segments = true) (hm : m ≠ n) :
    (s.putSegment v n g).segment v m = s.segment v m := by
  by_cases hn : n < (s.volume v).count
  · rw [State.segment, s.putSegment_volume_same v n g hn]
    exact Sparse.get_set_other _ _ _ _ _ 0 hw hm
  · rw [s.putSegment_beyond v n g (Nat.not_lt.mp hn)]

/-- A descriptor written keeps every volume in the canonical form. -/
theorem State.putSegment_wf (s : State) (v n u : Nat) (g : Segment)
    (hw : ∀ w, Sparse.wf Segment.fresh (s.volume w).segments = true) :
    Sparse.wf Segment.fresh ((s.putSegment v n g).volume u).segments = true := by
  by_cases hn : n < (s.volume v).count
  · by_cases hu : u = v
    · subst hu
      rw [s.putSegment_volume_same u n g hn]
      exact Sparse.set_wf _ _ _ _ (hw u)
    · rw [State.putSegment_volume_other s v u n g hu]; exact hw u
  · rw [s.putSegment_beyond v n g (Nat.not_lt.mp hn)]; exact hw u

/-- Writing a segment keeps the count of segments and the state of every volume. -/
theorem State.putSegment_count (s : State) (v n u : Nat) (g : Segment) :
    ((s.putSegment v n g).volume u).count = (s.volume u).count ∧
      ((s.putSegment v n g).volume u).state = (s.volume u).state := by
  by_cases hn : n < (s.volume v).count
  · by_cases hu : u = v
    · subst hu
      rw [s.putSegment_volume_same u n g hn]
      exact ⟨rfl, rfl⟩
    · rw [State.putSegment_volume_other s v u n g hu]
      exact ⟨rfl, rfl⟩
  · rw [s.putSegment_beyond v n g (Nat.not_lt.mp hn)]
    exact ⟨rfl, rfl⟩

/-- A transition keeps the sum of the five counts when the state left is counted at least once (R23). -/
theorem StateCounts.move_total (c : StateCounts) (a b : SegmentState) (h : 1 ≤ c.get a) :
    (c.move a b).total = c.total := by
  unfold StateCounts.move
  split
  · rfl
  · rename_i hab
    revert h hab
    cases a <;> cases b <;> simp [StateCounts.get, StateCounts.set, StateCounts.total] <;> omega

end Sys2Proof.Machine
end

