-- ==== Sys2Proof/Laws/Steps.lean ====
section
/-! SUPPORT. What the shared operations can do, said once each: placing a frame, raising a condition, the end of a step,
taking a frame, and carrying out a control request. -/

namespace Sys2Proof.Machine

/-! ### Frames placed in the transmit queue -/

/-- Placing a frame leaves the state or appends that one frame (R184). -/
theorem State.send_cases (s : State) (f : Frame) :
    s.send f = s ∨ (s.txQueue.length < Config.transmitLimit ∧ s.send f = s.enqueue f) := by
  unfold State.send
  split
  · rename_i h
    simp only [State.txRoom, Bool.and_eq_true, decide_eq_true_eq] at h
    exact .inr ⟨h.2, rfl⟩
  · exact .inl rfl

theorem State.sendAnyway_cases (s : State) (f : Frame) :
    s.sendAnyway f = s ∨ (s.txQueue.length < Config.transmitLimit ∧ s.sendAnyway f = s.enqueue f) := by
  unfold State.sendAnyway
  split
  · rename_i h
    simp only [State.txRoom, Bool.and_eq_true, decide_eq_true_eq] at h
    exact .inr ⟨h.2, rfl⟩
  · exact .inl rfl

theorem State.sendNotice_cases (s : State) (f : Frame) :
    s.sendNotice f = s ∨ (s.txQueue.length < Config.transmitLimit ∧ s.sendNotice f = s.enqueue f) := by
  unfold State.sendNotice
  split
  · rename_i h
    simp only [State.txRoom, Bool.and_eq_true, decide_eq_true_eq] at h
    exact .inr ⟨h.2, rfl⟩
  · exact .inl rfl

/-- A frame is placed when the link is Ready, its receiver is not Absent and there is room (R184). -/
theorem State.send_placed (s : State) (f : Frame) (h1 : s.ingestLink = .ready)
    (h2 : (s.initiator f.initiator).state ≠ .absent) (h3 : s.txQueue.length < Config.transmitLimit) :
    s.send f = { s with txQueue := s.txQueue ++ [f] } := by
  simp [State.send, State.present, State.txRoom, State.enqueue, h1, h2, h3]

/-! ### The end of a step -/

theorem State.endStep_quiet (s : State) (h : s.conditions.causes = []) : s.endStep = s := by
  simp [State.endStep, h]

/-- After the end of a step no notice cause waits (R178). -/
theorem State.endStep_causes (s : State) : s.endStep.conditions.causes = [] := by
  unfold State.endStep
  split
  · assumption
  · rcases State.sendNotice_cases _ s.conditions.noticeFrame with h | ⟨-, h⟩
    · rw [h]
    · rw [h]; rfl

/-- What the end of a step can do: at most one NOTICE joins the transmit queue, the notice number may move, and no
cause waits (R178, R179, R184). -/
theorem State.endStep_eq (s : State) :
    ∃ (q : List Frame) (n : Nat),
      s.endStep =
        { s with txQueue := s.txQueue ++ q, conditions := { s.conditions with noticeNumber := n, causes := [] } } ∧
      q.length ≤ 1 ∧ ∀ x ∈ q, x.kind = 10 := by
  unfold State.endStep
  split
  · rename_i h
    exact ⟨[], s.conditions.noticeNumber, by rw [← h, List.append_nil], by simp, by simp⟩
  · unfold State.sendNotice
    split
    · exact ⟨[s.conditions.noticeFrame], _, rfl, by simp, by simp [Conditions.noticeFrame, Frame.withPayload, Frame.blank]⟩
    · exact ⟨[], _, by rw [List.append_nil], by simp, by simp⟩

theorem onEvent_on (s : State) (f : State → State) (ht : s.takesEvents = true) : onEvent s f = (f s).endStep := by
  simp [onEvent, ht]

theorem onEvent_causes (s : State) (f : State → State) (h : s.conditions.causes = []) :
    (onEvent s f).conditions.causes = [] := by
  unfold onEvent
  split
  · exact State.endStep_causes _
  · exact h

theorem onEvent_quiet (s : State) (f : State → State) (ht : s.takesEvents = true)
    (h : (f s).conditions.causes = []) : onEvent s f = f s := by
  simp [onEvent, ht, State.endStep_quiet _ h]

/-- An engine without power, or held in reset, takes no event (R34, R182). -/
theorem onEvent_off (s : State) (f : State → State) (ht : s.takesEvents = false) : onEvent s f = s := by
  simp [onEvent, ht]

/-! ### Frames taken from the receive queue -/

/-- The head frame is taken and acts on the state without it (R183). -/
theorem takeFrame_taken (pick : RxFrame → Bool) (act : RxFrame → State → State) (s : State) (x : RxFrame)
    (rest : List RxFrame) (hq : s.rxQueue = x :: rest) (hp : pick x = true)
    (hl : s.txQueue.length < Config.intakeLimit) : takeFrame pick act s = act x { s with rxQueue := rest } := by
  simp [takeFrame, hq, hp, hl]

/-- A frame of another kind, an empty queue, or a transmit queue at its intake limit: nothing is taken (R183, R184). -/
theorem takeFrame_left (pick : RxFrame → Bool) (act : RxFrame → State → State) (s : State)
    (h : (∀ x rest, s.rxQueue = x :: rest → pick x = false) ∨ Config.intakeLimit ≤ s.txQueue.length) :
    takeFrame pick act s = s := by
  unfold takeFrame
  split
  · rename_i x rest hq
    rw [if_neg]
    rcases h with h | h
    · simp [h x rest hq]
    · simp; intro _; exact h
  · rfl

/-- The event of a frame of a kind, for the frame that waits. -/
theorem frameEvent_taken (kind : Nat) (act : Frame → State → State) (s : State) (f : Frame) (rest : List RxFrame)
    (h : s.awaits f rest) (hk : f.kind = kind) (hq : (act f (s.taken rest)).conditions.causes = []) :
    frameEvent kind act s = act f (s.taken rest) := by
  obtain ⟨h1, -, h3, h4, h5⟩ := h
  have ht : takeFrame (isKind kind) (onFrame act) s = act f (s.taken rest) :=
    takeFrame_taken _ _ s _ rest h3 (by simp [isKind, h5, hk]) h4
  unfold frameEvent
  rw [onEvent_quiet s _ h1 (by rw [ht]; exact hq), ht]

/-- The event of a control request with a number, for the frame that waits. -/
theorem requestEvent_taken (request : Nat) (act : Frame → State → State) (s : State) (f : Frame)
    (rest : List RxFrame) (h : s.awaits f rest) (hk : f.kind = 6) (hc : f.code = request)
    (hq : (act f (s.taken rest)).conditions.causes = []) :
    requestEvent request act s = act f (s.taken rest) := by
  obtain ⟨h1, -, h3, h4, h5⟩ := h
  have ht : takeFrame (isRequest request) (onFrame act) s = act f (s.taken rest) :=
    takeFrame_taken _ _ s _ rest h3 (by simp [isRequest, h5, hk, hc]) h4
  unfold requestEvent
  rw [onEvent_quiet s _ h1 (by rw [ht]; exact hq), ht]

/-- The event of a frame of a kind, for the frame that waits, with the notice of its causes. -/
theorem frameEvent_full (kind : Nat) (act : Frame → State → State) (s : State) (f : Frame) (rest : List RxFrame)
    (h : s.awaits f rest) (hk : f.kind = kind) : frameEvent kind act s = (act f (s.taken rest)).endStep := by
  obtain ⟨h1, -, h3, h4, h5⟩ := h
  unfold frameEvent
  rw [onEvent_on s _ h1, takeFrame_taken _ _ s _ rest h3 (by simp [isKind, h5, hk]) h4]
  rfl

/-- The event of a control request, for the frame that waits, with the notice of its causes. -/
theorem requestEvent_full (request : Nat) (act : Frame → State → State) (s : State) (f : Frame)
    (rest : List RxFrame) (h : s.awaits f rest) (hk : f.kind = 6) (hc : f.code = request) :
    requestEvent request act s = (act f (s.taken rest)).endStep := by
  obtain ⟨h1, -, h3, h4, h5⟩ := h
  unfold requestEvent
  rw [onEvent_on s _ h1, takeFrame_taken _ _ s _ rest h3 (by simp [isRequest, h5, hk, hc]) h4]
  rfl

/-- A request of an Enabled officer with a free tag passes check 1 and the tag part of check 9 (R58, R70). -/
theorem judgeControl_passes (s : State) (f : Frame) (named real : Option Nat)
    (h1 : (s.initiator f.initiator).state = .enabled) (h2 : (s.initiator f.initiator).officer = true)
    (h3 : s.tagLive f.initiator f.tag = false) : judgeControl s f named real = none := by
  simp [judgeControl, firstDenial, deny, check1, checkTag, refuseWhen, h1, h2, h3]

/-- A control request that passes Admission is carried out by its own rule, with the notice of its causes. -/
theorem controlEvent_full (request : Nat) (act : Frame → State → State) (s : State) (f : Frame)
    (rest : List RxFrame) (h : s.officerAsks f rest request) :
    controlEvent request act s = (act f (s.taken rest)).endStep := by
  obtain ⟨h1, h2, h3, -, h5, h6, h7⟩ := h
  have hj : judgeControl (s.taken rest) f none none = none := judgeControl_passes _ f none none h5 h6 h7
  unfold controlEvent
  rw [requestEvent_full request _ s f rest h1 h2 h3]
  simp [hj]

/-- A control request that passes Admission is carried out by its own rule. -/
theorem controlEvent_taken (request : Nat) (act : Frame → State → State) (s : State) (f : Frame)
    (rest : List RxFrame) (h : s.officerAsks f rest request)
    (hq : (act f (s.taken rest)).conditions.causes = []) :
    controlEvent request act s = act f (s.taken rest) := by
  obtain ⟨h1, h2, h3, -, h5, h6, h7⟩ := h
  have hj : judgeControl (s.taken rest) f none none = none := judgeControl_passes _ f none none h5 h6 h7
  unfold controlEvent
  rw [requestEvent_taken request _ s f rest h1 h2 h3]
  · simp [hj]
  · simpa [hj] using hq

/-- A write-type control request that passes Admission is carried out by its own rule on its real segment. -/
theorem writeControlEvent_taken (request n : Nat) (act : Frame → Nat → State → State) (s : State) (f : Frame)
    (rest : List RxFrame) (h : s.segmentAsked f rest request n)
    (hq : (act f n (s.taken rest)).conditions.causes = []) :
    writeControlEvent request act s = act f n (s.taken rest) := by
  obtain ⟨⟨h1, h2, h3, -, h5, h6, h7⟩, hn, c2, c4, c5, c6⟩ := h
  have hj : judgeWriteControl (s.taken rest) f (f.param 0) (f.param 1) = none := by
    have c1 : check1 (s.initiator f.initiator) (.control f.code) = none := by simp [check1, h5, h6, refuseWhen]
    have c4' : checkSegmentRange s (f.param 0) n = none := by simp [checkSegmentRange, refuseWhen, c4]
    have c9 : checkTag s f.initiator f.tag = none := by simp [checkTag, refuseWhen, h7]
    have e : ((s.taken rest).initiator f.initiator).relocate (f.param 0) (f.param 1) = n := hn.symm
    have r1 : check1 ((s.taken rest).initiator f.initiator) (.control f.code) = none := c1
    have r2 : check2 (s.taken rest) ((s.taken rest).initiator f.initiator) (f.param 0) = none := c2
    have r4 : checkSegmentRange (s.taken rest) (f.param 0) n = none := c4'
    have r5 : check5 (s.taken rest) ((s.taken rest).initiator f.initiator) (f.param 0) n = none := c5
    have r6 : check6 (s.taken rest) ((s.taken rest).initiator f.initiator) (f.param 0) n = none := c6
    have r9 : checkTag (s.taken rest) f.initiator f.tag = none := c9
    simp only [judgeWriteControl, e, r1, r2, r4, r5, r6, r9]
    rfl
  unfold writeControlEvent
  rw [requestEvent_taken request _ s f rest h1 h2 h3]
  · simp only [hj]
    show act f ((s.initiator f.initiator).relocate (f.param 0) (f.param 1)) (s.taken rest) = _
    rw [← hn]
  · simp only [hj]
    show (act f ((s.initiator f.initiator).relocate (f.param 0) (f.param 1)) (s.taken rest)).conditions.causes = []
    rw [← hn]; exact hq

/-- A reply to a present sender on a Ready link joins the transmit queue. -/
theorem answerControl_answered (s : State) (f : Frame) (rest : List RxFrame) (status : Status) (words : List Nat)
    (h1 : s.ingestLink = .ready) (h2 : (s.initiator f.initiator).state = .enabled)
    (h3 : s.txQueue.length < Config.intakeLimit) :
    answerControl f status words (s.taken rest) = s.answered rest (f.reply status words) := by
  have hl : Config.intakeLimit ≤ Config.transmitLimit := by decide
  exact State.send_placed (s.taken rest) _ h1 (by show (s.initiator f.initiator).state ≠ .absent; simp [h2])
    (Nat.lt_of_lt_of_le h3 hl)

/-- A refusal to a present sender on a Ready link joins the transmit queue. -/
theorem refuseControl_answered (s : State) (f : Frame) (rest : List RxFrame) (code : Code) (segment : Option Nat)
    (h1 : s.ingestLink = .ready) (h2 : (s.initiator f.initiator).state = .enabled)
    (h3 : s.txQueue.length < Config.intakeLimit) :
    refuseControl f code segment (s.taken rest) = s.answered rest (f.refusal code segment) := by
  have hl : Config.intakeLimit ≤ Config.transmitLimit := by decide
  exact State.send_placed (s.taken rest) _ h1 (by show (s.initiator f.initiator).state ≠ .absent; simp [h2])
    (Nat.lt_of_lt_of_le h3 hl)

/-! ### The state after reset -/

theorem State.reset_canonical : State.reset.canonical := by
  intro v
  unfold State.volume Table.get1
  split
  · rfl
  · have : ∀ i, Table.get Volume.absent State.reset.volumes i = Volume.absent := by
      intro i
      by_cases h : i < 4
      · simp [Table.get, State.reset, h]
      · simp [Table.get, State.reset, h]
    rw [this]; rfl

end Sys2Proof.Machine
end

