-- ==== Sys2Proof/Tests/Slice0.lean ====
section
/-! SUPPORT. Tests: the checks on operands, numbers the manual works out, a few single commands, and for each statement
with premises a state and operands that meet them. -/

set_option Elab.async false

namespace Sys2Proof.Tests

open Sys2Proof Sys2Proof.Machine

/-! ### Small states -/

/-- The engine after reset with both links Ready. -/
def live : State := { State.reset with ingestLink := .ready, mediaLink := .ready }

/-- The Clock set Running at a time. -/
def clockAt (v : Nat) (s : State) : State :=
  { s with clock := { value := v, state := .running, backupValid := true, mark := 0 } }

/-- Volume 1 Online with 20 segments, those of a list not fresh. -/
def disk (segments : List (Nat × Segment)) : Volume :=
  { Volume.absent with
    state := .online, count := 20, counts := { Volume.absent.counts with blank := 20 }, zones := [Zone.fresh],
    segments := segments }

/-- Day 100 of a part with volume 1 and two classes of its own: 5, of ten days, and 6, of ten days from a trigger. -/
def withDisk (segments : List (Nat × Segment)) : State :=
  (clockAt (100 * 86400 + 50)
    { live with
      classes :=
        ((live.classes.setIfInBounds 5
            (some { ClassEntry.start with base := { months := 0, days := 10 } })).setIfInBounds 6
          (some { ClassEntry.start with post := some { months := 0, days := 10 }, triggered := true })) }).setVolume 1
    (disk segments)

/-- The state with a frame waiting. -/
def asked (f : Frame) (s : State) : State := { s with rxQueue := [.whole f] }

/-- A control request of initiator 0 with tag 0. -/
def request (code : Nat) (words : List Nat) : Frame :=
  { Frame.blank 6 0 0 0 with code := code }.withPayload (wordsBytes words)

/-- A control request that waits. -/
def asking (code : Nat) (words : List Nat) (s : State) : State := asked (request code words) s

/-- An Open segment of class 5. -/
def openSeg : Segment :=
  { Segment.fresh with state := .opened, cls := some 5, key := some 0, generation := 3, appendPoint := 100 }

/-- A Closed segment of class 5 that is due on day 100. -/
def closedSeg : Segment := { openSeg with state := .closed, closeTime := some (89 * 86400), expiry := some 100 }

/-- An Expired segment. -/
def expiredSeg : Segment := { closedSeg with state := .expired }

/-- An Erasing segment. -/
def erasingSeg : Segment := { closedSeg with state := .erasing }

/-- A write context of initiator 0 with tag 7, Streaming on segment 8 of volume 1. -/
def writer : WriteContext :=
  { state := .streaming, initiator := 0, tag := 7, volume := 1, current := 8, next := none, received := 0,
    remaining := 8, forwardSegment := 8, forwardOffset := 100, confirmedOffset := 100, pending := [], credit := 3,
    closeFlag := none, outcome := 0#18, idle := some 30, startSegment := 8, startOffset := 100, fatal := none,
    silent := false, removed := false }

/-- A pending write of one block at offset 100 of segment 8, sent with media tag 2. -/
def sentWrite : PendingWrite :=
  { segment := 8, offset := 100, count := 1, mediaTag := some 2, confirmed := false, data := [] }

/-- A read context of initiator 0 with tag 8 on segment 8 of volume 1, its one entry sent with media tag 2. -/
def reader : ReadContext :=
  { initiator := 0, tag := 8, volume := 1, segment := 8, requested := 1, firstOffset := 0, served := 1,
    list := [{ offset := 0, count := 1, mediaTag := some 2, progress := .sent, data := [] }], delivered := 0,
    ending := none, outcome := 0#18 }

/-- The Active scan of volume 1 from segment 8, Running. -/
def scanning : Scan :=
  { phase := .running, ranges := [{ volume := 1, first := 8, count := 2 }], scanThrough := true,
    cursor := some { entry := 1, segment := 8 }, examined := 0, mismatched := 0, skipped := 0, segmentRead := none,
    list := [], cancelRequested := false, outcome := 0#18 }

/-- A media read of the scan, sent with media tag 2. -/
def sentRead : ReadEntry := { offset := 0, count := 8, mediaTag := some 2, progress := .sent, data := [] }

/-- An entry of the erase queue for segment 8 of volume 1, sent with media tag 2, its requester waiting. -/
def sentErase : EraseEntry :=
  { volume := 1, segment := 8, requester := some (0, 9), mediaTag := some 2, progress := .sent }

/-- A hold on the segments 8 to 9 of volume 1. -/
def holding (phase : HoldPhase) : Hold :=
  { phase := phase, reference := 77, volume := 1, first := 8, last := 9, filter := none, placed := 0 }

/-- A settled fault record of context 3. -/
def settledRecord : FaultRecord :=
  { state := .held, settled := true, context := 3, initiator := 0, tag := 7,
    place := some { volume := 1, segment := 8, offset := 100 }, kind := .writeFault,
    writes := [{ segment := 8, offset := 100, count := 1, needsReissue := true, data := [] }],
    continuation := .resumeStreaming, reissues := 2, created := 0, resumer := none }

/-- An MSTATUS with a tag and a status. -/
def mstatusFrame (tag status : Nat) : Frame := { Frame.blank 19 0 tag 0 with status := status }

/-- A number outside 1 to 4 names no volume. -/
theorem volume_outside (s : State) (v : Nat) (h : ¬ (1 ≤ v ∧ v ≤ 4)) : s.volume v = Volume.absent := by
  unfold State.volume Table.get1
  split
  · rfl
  · have h4 : ¬ v - 1 < 4 := by omega
    simp [Table.get, h4]

/-- A state is canonical when its four volumes are. -/
theorem canonical_of (s : State) (h : ∀ i : Fin 4, Sparse.wf Segment.fresh (s.volume (i.val + 1)).segments = true) :
    s.canonical := by
  intro v
  by_cases hv : 1 ≤ v ∧ v ≤ 4
  · have := h ⟨v - 1, by omega⟩
    simpa [Nat.sub_add_cancel hv.1] using this
  · rw [volume_outside s v hv]
    rfl

/-- No record is a context's when none of the four slots holds one. -/
theorem records_of (s : State) (c : Nat) (h : ∀ i : Fin 4, (s.record (i.val + 1)).map FaultRecord.context ≠ some c) :
    ∀ k x, s.record k = some x → x.context ≠ c := by
  intro k x hk hx
  by_cases hv : 1 ≤ k ∧ k ≤ 4
  · refine h ⟨k - 1, by omega⟩ ?_
    show (s.record (k - 1 + 1)).map FaultRecord.context = some c
    rw [Nat.sub_add_cancel hv.1, hk, Option.map_some, hx]
  · have : s.record k = none := by
      unfold State.record Table.get1
      split
      · rfl
      · have h4 : ¬ k - 1 < 4 := by omega
        simp [Table.get, h4]
    rw [this] at hk
    cases hk

/-- What holds of a Free context and of each of the 32 holds of the context of every number. -/
theorem each_context (s : State) (p : Context → Bool) (hf : p .free = true)
    (h : ∀ i : Fin 32, p (s.context i.val) = true) (k : Nat) : p (s.context k) = true := by
  by_cases hk : k < 32
  · exact h ⟨k, hk⟩
  · have : s.context k = .free := by simp [State.context, Table.get, hk]
    rw [this, hf]

/-- No context is a write context when none of the 32 is. -/
theorem no_write (s : State) (h : ∀ i : Fin 32, (match s.context i.val with
    | .write _ => true
    | .read _ => false
    | .free => false) = false) (k : Nat) (w : WriteContext) : s.context k ≠ .write w := by
  intro he
  have := each_context s (fun x => !(match x with
    | .write _ => true
    | .read _ => false
    | .free => false)) rfl (fun i => by rw [h i]; rfl) k
  rw [he] at this
  exact Bool.noConfusion this

/-- No context has an outcome. -/
def Context.unmarked : Context → Bool
  | .write w => decide (w.outcome = 0#18)
  | .read r => decide (r.outcome = 0#18)
  | .free => true

/-- When none of the 32 contexts has an outcome, no write and no read has one. -/
theorem no_outcome (s : State) (h : ∀ i : Fin 32, Context.unmarked (s.context i.val) = true) :
    (∀ c w, s.context c = .write w → w.outcome = 0#18) ∧ ∀ c r, s.context c = .read r → r.outcome = 0#18 := by
  have key := each_context s Context.unmarked rfl h
  constructor <;> intro c x hx <;> have := key c <;> rw [hx] at this <;> simpa [Context.unmarked] using this

/-! ### Operands -/

theorem test_slot_range : Instr.wellFormed (.mediaTimeout 15) = true ∧ Instr.wellFormed (.mediaTimeout 16) = false := by
  decide

theorem test_context_range :
    Instr.wellFormed (.transferIdle 31) = true ∧ Instr.wellFormed (.transferIdle 32) = false := by decide

theorem test_response_rows :
    Instr.wellFormed (.mstatus [20#8]) = false ∧ Instr.wellFormed (.mstatus [19#8]) = true ∧
      Instr.wellFormed (.mdata [19#8]) = false ∧ Instr.wellFormed (.mdata [20#8]) = true := by decide

theorem test_no_table_word : decodeTableWord 8 1 = none ∧ live.withFetchWord 8 1 = live := ⟨rfl, rfl⟩

/-! ### Numbers the manual works out -/

/-- R188: the check word of the nine bytes of "123456789" is 3,808,858,755. -/
theorem test_check_word : checkWord [49#8, 50#8, 51#8, 52#8, 53#8, 54#8, 55#8, 56#8, 57#8] = 3808858755 := by
  decide +kernel

/-- Section 2.6: the words 5 and 7 fold to (13, 19), 7 and 5 to (13, 21), and 4,294,967,295 alone to (5, 5). -/
theorem test_folds :
    foldWords (1, 0) [5, 7] = (13, 19) ∧ foldWords (1, 0) [7, 5] = (13, 21) ∧
      foldWords (1, 0) [4294967295] = (5, 5) := by decide

/-- Section 2.3: the periods of the manual's table, and the greatest. -/
theorem test_periods :
    Period.inDays { months := 12, days := 0 } = 366 ∧ Period.inDays { months := 60, days := 0 } = 1827 ∧
      Period.inDays { months := 72, days := 0 } = 2192 ∧ Period.inDays { months := 84, days := 0 } = 2557 ∧
      Period.inDays { months := 1199, days := 4095 } = 40590 := by decide

/-- Section 2.5: a close on day 20,101 in a class of 84 months expires on day 22,659; one on day 1,010,000 in the longest
period saturates to Permanent. -/
theorem test_expiry :
    ClassEntry.expiry { ClassEntry.start with base := { months := 84, days := 0 } } 20101 none = some 22659 ∧
      ClassEntry.expiry { ClassEntry.start with base := { months := 1199, days := 4095 } } 1010000 none =
        some 1048575 := by decide

/-- Section 2.5: the triggered class of 60 and 72 months, triggered on day 21,000, expires on day 23,193. -/
theorem test_triggered_expiry :
    ClassEntry.expiry
        { ClassEntry.start with
          base := { months := 60, days := 0 }, post := some { months := 72, days := 0 }, triggered := true }
        20101 (some 21000) = some 23193 := by decide

/-- The header of the start reply worked in section 10.3: 28 bytes with the check word. -/
theorem test_start_reply :
    (startFrame { Frame.blank 1 6 40 1 with cls := 12, segment := 1000, count := 20 } 1000 100 false).wire.take 16 =
        [7#8, 6#8, 40#8, 4#8, 1#8, 0#8, 1#8, 0#8, 3#8, 232#8, 0#8, 100#8, 0#8, 3#8, 0#8, 8#8] ∧
      (startFrame { Frame.blank 1 6 40 1 with cls := 12, segment := 1000, count := 20 } 1000 100 false).wire.length =
        28 := by decide +kernel

/-! ### Single commands -/

/-- A field of the state after a command. -/
def after {α : Type} (c : Instr) (s : State) (field : State → α) : Option α :=
  match exec c s with
  | .next t => some (field t)
  | .fault _ => none
  | .refused _ => none

/-- A part whose first power-on comes is the part after reset. -/
theorem test_power_on :
    after .powerOn { State.reset with mainPower := false, conditions := State.reset.conditions.restart } id =
      some State.reset := by decide +kernel

/-- Section 11.4: +1,000 seconds at 23,192:86,000 gives 23,193:600 and one rollover. -/
theorem test_adjust_clock :
    after .adjustClock (asking 12 [1000] { clockAt (23192 * 86400 + 86000) live with
        sweeper := { state := .idle, passAgain := false } })
      (fun t => (t.clock.value, t.sweeper.passAgain)) = some (23193 * 86400 + 600, true) := by decide +kernel

/-- Section 11.4: −900 seconds at 23,193:700 gives 23,192:86,200 and no rollover. -/
theorem test_adjust_clock_back :
    after .adjustClock (asking 12 [4294966396] { clockAt (23193 * 86400 + 700) live with
        sweeper := { state := .idle, passAgain := false } })
      (fun t => (t.clock.value, t.sweeper.passAgain)) = some (23192 * 86400 + 86200, false) := by decide +kernel

/-- Section 11.4: the MERASE answered OK gives a Blank segment, its generation one higher. -/
theorem test_erase_done :
    after (.mstatus (mstatusFrame 2 16).wire)
      { withDisk [(8, erasingSeg)] with
        eraseQueue := [sentErase]
        slots := live.slots.setIfInBounds 2 (.busy (eraseCommand 1 8) .erase (some .erase) 5) }
      (fun t => ((t.segment 1 8).state, (t.segment 1 8).generation, (t.txQueue.map Frame.status))) =
      some (.blank, 4, [1]) := by decide +kernel

/-- Section 11.3: a Sweeper visit to a Closed segment whose expiry has come makes it Expired. -/
theorem test_sweep_expires :
    after .sweeperVisit
      { withDisk [(8, closedSeg)] with sweeper := { state := .passing 1 8, passAgain := false } }
      (fun t => ((t.segment 1 8).state, t.sweeper.state)) = some (.expired, .passing 1 9) := by decide +kernel

/-- Section 11.3: a placing visit to an Expired segment returns it to Closed with count 1. -/
theorem test_walk_raises :
    after .walkerVisit
      { withDisk [(8, expiredSeg)] with
        holds := live.holds.setIfInBounds 0 (some (holding (.placing 8))), walkQueue := [1] }
      (fun t => ((t.segment 1 8).state, (t.segment 1 8).holdCount)) = some (.closed, 1) := by decide +kernel

/-- Section 11.2: a failed write with none in flight settles its record at once and is answered FAULTED. -/
theorem test_write_fault :
    after (.mstatus (mstatusFrame 2 18).wire)
      { (withDisk [(8, openSeg)]).setContext 3 (.write { writer with pending := [sentWrite] }) with
        slots := live.slots.setIfInBounds 2
          (.busy (writer.command sentWrite) .write (some (.write 3)) 5) }
      (fun t => ((t.record 1).map FaultRecord.settled, (t.segment 1 8).faultPending, t.txQueue.map Frame.status)) =
      some (some true, true, [3, 0]) := by decide +kernel

/-- Section 11.5: a scan visit to an Open segment skips it. -/
theorem test_scan_skips :
    after .scanVisit { withDisk [(8, openSeg)] with scanActive := some scanning }
      (fun t => t.scanActive.map Scan.skipped) = some (some 1) := by decide +kernel

/-! ### Premises of the statements -/

theorem witness_StepTakesFrontCommand : ({ live with pending := [.clockTick, .sweep] } : State).pending = [.clockTick, .sweep] ∧
    State.reset.pending = [] := ⟨rfl, rfl⟩

/-- A command that answers a next state, as every statement on what each step keeps asks. -/
theorem witness_BoundsKept_queue : ∃ t, exec .clockTick (withDisk []) = .next t := ⟨_, rfl⟩

theorem witness_EngineOffTakesNoEvent :
    ({ live with mainPower := false } : State).takesEvents = false ∧
      ({ live with resetHeld := true } : State).takesEvents = false ∧ Instr.sweep ≠ .powerOn ∧
      Instr.sweep ≠ .resetLine ∧ Instr.sweep ≠ .resetLineHeld ∧ Instr.sweep ≠ .mainPowerLoss ∧
      Instr.sweep ≠ .backupSupplyLoss ∧ Instr.sweep ≠ .clockTick := by decide

theorem witness_EngineOffTakesNoEvent_tick :
    (let s : State := { clockAt (Config.topStop - 1) live with mainPower := false }
     s.takesEvents = false ∧ s.clock.state = .running ∧ s.clock.value < Config.topStop) ∧
    (let s : State := { clockAt Config.topStop live with resetHeld := true }
     s.takesEvents = false ∧ Config.topStop ≤ s.clock.value) ∧
    (let s : State := { live with mainPower := false }
     s.takesEvents = false ∧ s.clock.state = .unset) := by decide

theorem withDisk_canonical : (withDisk [(8, openSeg), (9, closedSeg)]).canonical := canonical_of _ (by decide +kernel)

theorem witness_EngineStartsUp :
    live.mainPower = true ∧ (asking 22 [] live).officerAsks (request 22 []) [] 22 := by decide +kernel

theorem witness_StartUpSetsRight :
    (∃ t, exec .powerOn (withDisk [(8, openSeg), (9, closedSeg)]) = .next t) ∧
      (∃ t, exec .resetLine (withDisk [(8, openSeg), (9, closedSeg)]) = .next t) ∧
      (withDisk [(8, openSeg), (9, closedSeg)]).mainPower = true ∧
      (withDisk [(8, openSeg), (9, closedSeg)]).canonical := ⟨⟨_, rfl⟩, ⟨_, rfl⟩, rfl, withDisk_canonical⟩

theorem witness_StartUpSetsRight_restart :
    (asking 22 [] (withDisk [(8, { openSeg with faultPending := true }), (9, erasingSeg)])).officerAsks (request 22 [])
        [] 22 ∧
      (asking 22 [] (withDisk [(8, { openSeg with faultPending := true }), (9, erasingSeg)])).canonical :=
  ⟨by decide +kernel, canonical_of _ (by decide +kernel)⟩

theorem witness_LinesAndSupplies :
    (withDisk [(8, openSeg), (9, closedSeg)]).mainPower = true ∧ (withDisk [(8, openSeg), (9, closedSeg)]).canonical ∧
      ({ live with mainPower := false } : State).mainPower = false ∧
      ({ withDisk [] with backupSupply := false } : State).mainPower = true := ⟨rfl, withDisk_canonical, rfl, rfl⟩

/-- R34: a backup supply lost before main power takes the Clock with it when main power goes. -/
theorem test_backup_then_main :
    after .mainPowerLoss { withDisk [] with backupSupply := false }
      (fun t => (t.clock.state, t.clock.value, t.clock.backupValid)) = some (.unset, 0, false) := by decide +kernel

theorem witness_ClockTickCounts :
    (let s := clockAt (Config.topStop - 1) live
     s.takesEvents = true ∧ s.settled ∧ s.clock.state = .running ∧ s.clock.value < Config.topStop) ∧
    (let s := clockAt Config.topStop live
     s.takesEvents = true ∧ s.clock.state = .running ∧ s.clock.value = Config.topStop ∧ s.settled ∧
       s.conditions.enables.has .clock = false) ∧
    (let s : State :=
      { clockAt Config.topStop live with conditions := { live.conditions with accrued := 0#18, enables := 31#5 } }
     s.takesEvents = true ∧ s.clock.state = .running ∧ s.clock.value = Config.topStop ∧ s.settled ∧
       s.conditions.accrued.groupSet .clock = false ∧ s.conditions.enables.has .clock = true ∧
       s.present s.conditions.noticeInitiator = true ∧ s.txQueue.length < 2048) ∧
    (let s : State :=
      { (live.setContext 3 (.write writer)) with
        slots := live.slots.setIfInBounds 2 (.busy (eraseCommand 1 8) .erase none 0) }
     s.takesEvents = true ∧ s.clock.state = .unset ∧ s.slot 2 = .busy (eraseCommand 1 8) .erase none 0 ∧
       s.context 3 = .write writer) := by
  refine ⟨⟨rfl, rfl, rfl, by decide⟩, ⟨rfl, rfl, rfl, rfl, by decide +kernel⟩,
    ⟨rfl, rfl, rfl, rfl, by decide +kernel, by decide +kernel, by decide +kernel, by decide⟩, ⟨rfl, rfl, rfl, rfl⟩⟩

/-- Slots and contexts that a second leaves alone. -/
theorem witness_ClockTickCounts_kept :
    let s : State := { (live.setContext 3 (.read reader)) with slots := live.slots.setIfInBounds 15 .busyLate }
    s.takesEvents = true ∧ s.slot 0 = .free ∧ s.slot 15 = .busyLate ∧ s.context 3 = .read reader ∧
      s.context 0 = .free := ⟨rfl, rfl, rfl, rfl, rfl⟩

theorem witness_SetClockByRow :
    ((asking 11 [0, 0] (withDisk [])).officerAsks (request 11 [0, 0]) [] 11 ∧
      (withDisk []).clock.state = .running) ∧
    ((asking 11 [1048576, 0] live).officerAsks (request 11 [1048576, 0]) [] 11 ∧ live.clock.state = .unset ∧
      1048575 < (request 11 [1048576, 0]).param 0) ∧
    ((asking 11 [0, 86400] live).officerAsks (request 11 [0, 86400]) [] 11 ∧
      86399 < (request 11 [0, 86400]).param 1) := by decide +kernel

theorem witness_SetClockByRow_taken :
    (let f := request 11 [1048574, 86399]
     (asked f live).officerAsks f [] 11 ∧ f.param 0 ≤ 1048575 ∧ f.param 1 ≤ 86399 ∧
       max live.clock.mark (min (f.param 0 * 86400 + f.param 1) Config.topStop) = f.param 0 * 86400 + f.param 1) ∧
    (let f := request 11 [1048575, 0]
     (asked f live).officerAsks f [] 11 ∧ f.param 0 ≤ 1048575 ∧ f.param 1 ≤ 86399 ∧
       max live.clock.mark (min (f.param 0 * 86400 + f.param 1) Config.topStop) ≠ f.param 0 * 86400 + f.param 1) := by
  decide +kernel

theorem witness_AdjustClockLimits :
    ((asking 12 [0] live).officerAsks (request 12 [0]) [] 12 ∧ live.clock.state = .unset) ∧
    (let f := request 12 [86400]
     let s := asked f (withDisk [])
     let asked := signedWord (f.param 0)
     let limited := max (-86400) (min 86400 asked)
     let sum := (s.clock.value : Int) + limited
     s.officerAsks f [] 12 ∧ s.clock.state = .running ∧
       ¬ (limited ≠ asked ∨ ((max (s.clock.mark : Int) (min (Config.topStop : Int) sum)).toNat : Int) ≠ sum)) ∧
    (let f := request 12 [4294880895]
     let s := asked f (withDisk [])
     let asked := signedWord (f.param 0)
     let limited := max (-86400) (min 86400 asked)
     s.officerAsks f [] 12 ∧ s.clock.state = .running ∧ limited ≠ asked) := by decide +kernel

theorem witness_PeriodsAndExpiry :
    ClassEntry.start.permanent = false ∧ ClassEntry.start.triggered = false ∧
      ({ ClassEntry.start with permanent := true } : ClassEntry).permanent = true ∧
    (let e := { ClassEntry.start with post := some { months := 0, days := 1 }, triggered := true }
     e.permanent = false ∧ e.triggered = true ∧ e.post = some { months := 0, days := 1 }) ∧
    openSeg.cls = some 5 ∧ (withDisk []).classEntry 5 ≠ none := by decide +kernel

theorem witness_FramesReadBack :
    (let f := { Frame.blank 255 255 255 255 with segment := 65535, offset := 65535, count := 65535 }
     f.kind < 256 ∧ f.initiator < 256 ∧ f.tag < 256 ∧ f.flags < 256 ∧ f.volume < 256 ∧ f.cls < 256 ∧ f.status < 256 ∧
       f.code < 256 ∧ f.segment < 65536 ∧ f.offset < 65536 ∧ f.count < 65536 ∧ f.payloadLength < 65536) ∧
      ∀ w ∈ [0, 4294967295], w < 4294967296 := by decide

theorem witness_IngestLinkCarriesFrames :
    (live.takesEvents = true ∧ live.settled ∧ live.ingestLink = .ready ∧ live.rxQueue.length < 64 ∧
      checkPasses (request 13 []).wire = true ∧ checkPasses [1#8] = false) ∧
    (State.reset.takesEvents = true ∧ State.reset.settled ∧ State.reset.ingestLink = .lost) ∧
    64 ≤ ({ live with rxQueue := List.replicate 64 .cutShort } : State).rxQueue.length ∧
    ({ live with txQueue := [request 13 []] } : State).txQueue = request 13 [] :: [] := by
  refine ⟨⟨rfl, rfl, rfl, by decide, by decide +kernel, by decide +kernel⟩, ⟨rfl, rfl, rfl⟩, by decide, rfl⟩

/-- Contexts of every kind: 0 and 1 Streaming, without and with a pending write, 2 Faulted, 3 a read. -/
def busyContexts : State :=
  ((((withDisk [(8, openSeg)]).setContext 0 (.write writer)).setContext 1
    (.write { writer with pending := [sentWrite], state := .draining })).setContext 2
    (.write { writer with state := .faulted })).setContext 3 (.read reader)

theorem witness_IngestLinkLoss :
    busyContexts.takesEvents = true ∧ busyContexts.settled ∧ busyContexts.ingestLink = .ready ∧
      busyContexts.context 0 = .write writer ∧
      busyContexts.context 1 = .write { writer with pending := [sentWrite], state := .draining } ∧
      busyContexts.context 2 = .write { writer with state := .faulted } ∧ busyContexts.context 3 = .read reader :=
  ⟨rfl, rfl, rfl, rfl, rfl, rfl, rfl⟩

/-- No transfer that the loss ends has an outcome; the read's one entry is sent in a Busy slot. -/
theorem witness_IngestLinkLoss_quiet :
    (let s : State :=
      { busyContexts with slots := live.slots.setIfInBounds 2 (.busy (eraseCommand 1 8) .read (some (.read 3)) 5) }
     s.takesEvents = true ∧ s.settled ∧ s.ingestLink = .ready ∧ s.context 3 = .read reader ∧
       s.slot 2 = .busy (eraseCommand 1 8) .read (some (.read 3)) 5 ∧ (∃ e ∈ reader.list, e.mediaTag = some 2)) ∧
    (∀ c w, busyContexts.context c = .write w → w.outcome = 0#18) ∧
      ∀ c r, busyContexts.context c = .read r → r.outcome = 0#18 :=
  ⟨⟨rfl, rfl, rfl, rfl, rfl, _, List.mem_cons_self, rfl⟩, no_outcome busyContexts (by decide +kernel)⟩

/-- The contexts of every kind and an Aborting one. -/
def losing : State := busyContexts.setContext 4 (.write { writer with state := .aborting, pending := [sentWrite] })

theorem witness_IngestLinkLoss_map :
    losing.context 4 = .write { writer with state := .aborting, pending := [sentWrite] } ∧
      losing.takesEvents = true ∧ losing.ingestLink = .ready ∧ losing.canonical ∧
      (∃ t, exec .ingestLinkReset losing = .next t) ∧ writer.pending = [] ∧
      losing.segmentExists writer.volume writer.startSegment = true :=
  ⟨rfl, rfl, rfl, canonical_of _ (by decide +kernel), ⟨_, rfl⟩, rfl, by decide +kernel⟩

theorem witness_MediaLinkLoss :
    ({ busyContexts with scanActive := some scanning } : State).takesEvents = true ∧
      ({ busyContexts with scanActive := some scanning } : State).mediaLink = .ready ∧
      ({ busyContexts with scanActive := some scanning } : State).scanActive = some scanning ∧
      scanning.phase = .running := ⟨rfl, rfl, rfl, rfl⟩

/-- A Streaming context with a write sent, an erase sent, and four slots of fault records. -/
def mediaLosing (records : Vector (Option FaultRecord) 4) : State :=
  { (withDisk [(8, openSeg), (9, erasingSeg)]).setContext 3 (.write { writer with pending := [sentWrite] }) with
    eraseQueue := [{ sentErase with segment := 9 }]
    records := records }

theorem witness_MediaLinkLoss_faults :
    ∀ rs ∈ [Vector.replicate 4 none, Vector.replicate 4 (some { settledRecord with context := 0 })],
      (mediaLosing rs).takesEvents = true ∧ (mediaLosing rs).mediaLink = .ready ∧ (mediaLosing rs).canonical ∧
        (∃ t, exec .mediaLinkReset (mediaLosing rs) = .next t) ∧ (mediaLosing rs).segmentExists 1 9 = true ∧
        ((mediaLosing rs).segment 1 9).state = .erasing ∧ (∃ e ∈ [sentWrite], e.mediaTag ≠ none) ∧
        (∀ k x, (mediaLosing rs).record k = some x → x.context ≠ 3) ∧ (mediaLosing rs).segmentExists 1 8 = true := by
  intro rs h
  simp only [List.mem_cons, List.not_mem_nil, or_false] at h
  rcases h with rfl | rfl <;>
    exact ⟨rfl, rfl, canonical_of _ (by decide +kernel), ⟨_, rfl⟩, by decide +kernel, by decide +kernel, by decide,
      records_of _ _ (by decide +kernel), by decide +kernel⟩

/-- A write that waits in segment 8, and an entry of a read list that waits. -/
def idleWrite : PendingWrite := { sentWrite with mediaTag := none }

/-- A context of each kind that a loss of the Media Link meets: Faulted with record 4, Reissuing with record 3, Aborting
with and without an older write, and reads with and without an older entry. -/
def mediaEnding : State :=
  { ((((((withDisk [(8, openSeg)]).setContext 3
        (.write { writer with state := .faulted, pending := [sentWrite] })).setContext 4
        (.write { writer with state := .reissuing, pending := [idleWrite, sentWrite] })).setContext 5
        (.write { writer with state := .aborting, pending := [sentWrite], fatal := some .overrun })).setContext 6
        (.write { writer with state := .aborting, pending := [idleWrite, sentWrite] })).setContext 7
        (.read reader)).setContext 8 (.read { reader with list := waitingEntry (0, 1) :: reader.list }) with
    records :=
      (live.records.setIfInBounds 3 (some { settledRecord with settled := false, reissues := 0 })).setIfInBounds 2
        (some { settledRecord with state := .reissuing, context := 4, resumer := some (0, 9) }) }

theorem witness_MediaLinkLoss_ends :
    (mediaEnding.takesEvents = true ∧ mediaEnding.mediaLink = .ready ∧ mediaEnding.canonical ∧
      (∃ t, exec .mediaLinkReset mediaEnding = .next t) ∧ mediaEnding.txQueue.length + 32 ≤ 2048) ∧
    (mediaEnding.context 3 = .write { writer with state := .faulted, pending := [sentWrite] } ∧
      mediaEnding.recordOf 3 = some 4 ∧ mediaEnding.recordOf 4 = some 3 ∧ mediaEnding.segmentExists 1 8 = true ∧
      mediaEnding.hears writer ∧ (∃ e ∈ [sentWrite], e.mediaTag ≠ none) ∧ ∀ e ∈ [idleWrite], e.mediaTag = none) ∧
    (mediaEnding.context 7 = .read reader ∧ (∃ e ∈ reader.list, e.progress = .sent) ∧
      (mediaEnding.initiator 0).state ≠ .absent) :=
  ⟨⟨rfl, rfl, canonical_of _ (by decide +kernel), ⟨_, rfl⟩, by decide⟩,
    ⟨rfl, by decide +kernel, by decide +kernel, by decide +kernel, by decide +kernel, by decide, by decide⟩,
    rfl, by decide, by decide +kernel⟩

/-- R90, R106, R149 and R154: what a loss of the Media Link leaves of each. -/
theorem test_media_link_ends :
    after .mediaLinkReset mediaEnding
      (fun t => ([4, 3].map (fun r => (t.record r).map FaultRecord.kind), t.txQueue.map Frame.tag,
        t.txQueue.map Frame.status)) =
      some ([some .writeFault, some .linkReset], [7, 9, 7, 8, 0], [3, 3, 4, 3, 0]) := by decide +kernel

/-- A BEGIN, READ or ERASE of initiator 0 with tag 1. -/
def bus (kind segment count cls flags : Nat) : Frame :=
  { Frame.blank kind 0 1 1 with segment := segment, count := count, cls := cls, flags := flags }

theorem witness_RefusalsChangeNothing :
    ((asked (bus 1 20 1 5 0) (withDisk [])).awaits (bus 1 20 1 5 0) [] ∧
      judgeBegin (asked (bus 1 20 1 5 0) (withDisk [])) (bus 1 20 1 5 0) =
        some { code := .outOfRange, check := 4, segment := some 20 }) ∧
    ((asked (bus 4 8 1 0 0) (withDisk [])).awaits (bus 4 8 1 0 0) [] ∧
      judgeRead (asked (bus 4 8 1 0 0) (withDisk [])) (bus 4 8 1 0 0) =
        some { code := .stateDenied, check := 7, segment := some 8 }) ∧
    ((asked (bus 5 8 0 0 0) (withDisk [])).awaits (bus 5 8 0 0 0) [] ∧
      judgeErase (asked (bus 5 8 0 0 0) (withDisk [])) (bus 5 8 0 0 0) =
        some { code := .notDisposer, check := 1, segment := some 8 }) ∧
    (let f := Frame.blank 8 0 1 1
     (asked f live).takesEvents = true ∧ (asked f live).conditions.causes = [] ∧
       (asked f live).rxQueue = .whole f :: [] ∧ (asked f live).txQueue.length < 1024 ∧ f.goodForm = false) := by
  decide +kernel

/-- The part whose initiator 0 is also a disposer. -/
def disposing (g : Segment) : State :=
  { withDisk [(8, g)] with
    initiators := live.initiators.setIfInBounds 0 { InitiatorEntry.first with disposer := true } }

theorem witness_RefusalsChangeNothing_rows :
    (∀ f ∈ [bus 1 8 1 5 0, bus 1 20 1 5 0, { bus 1 8 1 0 0 with offset := 16383 }, bus 1 8 16384 63 1],
      check1 ((withDisk [(8, openSeg)]).initiator f.initiator) .beginTransfer = none) ∧
    (∀ f ∈ [bus 4 8 64 0 0, { bus 4 7 1 0 0 with offset := 16383 }],
      check1 ((withDisk [(8, openSeg)]).initiator f.initiator) .readTransfer = none) ∧
    (∀ g ∈ [closedSeg, expiredSeg, { expiredSeg with expiry := some 101 }],
      check1 ((disposing g).initiator 0) .eraseSegment = none) ∧
    (∀ code ∈ [8, 9, 10], check1 ((withDisk [(8, openSeg)]).initiator 0) (.control code) = none) := by decide +kernel

/-- A control request whose tag an erase holds, from an officer with a staging window. -/
def tagTaken (code : Nat) (words : List Nat) : State :=
  { asking code words (withDisk []) with
    eraseQueue := [{ sentErase with requester := some (0, 0) }]
    initiators := live.initiators.setIfInBounds 0
      { InitiatorEntry.first with window := some { volume := 1, base := 16 } } }

theorem witness_RefusalsChangeNothing_tag :
    ∀ p ∈ [(1, [0, 1, 7]), (1, [8, 0, 0]), (7, [1]), (11, [0, 0]), (18, [1, 0]), (22, [])],
      (tagTaken p.1 p.2).awaits (request p.1 p.2) [] ∧ ((request p.1 p.2).requestRow).isSome = true ∧
        (p.1 < 8 ∨ 10 < p.1) ∧ (tagTaken p.1 p.2).tagLive 0 0 = true ∧
        ((tagTaken p.1 p.2).initiator 0).officer = true := by decide +kernel

/-- The state of day 100 with initiator 0 in a given state, without attributes, and a frame of its that waits. -/
def unprivileged (st : InitiatorState) (f : Frame) : State :=
  asked f
    { withDisk [] with
      initiators :=
        (withDisk []).initiators.setIfInBounds 0
          { InitiatorEntry.first with state := st, officer := false, disposer := false } }

theorem witness_CheckOneJudges :
    (∀ st : Fin 3, ∀ f ∈ [bus 1 8 1 5 0, bus 5 8 0 0 0, request 1 [0, 1, 8], request 8 [1, 8, 100], request 17 [1, 1],
        request 22 []],
      let s := unprivileged ([.absent, .suspended, .enabled].getD st.val .absent) f
      s.awaits f [] ∧ s.ingestLink = .ready ∧ f.requestRow ≠ none) ∧
    (request 8 [1, 8, 100]).namedSegment = some 8 ∧
    (let s := asking 8 [2, 8, 100] (withDisk [])
     s.awaits (request 8 [2, 8, 100]) [] ∧ judgeWriteControl s (request 8 [2, 8, 100]) 2 8 =
      some { code := .noVolume, check := 2, segment := some 8 }) ∧
    (let s := asking 9 [1, 20, 100] (withDisk [])
     s.awaits (request 9 [1, 20, 100]) [] ∧ judgeWriteControl s (request 9 [1, 20, 100]) 1 20 =
      some { code := .outOfRange, check := 4, segment := some 20 }) ∧
    (let s := asking 10 [1, 20] (withDisk [])
     s.awaits (request 10 [1, 20]) [] ∧ judgeWriteControl s (request 10 [1, 20]) 1 20 =
      some { code := .outOfRange, check := 4, segment := some 20 }) := by
  refine ⟨?_, ?_, ?_, ?_, ?_⟩ <;> decide +kernel

/-- A TRIGGER without officer is refused at check 1 and changes nothing (R58). -/
theorem test_not_officer :
    let f := request 8 [1, 8, 100]
    let s := unprivileged .enabled f
    after .trigger s id = some (s.answered [] (refusedFrame 0 0 0 .notOfficer false 1 (some 8) none)) := by
  decide +kernel

theorem witness_BeginOpensTransfer :
    (let s := asked (bus 1 9 1 5 0) (withDisk [(8, openSeg)])
     s.awaits (bus 1 9 1 5 0) [] ∧ judgeBegin s (bus 1 9 1 5 0) = none ∧ s.freeContext = some 0 ∧
       (s.segment 1 9).state = .blank) ∧
    (let s := asked (bus 1 8 16284 5 0) (withDisk [(8, openSeg)])
     s.awaits (bus 1 8 16284 5 0) [] ∧ judgeBegin s (bus 1 8 16284 5 0) = none ∧
       (s.segment 1 8).state = .opened) ∧
    (let s := asked (bus 1 8 16285 5 1) (withDisk [(8, openSeg)])
     s.awaits (bus 1 8 16285 5 1) [] ∧ judgeBegin s (bus 1 8 16285 5 1) = none ∧
       decide (16384 - (s.segment 1 8).appendPoint < 16285) = true) := by decide +kernel

theorem witness_BeginOpensTransfer_canonical : (asked (bus 1 8 16285 5 1) (withDisk [(8, openSeg)])).canonical :=
  canonical_of _ (by decide +kernel)

/-- A DATA frame of one block for the context of initiator 0 with tag 7. -/
def dataFrame (n : Nat) : Frame :=
  { Frame.blank 2 0 7 1 with count := n }.withPayload (List.replicate (n * 4096) 0#8)

theorem dataFrame_good (n : Nat) (h : 1 ≤ n ∧ n ≤ 8) : (dataFrame n).goodForm = true := by
  have h4 : n * 4096 % 4 = 0 := by omega
  simp [Frame.goodForm, dataFrame, Frame.withPayload, Frame.blank, h.1, h.2, h4, Config.blockBytes]

/-- The write context 3 with a frame of n blocks waiting. -/
def streaming (w : WriteContext) (n : Nat) : State :=
  asked (dataFrame n) ((withDisk [(8, openSeg)]).setContext 3 (.write w))

theorem streaming_awaits (w : WriteContext) (n : Nat) (h : 1 ≤ n ∧ n ≤ 8) :
    (streaming w n).awaits (dataFrame n) [] :=
  ⟨rfl, rfl, rfl, by show 0 < 1024; decide, dataFrame_good n h⟩

/-- The writer at the last block of segment 8, spanning into segment 9. -/
def spanner : WriteContext := { writer with forwardOffset := 16383, next := some 9 }

theorem streaming_canonical (w : WriteContext) (n : Nat) : (streaming w n).canonical := by
  intro v
  exact (canonical_of (withDisk [(8, openSeg)]) (by decide +kernel)) v

theorem witness_DataAccepted :
    ((streaming writer 8).awaits (dataFrame 8) [] ∧ (streaming writer 8).canonical ∧
      (streaming writer 8).writeOf 0 7 = some (3, writer) ∧ (dataFrame 8).count ≤ writer.remaining) ∧
    ((streaming spanner 2).awaits (dataFrame 2) [] ∧ (streaming spanner 2).writeOf 0 7 = some (3, spanner) ∧
      spanner.forwardSegment = spanner.startSegment ∧ 16384 < spanner.forwardOffset + (dataFrame 2).count ∧
      2 ≤ spanner.credit ∧ (dataFrame 2).count ≤ spanner.remaining) :=
  ⟨⟨streaming_awaits _ _ (by decide), streaming_canonical _ _, rfl, by decide⟩,
    streaming_awaits _ _ (by decide), rfl, rfl, by decide, by decide, by decide⟩

theorem witness_DataAccepted_segments :
    (streaming spanner 2).segmentExists 1 spanner.forwardSegment = true ∧ spanner.next = some 9 ∧
      (streaming spanner 2).segmentExists 1 9 = true := by decide +kernel

theorem witness_DataAccepted_discarded (st : WriteState) :
    (streaming { writer with state := st } 1).awaits (dataFrame 1) [] ∧
      (streaming { writer with state := st } 1).writeOf 0 7 = some (3, { writer with state := st }) :=
  ⟨streaming_awaits _ _ (by decide), by cases st <;> rfl⟩

/-- DATA and END frames whose pair names no write context, and one whose pair names a read. -/
theorem witness_DataAccepted_unknown :
    let s := asked (dataFrame 1) ((withDisk [(8, openSeg)]).setContext 3 (.read { reader with tag := 7 }))
    s.awaits (dataFrame 1) [] ∧
      ∀ k w, s.context k = .write w → w.initiator = (dataFrame 1).initiator → w.tag = (dataFrame 1).tag →
        w.removed = true ∧ w.state ≠ .faulted ∧ w.state ≠ .reissuing := by
  refine ⟨⟨rfl, rfl, rfl, by show 0 < 1024; decide, dataFrame_good 1 (by decide)⟩, ?_⟩
  intro k w h
  exact absurd h (no_write _ (by decide +kernel) k w)

/-- Context 3 with a write on segment 8, which stands as g; its write with media tag 2 is sent in slot 2. -/
def writing (g : Segment) (w : WriteContext) : State :=
  { (withDisk [(8, g)]).setContext 3 (.write w) with
    slots := live.slots.setIfInBounds 2 (.busy (writer.command sentWrite) .write (some (.write 3)) 0) }

theorem writing_canonical (g : Segment) (w : WriteContext) (h : g ≠ Segment.fresh) : (writing g w).canonical := by
  refine canonical_of _ fun i => ?_
  have : ∀ i : Fin 4, ((writing g w).volume (i.val + 1)).segments = if i = 0 then [(8, g)] else [] := by
    intro i
    match i with
    | 0 => rfl
    | 1 => rfl
    | 2 => rfl
    | 3 => rfl
  rw [this]
  split
  · simp [Sparse.wf, Sparse.wfAbove, h]
  · rfl

/-- The answer OK or SOFT to the write in slot 2. -/
theorem writing_confirms (g : Segment) (w : WriteContext) (h : g ≠ Segment.fresh) (status : Nat)
    (hs : status = 16 ∨ status = 17) :
    (writing g w).confirms (mstatusFrame 2 status).wire (mstatusFrame 2 status) 3 w := by
  rcases hs with rfl | rfl
  · exact ⟨⟨rfl, rfl, rfl, by decide +kernel, by decide +kernel, rfl, by decide⟩, by decide +kernel, .inl rfl,
      ⟨_, _, _, rfl⟩, rfl, writing_canonical g w h⟩
  · exact ⟨⟨rfl, rfl, rfl, by decide +kernel, by decide +kernel, rfl, by decide⟩, by decide +kernel, .inr rfl,
      ⟨_, _, _, rfl⟩, rfl, writing_canonical g w h⟩

/-- A context stands when the segments it names exist. -/
theorem stands_of (s : State) (w : WriteContext)
    (h : ∀ m ∈ w.startSegment :: w.current :: w.next.toList ++ w.pending.map PendingWrite.segment,
      s.segmentExists w.volume m = true) : s.stands w := by
  intro m hm
  refine h m ?_
  rcases hm with rfl | rfl | hn | ⟨e, he, rfl⟩
  · simp
  · simp
  · simp [hn]
  · exact List.mem_append_right _ (List.mem_map_of_mem he)

/-- The answer to the write in slot 2, with the run that leaves and the rest. -/
theorem writing_answered (g : Segment) (w : WriteContext) (h : g ≠ Segment.fresh) (status : Nat)
    (hs : status = 16 ∨ status = 17) (run rest : List PendingWrite) (hl : w.leaves 2 run rest)
    (hw : w.initiator = 0 ∧ w.volume = 1 ∧ w.removed = false ∧ w.silent = false)
    (hm : ∀ m ∈ w.startSegment :: w.current :: w.next.toList ++ w.pending.map PendingWrite.segment, m < 20) :
    (writing g w).writeAnswered (mstatusFrame 2 status).wire (mstatusFrame 2 status) 3 w run rest := by
  refine ⟨writing_confirms g w h status hs, hl, stands_of _ _ fun m hmem => ?_, ⟨rfl, ?_, hw.2.2.1, hw.2.2.2⟩, ?_⟩
  · rw [hw.2.1]
    show (!decide (VolumeState.online = .absent) && decide (m < 20)) = true
    simp [hm m hmem]
  · rw [hw.1]
    show ((withDisk []).initiator 0).state ≠ .absent
    decide +kernel
  · show 0 < 2048
    decide

/-- The writer's pending write sent in slot 2. -/
def oneWrite (w : WriteContext) : State := writing openSeg { w with pending := [sentWrite] }

/-- The confirmed write that leaves the list. -/
def doneWrite : PendingWrite := { sentWrite with confirmed := true, mediaTag := none }

/-- A write sent in slot 2 that ends at offset 16,384 of segment 8. -/
def fillingWrite : PendingWrite := { sentWrite with offset := 16376, count := 8 }

/-- The filling write once it is confirmed. -/
def filledWrite : PendingWrite := { fillingWrite with confirmed := true, mediaTag := none }

/-- A write of the next segment that the shelf has confirmed already. -/
def nextWrite : PendingWrite := { doneWrite with segment := 9, offset := 0 }

theorem witness_FatalCauseAborts :
    (let w := { writer with credit := 0, idle := none }
     (streaming w 1).awaits (dataFrame 1) [] ∧ (streaming w 1).writeOf 0 7 = some (3, w) ∧
       (streaming w 1).hears w ∧ (streaming w 1).settled ∧ (streaming w 1).canonical ∧ w.fatal = none) ∧
    (let w := { writer with remaining := 7 }
     (streaming w 8).awaits (dataFrame 8) [] ∧ (streaming w 8).writeOf 0 7 = some (3, w) ∧ 0 < w.credit ∧
       w.remaining < (dataFrame 8).count) ∧
    (let w := { spanner with credit := 1 }
     (streaming w 2).awaits (dataFrame 2) [] ∧ (streaming w 2).writeOf 0 7 = some (3, w) ∧ w.credit = 1 ∧
       (dataFrame 2).count ≤ w.remaining ∧ 16384 < w.forwardOffset + (dataFrame 2).count) ∧
    (let w := { writer with idle := some 0, pending := [sentWrite] }
     (streaming w 1).takesEvents = true ∧ (streaming w 1).context 3 = .write w ∧
       (streaming w 1).txQueue.length < 2048) := by
  refine ⟨⟨streaming_awaits _ _ (by decide), rfl, ⟨rfl, by decide, rfl, rfl⟩, rfl, streaming_canonical _ _, rfl⟩,
    ⟨streaming_awaits _ _ (by decide), rfl, by decide, by decide⟩,
    ⟨streaming_awaits _ _ (by decide), rfl, rfl, by decide, by decide⟩, ⟨rfl, rfl, by decide⟩⟩

/-- The last answer of an Aborting context: inside its segment, and one that fills it and goes on behind the fill. -/
theorem witness_FatalCauseAborts_last :
    (let w := { writer with state := .aborting, pending := [sentWrite], fatal := some .overrun }
     (writing openSeg w).writeAnswered (mstatusFrame 2 17).wire (mstatusFrame 2 17) 3 w [doneWrite] [] ∧
       w.state = .aborting) ∧
    (let w := { writer with state := .aborting, pending := [fillingWrite, nextWrite], next := some 9 }
     (writing openSeg w).writeAnswered (mstatusFrame 2 17).wire (mstatusFrame 2 17) 3 w [filledWrite, nextWrite] []) :=
  ⟨⟨writing_answered _ _ (by decide) _ (.inr rfl) _ _ (by decide +kernel) (by decide) (by decide), rfl⟩,
    writing_answered _ _ (by decide) _ (.inr rfl) _ _ (by decide +kernel) (by decide) (by decide)⟩

/-- An END frame for the context of initiator 0 with tag 7. -/
def endFrame (flags : Nat) : Frame := { Frame.blank 3 0 7 1 with flags := flags }

theorem witness_EndFinishesTransfer :
    (let w := { writer with pending := [sentWrite] }
     let s := asked (endFrame 2) ((withDisk [(8, openSeg)]).setContext 3 (.write w))
     s.awaits (endFrame 2) [] ∧ s.writeOf 0 7 = some (3, w) ∧ w.pending ≠ []) ∧
    (let s := asked (endFrame 2) ((withDisk [(8, openSeg)]).setContext 3 (.write writer))
     s.awaits (endFrame 2) [] ∧ s.writeOf 0 7 = some (3, writer) ∧ s.hears writer ∧
       (endFrame 2).closeFlag = true ∧ (s.segment 1 writer.lastSegment).state = .opened) ∧
    (let s := asked (endFrame 0) ((withDisk [(8, openSeg)]).setContext 3 (.write writer))
     s.awaits (endFrame 0) [] ∧ (endFrame 0).closeFlag = false) := by decide +kernel

/-- The END of a Streaming writer whose segment names it, with blocks still declared and without. -/
theorem witness_EndFinishesTransfer_closes :
    ∀ n ∈ [0, 8],
      let w := { writer with remaining := n }
      let s := asked (endFrame 2) (writing { openSeg with writer := some 3 } w)
      (s.awaits (endFrame 2) [] ∧ s.writeOf 0 7 = some (3, w) ∧ s.hears w ∧
        (s.segment 1 w.lastBlock).writer = some 3) ∧ s.stands w ∧ s.canonical := by
  intro n hn
  simp only [List.mem_cons, List.not_mem_nil, or_false] at hn
  rcases hn with rfl | rfl <;>
    exact ⟨by decide +kernel, stands_of _ _ (by decide +kernel),
      fun v => writing_canonical { openSeg with writer := some 3 } writer (by decide) v⟩

/-- The last answer of a Draining context: inside its segment, one that fills it, and one that goes on behind the fill. -/
theorem witness_EndFinishesTransfer_last :
    ∀ g ∈ [{ openSeg with writer := some 3 }, { openSeg with cls := some 0, writer := some 3 }],
      (let w := { writer with state := .draining, pending := [sentWrite], closeFlag := some true }
       (writing g w).writeAnswered (mstatusFrame 2 16).wire (mstatusFrame 2 16) 3 w [doneWrite] [] ∧
         w.state = .draining) ∧
      (let w := { writer with state := .draining, pending := [fillingWrite], closeFlag := some true }
       (writing g w).writeAnswered (mstatusFrame 2 16).wire (mstatusFrame 2 16) 3 w [filledWrite] []) ∧
      (let w := { writer with state := .draining, pending := [fillingWrite, nextWrite], next := some 9 }
       (writing g w).writeAnswered (mstatusFrame 2 16).wire (mstatusFrame 2 16) 3 w [filledWrite, nextWrite] []) := by
  intro g hg
  simp only [List.mem_cons, List.not_mem_nil, or_false] at hg
  rcases hg with rfl | rfl <;>
    exact ⟨⟨writing_answered _ _ (by decide) _ (.inl rfl) _ _ (by decide +kernel) (by decide) (by decide), rfl⟩,
      writing_answered _ _ (by decide) _ (.inl rfl) _ _ (by decide +kernel) (by decide) (by decide),
      writing_answered _ _ (by decide) _ (.inl rfl) _ _ (by decide +kernel) (by decide) (by decide)⟩

/-- END frames outside Streaming, and one without a context. -/
theorem witness_EndFinishesTransfer_discarded :
    (∀ st ∈ [WriteState.draining, .aborting, .faulted, .reissuing],
      let w := { writer with state := st }
      let s := asked (endFrame 2) ((withDisk [(8, openSeg)]).setContext 3 (.write w))
      s.awaits (endFrame 2) [] ∧ s.writeOf 0 7 = some (3, w) ∧ w.state ≠ .streaming) ∧
    (asked (endFrame 2) (withDisk [])).awaits (endFrame 2) [] ∧
    ∀ k w, (asked (endFrame 2) (withDisk [])).context k ≠ .write w :=
  ⟨by decide +kernel, by decide +kernel, fun k w => no_write _ (by decide +kernel) k w⟩

/-- R91 and R92: an END with blocks still declared and nothing pending completes SHORT and raises COUNT_SHORT. -/
theorem test_end_short :
    after .endFrame (asked (endFrame 0) (writing openSeg writer))
      (fun t => (t.conditions.accrued, t.txQueue.map Frame.status)) =
      some (live.conditions.accrued ||| Cond.countShort.bit, [2]) := by decide +kernel

/-- R15: the close flag of END closes the segment of the last confirmed block. -/
theorem test_end_closes :
    after .endFrame (asked (endFrame 2) (writing { openSeg with writer := some 3 } writer))
      (fun t => ((t.segment 1 8).state, (t.segment 1 8).expiry, t.txQueue.map Frame.flags)) =
      some (.closed, some 111, [8]) := by decide +kernel

theorem witness_EndFinishesTransfer_canonical :
    (asked (endFrame 2) ((withDisk [(8, openSeg)]).setContext 3 (.write writer))).canonical :=
  canonical_of _ (by decide +kernel)

theorem witness_ReadOpensTransfer :
    (let s := asked { bus 4 8 64 0 0 with offset := 99 } (withDisk [(8, openSeg)])
     let f := { bus 4 8 64 0 0 with offset := 99 }
     s.awaits f [] ∧ judgeRead s f = none ∧ s.freeContext = some 0 ∧
       0 < min f.count ((s.segment 1 8).appendPoint - f.offset)) ∧
    (let s := asked { bus 4 8 64 0 0 with offset := 100 } (withDisk [(8, openSeg)])
     let f := { bus 4 8 64 0 0 with offset := 100 }
     s.awaits f [] ∧ judgeRead s f = none ∧ min f.count ((s.segment 1 8).appendPoint - f.offset) = 0) ∧
    ((0 : Nat) ≤ 64 ∧ 64 - 0 ≤ 8 * 8) := by decide +kernel

theorem witness_EraseStarts :
    (asked (bus 5 8 0 0 0) (disposing expiredSeg)).awaits (bus 5 8 0 0 0) [] ∧
      judgeErase (asked (bus 5 8 0 0 0) (disposing expiredSeg)) (bus 5 8 0 0 0) = none := by decide +kernel

theorem witness_EraseStarts_canonical : (asked (bus 5 8 0 0 0) (disposing expiredSeg)).canonical :=
  canonical_of _ (by decide +kernel)

/-- An admitted ERASE of segment 8 while the context 3 reads it and the Active scan stands on it. -/
def readErasing (list : List ReadEntry) (cancel : Bool) : State :=
  { (asked (bus 5 8 0 0 0) (disposing expiredSeg)).setContext 3 (.read { reader with list := list }) with
    scanActive :=
      some
        { scanning with
          segmentRead := some { readEnd := 100, foldA := 1, foldB := 0 }, list := [sentRead], cancelRequested := cancel } }

theorem witness_EraseStarts_reads :
    ∀ list ∈ [[waitingEntry (0, 8)], [sentRead, waitingEntry (8, 8)], [sentRead]], ∀ cancel ∈ [false, true],
      (readErasing list cancel).awaits (bus 5 8 0 0 0) [] ∧
        judgeErase (readErasing list cancel) (bus 5 8 0 0 0) = none ∧
        (readErasing list cancel).context 3 = .read { reader with list := list } ∧
        (readErasing list cancel).ingestLink = .ready ∧ ((readErasing list cancel).initiator 0).state ≠ .absent := by
  decide +kernel

/-- R107 and R169: the read with no entry left ends SHORT, and the scan skips the segment. -/
theorem test_erase_ends_reads :
    after .eraseFrame (readErasing [waitingEntry (0, 8)] false)
      (fun t => (t.context 3, t.txQueue.map Frame.status, t.scanActive.map Scan.skipped,
        t.scanActive.bind Scan.cursor)) =
      some (.free, [2], some 1, some { entry := 1, segment := 9 }) := by decide +kernel

theorem witness_ReadRecordReturns :
    (let f := request 1 [8, 0, 0]
     let s := asked f (withDisk [])
     s.awaits f [] ∧ f.kind = 6 ∧ f.code = 1 ∧ s.ingestLink = .ready ∧ (s.initiator 0).state ≠ .absent ∧
       s.tagLive 0 0 = false) ∧
    (∃ words, readRecordWords (withDisk []) 8 0 0 = .ok words) ∧
    readRecordWords (withDisk []) 10 0 0 = .error .format ∧
    ((withDisk []).segmentExists 1 19 = true ∧ ((withDisk [(19, closedSeg)]).segment 1 19).closeTime = some (89 * 86400) ∧
      (withDisk []).segmentExists 1 20 = false) :=
  ⟨by decide +kernel, ⟨_, rfl⟩, rfl, by decide +kernel⟩

/-- A part with a record of every kind: an Open and a Closed segment, an Active hold in slot 1 and a Placing one in slot
64, a fault record in slot 4 and an Active scan. -/
def recorded : State :=
  { withDisk [(8, openSeg), (19, closedSeg)] with
    holds := (live.holds.setIfInBounds 0 (some (holding .active))).setIfInBounds 63 (some (holding (.placing 8)))
    walkQueue := [64]
    records := live.records.setIfInBounds 3 (some settledRecord)
    scanActive := some scanning }

theorem witness_ReadRecordReturns_kinds :
    (∀ words ∈ [[10, 0, 0], [0, 1, 20], [0, 1, 19], [0, 1, 8], [0, 5, 8], [1, 5, 0], [1, 4, 0], [1, 1, 0], [2, 0, 0],
        [2, 1, 0], [2, 1, 1], [2, 4, 0], [3, 64, 0], [3, 63, 0], [3, 6, 0], [4, 32, 0], [4, 31, 0], [4, 0, 0],
        [5, 0, 0], [5, 65, 0], [5, 64, 0], [5, 2, 0], [5, 1, 0], [6, 5, 0], [6, 4, 0], [6, 1, 0], [7, 2, 0],
        [7, 1, 0], [7, 0, 0], [8, 0, 0], [9, 0, 0]],
      (asking 1 words recorded).awaits (request 1 words) [] ∧ (recorded.initiator 0).state ≠ .absent ∧
        (asking 1 words recorded).tagLive 0 0 = false) ∧
    (recorded.segmentExists 1 19 = true ∧ recorded.segmentExists 1 20 = false) ∧
    ((recorded.volume 4).state = .absent ∧ (recorded.volume 1).state ≠ .absent ∧
      ceilDiv (recorded.volume 1).count 4096 = 1) ∧
    (recorded.classEntry 63 = none ∧ recorded.classEntry 6 ≠ none ∧ (recorded.initiator 31).state = .absent) ∧
    (recorded.hold 2 = none ∧ 2 ∉ recorded.walkQueue ∧ recorded.hold 1 = some (holding .active) ∧
      1 ∉ recorded.walkQueue ∧ recorded.hold 64 = some (holding (.placing 8)) ∧
      recorded.walkQueue = [] ++ 64 :: [] ∧ recorded.record 1 = none ∧
      recorded.record 4 = some settledRecord ∧ recorded.scanActive = some scanning ∧ recorded.scanQueued = none) := by
  refine ⟨?_, ?_, ?_, ?_, ?_⟩ <;> decide +kernel

/-- R194: the number returned for a segment is the real one, after relocation. -/
theorem test_read_record_number :
    after .readRecord
      { asking 1 [0, 1, 3] (withDisk []) with
        initiators := live.initiators.setIfInBounds 0
          { InitiatorEntry.first with window := some { volume := 1, base := 11 } } }
      (fun t => t.txQueue.map (fun f => (f.status, f.segment, f.payloadLength))) = some [(1, 14, 76)] := by
  decide +kernel

/-- The part whose initiator 31 holds the staging window from segment 8 of volume 1. -/
def windowed : State :=
  { live with
    initiators := live.initiators.setIfInBounds 31
      { InitiatorEntry.first with officer := false, window := some { volume := 1, base := 8 } } }

/-- A request for each row of R53 and R193, at the ends of the ranges. -/
theorem witness_LoadInitiatorWrites :
    ∀ words ∈ [[0, 3, 0, 0, 0, 0, 0, 0, 0], [0, 1, 0, 2, 0, 0, 0, 0, 0], [32, 0, 0, 0, 0, 0, 0, 0, 0],
        [1, 1, 16, 0, 0, 0, 15, 4294967295, 4294967295], [1, 1, 15, 0, 0, 0, 15, 5, 8], [1, 1, 15, 0, 0, 0, 15, 4, 65529],
        [1, 1, 15, 0, 0, 0, 15, 4, 4294967295], [1, 1, 15, 0, 0, 0, 16, 4294967295, 4294967295],
        [1, 1, 15, 0, 0, 0, 1, 2, 8], [1, 1, 15, 0, 0, 0, 15, 1, 15], [0, 2, 0, 1, 0, 0, 15, 4294967295, 4294967295],
        [0, 0, 99, 99, 99, 99, 99, 99, 99], [0, 1, 0, 1, 0, 0, 15, 4294967295, 4294967295],
        [1, 1, 15, 0, 0, 0, 15, 1, 16], [1, 2, 0, 0, 0, 1, 15, 4, 65528]],
      (asking 2 words windowed).officerAsks (request 2 words) [] 2 := by decide +kernel

/-- The codes and statuses of those requests: FORMAT, OUT_OF_RANGE, FORMAT, STATE_DENIED, UNCHANGED and DONE. -/
theorem test_load_initiator_rows :
    [[0, 3, 0, 0, 0, 0, 0, 0, 0], [0, 1, 0, 2, 0, 0, 0, 0, 0], [32, 0, 0, 0, 0, 0, 0, 0, 0],
        [1, 1, 16, 0, 0, 0, 15, 4294967295, 4294967295], [1, 1, 15, 0, 0, 0, 15, 4, 4294967295],
        [1, 1, 15, 0, 0, 0, 1, 2, 8], [1, 1, 15, 0, 0, 0, 15, 1, 15], [0, 0, 99, 99, 99, 99, 99, 99, 99],
        [0, 1, 0, 1, 0, 0, 15, 4294967295, 4294967295], [1, 1, 15, 0, 0, 0, 15, 1, 16]].map
      (fun words => after .loadInitiator (asking 2 words windowed) (fun t => t.txQueue.map (fun f => (f.status, f.code)))) =
      [some [(4, Code.format.number)], some [(4, Code.format.number)], some [(4, Code.outOfRange.number)],
        some [(4, Code.outOfRange.number)], some [(4, Code.format.number)], some [(4, Code.format.number)],
        some [(4, Code.stateDenied.number)], some [(4, Code.stateDenied.number)], some [(Status.unchanged.number, 2)],
        some [(1, 2)]] := by decide +kernel

/-- The part with a second officer, initiator 31. -/
def twoOfficers : State :=
  { busyContexts with initiators := live.initiators.setIfInBounds 31 InitiatorEntry.first }

/-- The removal of initiator 0, asked by initiator 31. -/
def removal : Frame := { request 2 [0, 0, 0, 0, 0, 0, 0, 0, 0] with initiator := 31 }

theorem witness_RemovalEndsWork :
    (asked removal twoOfficers).officerAsks removal [] 2 ∧ removal.param 1 = 0 ∧ removal.param 0 ≠ removal.initiator ∧
      ((asked removal twoOfficers).initiator (removal.param 0)).state ≠ .absent := by decide +kernel

/-- Initiator 0 removes itself while the officer 31 remains. -/
theorem witness_RemovalEndsWork_self :
    let f := request 2 [0, 0, 0, 0, 0, 0, 0, 0, 0]
    (asked f twoOfficers).officerAsks f [] 2 ∧ f.param 1 = 0 ∧ f.param 0 = f.initiator ∧
      ((asked f twoOfficers).initiator (f.param 0)).state ≠ .absent ∧
      31 ≠ f.initiator ∧ ((asked f twoOfficers).initiator 31).state = .enabled ∧
      ((asked f twoOfficers).initiator 31).officer = true := by decide +kernel

/-- Its contexts of every kind, none with an outcome, and its unfinished collection, which the removal ends. -/
theorem witness_RemovalEndsWork_contexts :
    (let s := asked removal twoOfficers
     s.context 0 = .write writer ∧ s.context 1 = .write { writer with pending := [sentWrite], state := .draining } ∧
       s.context 2 = .write { writer with state := .faulted } ∧ s.context 3 = .read reader ∧
       writer.initiator = removal.param 0 ∧ reader.initiator = removal.param 0) ∧
    (asked removal twoOfficers).canonical ∧
    (∀ c w, (asked removal twoOfficers).context c = .write w → w.outcome = 0#18) ∧
      ∀ c r, (asked removal twoOfficers).context c = .read r → r.outcome = 0#18 :=
  ⟨by decide +kernel, canonical_of _ (by decide +kernel), no_outcome _ (by decide +kernel)⟩

/-- A request for each row of R41 and R193, at the ends of the ranges. -/
theorem witness_LoadClassWrites :
    ∀ words ∈ [[5, 0, 0, 2, 0, 0, 0, 0], [0, 0, 0, 0, 0, 0, 0, 0], [64, 0, 0, 0, 0, 0, 0, 0], [63, 1200, 0, 0, 0, 0, 0, 0],
        [63, 0, 4096, 0, 0, 0, 0, 0], [63, 0, 0, 0, 1, 0, 4294967295, 0], [63, 0, 0, 0, 0, 0, 0, 1],
        [5, 0, 9, 0, 0, 0, 0, 0], [6, 0, 0, 0, 0, 0, 0, 0], [5, 0, 10, 0, 0, 0, 4294967295, 4294967295],
        [63, 1199, 4095, 1, 1, 1, 1199, 4095]],
      (asking 3 words (withDisk [])).officerAsks (request 3 words) [] 3 := by decide +kernel

/-- Their codes and statuses: FORMAT, STATE_DENIED, OUT_OF_RANGE, FORMAT, LOWERING, UNCHANGED and DONE. -/
theorem test_load_class_rows :
    [[5, 0, 0, 2, 0, 0, 0, 0], [0, 0, 0, 0, 0, 0, 0, 0], [64, 0, 0, 0, 0, 0, 0, 0], [63, 0, 0, 0, 1, 0, 4294967295, 0],
        [63, 0, 0, 0, 0, 0, 0, 1], [5, 0, 9, 0, 0, 0, 0, 0], [6, 0, 0, 0, 0, 0, 0, 0],
        [5, 0, 10, 0, 0, 0, 4294967295, 4294967295], [63, 1199, 4095, 1, 1, 1, 1199, 4095]].map
      (fun words =>
        after .loadClass (asking 3 words (withDisk [])) (fun t => t.txQueue.map (fun f => (f.status, f.code)))) =
      [some [(4, Code.format.number)], some [(4, Code.stateDenied.number)], some [(4, Code.outOfRange.number)],
        some [(4, Code.outOfRange.number)], some [(4, Code.format.number)], some [(4, Code.lowering.number)],
        some [(4, Code.lowering.number)], some [(Status.unchanged.number, 3)], some [(1, 3)]] := by decide +kernel

/-- A request for each row of R25 and R193, at the ends of the ranges, on a volume whose segment 8 is Open. -/
theorem witness_SetVolumeResizes :
    (∀ words ∈ [[1, 3, 9, 0, 0], [1, 1, 9, 2, 0], [0, 0, 0, 0, 0], [5, 0, 0, 0, 0], [1, 1, 8, 0, 0], [1, 2, 65537, 0, 0],
        [1, 0, 0, 0, 0], [4, 0, 0, 0, 0], [1, 1, 9, 0, 0], [1, 1, 10, 0, 0], [1, 2, 65536, 1, 1]],
      (asking 4 words (withDisk [(8, openSeg)])).officerAsks (request 4 words) [] 4) ∧
    (∀ e ∈ ((withDisk [(8, openSeg)]).volume 1).segments, e.1 < ((withDisk [(8, openSeg)]).volume 1).count) ∧
    ((withDisk [(8, openSeg)]).segment 1 8).state ≠ .blank := by
  refine ⟨?_, ?_, ?_⟩ <;> decide +kernel

/-- Codes and statuses over an Open segment 9: FORMAT, OUT_OF_RANGE, STATE_DENIED for a removal and for a count of 9,
UNCHANGED and DONE. -/
theorem test_set_volume_rows :
    [[1, 3, 9, 0, 0], [5, 0, 0, 0, 0], [1, 1, 8, 0, 0], [1, 0, 0, 0, 0], [4, 0, 0, 0, 0], [1, 1, 9, 0, 0],
        [1, 1, 10, 0, 0]].map
      (fun words =>
        after .setVolume (asking 4 words (withDisk [(9, openSeg)]))
          (fun t => t.txQueue.map (fun f => (f.status, f.code)))) =
      [some [(4, Code.format.number)], some [(4, Code.outOfRange.number)], some [(4, Code.outOfRange.number)],
        some [(4, Code.stateDenied.number)], some [(Status.unchanged.number, 4)], some [(4, Code.stateDenied.number)],
        some [(1, 4)]] := by decide +kernel

theorem witness_SetVolumeResizes_canonical (words : List Nat) : (asking 4 words (withDisk [(8, openSeg)])).canonical := by
  intro v
  exact (canonical_of (withDisk [(8, openSeg)]) (by decide +kernel)) v

/-- A removal of volume 1, and a lower count, while the Sweeper and a collection stand at segment 19. -/
def sweptVolume (words : List Nat) : State :=
  { asking 4 words (withDisk []) with
    sweeper := { state := .passing 1 19, passAgain := true }
    collection := some { initiator := 0, tag := 4, volume := 1, nextSegment := 19, entries := [] } }

theorem witness_SetVolumeResizes_stops :
    (∀ words ∈ [[1, 0, 0, 0, 0], [1, 1, 19, 0, 0], [1, 1, 20, 0, 0], [4, 0, 0, 0, 0]],
      (sweptVolume words).officerAsks (request 4 words) [] 4 ∧ ((sweptVolume words).initiator 0).state ≠ .absent) ∧
      (∀ m : Fin 20, ((sweptVolume []).segment 1 m.val).state = .blank) ∧
      (∀ k : Fin 64, (sweptVolume []).hold (k.val + 1) = none) ∧
      ((sweptVolume []).volume 4).state = .absent ∧ ((sweptVolume []).volume 1).state ≠ .absent ∧
      (19 : Nat) ≤ 19 ∧ ¬ (20 : Nat) ≤ 19 := by
  refine ⟨?_, ?_, ?_, ?_, ?_, ?_⟩ <;> decide +kernel

/-- R113 and R129: a count lowered to the next segment stops the examination and sends the Sweeper to the next volume. -/
theorem test_lower_count_stops :
    after .setVolume (sweptVolume [1, 1, 19, 0, 0])
      (fun t => (t.sweeper.state, t.collection, t.txQueue.map Frame.code)) =
      some (.leaving 1, none, [4, 18]) := by decide +kernel

theorem witness_SetZoneWrites_format :
    (asking 5 [1, 0, 2, 0] (withDisk [])).officerAsks (request 5 [1, 0, 2, 0]) [] 5 ∧
      (asking 5 [1, 0, 0, 2] (withDisk [])).officerAsks (request 5 [1, 0, 0, 2]) [] 5 ∧
      (asking 5 [0, 0, 1, 1] (withDisk [])).officerAsks (request 5 [0, 0, 1, 1]) [] 5 := by decide +kernel

theorem witness_SetZoneWrites :
    (let f := request 5 [5, 0, 1, 1]
     (asked f (withDisk [])).officerAsks f [] 5 ∧ f.param 2 ≤ 1 ∧ f.param 3 ≤ 1 ∧ 4 < f.param 0) ∧
    (let f := request 5 [4, 0, 1, 1]
     (asked f (withDisk [])).officerAsks f [] 5 ∧ ((withDisk []).volume (f.param 0)).state = .absent) ∧
    (let f := request 5 [1, 1, 1, 1]
     (asked f (withDisk [])).officerAsks f [] 5 ∧ ceilDiv ((withDisk []).volume 1).count 4096 ≤ f.param 1) ∧
    (let f := request 5 [1, 0, 1, 0]
     (asked f (withDisk [])).officerAsks f [] 5 ∧ ((withDisk []).volume 1).state ≠ .absent ∧
       f.param 1 < ceilDiv ((withDisk []).volume 1).count 4096 ∧
       ((withDisk []).volume 1).zones.length = ceilDiv ((withDisk []).volume 1).count 4096) := by decide +kernel

/-- A volume with an Erasing segment 9 of class 5, and a Hold Table with slot 64 Free alone. -/
def holdable (words : List Nat) : State :=
  { asking 6 words (withDisk [(9, erasingSeg)]) with
    holds := (Vector.replicate 64 (some (holding .active))).setIfInBounds 63 none }

/-- A request for each row of R116, at the ends of the ranges. -/
theorem witness_HoldsPlacedAndReleased_place :
    (∀ words ∈ [[0, 8, 8, 1, 77], [5, 8, 8, 1, 77], [2, 8, 8, 1, 77], [1, 9, 8, 4294967295, 77],
        [1, 8, 20, 4294967295, 77], [1, 8, 8, 0, 77], [1, 8, 8, 64, 77], [1, 8, 9, 4294967295, 77], [1, 9, 9, 5, 77],
        [1, 9, 19, 63, 77], [1, 8, 8, 4294967295, 77]],
      (holdable words).officerAsks (request 6 words) [] 6 ∧
        ({ holdable words with holds := Vector.replicate 64 (some (holding .active)) } : State).officerAsks
          (request 6 words) [] 6) ∧
    ((holdable []).hold 64 = none ∧ (∀ k : Fin 63, (holdable []).hold (k.val + 1) ≠ none) ∧
      ((holdable []).segment 1 9).state = .erasing ∧ ((holdable []).segment 1 9).cls = some 5) := by
  refine ⟨?_, ?_⟩ <;> decide +kernel

theorem witness_HoldsPlacedAndReleased_canonical (words : List Nat) : (holdable words).canonical := by
  intro v
  exact (canonical_of (withDisk [(9, erasingSeg)]) (by decide +kernel)) v

/-- Their codes and statuses: NO_VOLUME, OUT_OF_RANGE, ERASE_IN_PROGRESS and DONE; TABLE_FULL with no slot Free. -/
theorem test_place_hold_rows :
    [[2, 8, 8, 1, 77], [1, 9, 8, 4294967295, 77], [1, 8, 20, 4294967295, 77], [1, 8, 8, 64, 77],
        [1, 8, 9, 4294967295, 77], [1, 9, 9, 5, 77], [1, 9, 19, 63, 77]].map
      (fun words => after .placeHold (holdable words) (fun t => t.txQueue.map (fun f => (f.status, f.code)))) =
      [some [(4, Code.noVolume.number)], some [(4, Code.outOfRange.number)], some [(4, Code.outOfRange.number)],
        some [(4, Code.outOfRange.number)], some [(4, Code.eraseInProgress.number)],
        some [(4, Code.eraseInProgress.number)], some [(1, 6)]] ∧
    after .placeHold { holdable [1, 9, 9, 5, 77] with holds := Vector.replicate 64 (some (holding .active)) }
      (fun t => t.txQueue.map (fun f => (f.status, f.code))) = some [(4, Code.tableFull.number)] := by decide +kernel

/-- A RELEASE HOLD of slot 64, which holds a hold. -/
def releasing (phase : HoldPhase) : State :=
  { asking 7 [64] live with holds := live.holds.setIfInBounds 63 (some (holding phase)) }

theorem witness_HoldsPlacedAndReleased_release :
    ((asking 7 [65] live).officerAsks (request 7 [65]) [] 7 ∧ 64 < (request 7 [65]).param 0) ∧
    ((asking 7 [1] live).officerAsks (request 7 [1]) [] 7 ∧ (asking 7 [1] live).hold 1 = none) ∧
    ((releasing (.releasing 8 9)).officerAsks (request 7 [64]) [] 7 ∧
      (releasing (.releasing 8 9)).hold 64 = some (holding (.releasing 8 9))) ∧
    ((releasing (.placing 8)).officerAsks (request 7 [64]) [] 7 ∧
      (releasing (.placing 8)).hold 64 = some (holding (.placing 8)) ∧ (holding (.placing 8)).first = 8) ∧
    ((releasing (.placing 9)).hold 64 = some (holding (.placing 9)) ∧
      (releasing .active).hold 64 = some (holding .active)) := by decide +kernel

/-- A write-type control request on segment 8 of volume 1 that passes Admission. -/
abbrev passes (code : Nat) (words : List Nat) (s : State) : Prop :=
  (asking code words s).segmentAsked (request code words) [] code 8

/-- A segment of the triggered class 6. -/
def triggerable (g : Segment) : Segment := { g with cls := some 6 }

/-- The entry of class 6. -/
def triggeredEntry : ClassEntry :=
  { ClassEntry.start with post := some { months := 0, days := 10 }, triggered := true }

theorem witness_TriggerByRow :
    (let s := (withDisk [(8, triggerable openSeg)])
     passes 8 [1, 8, 101] { s with clock := live.clock } ∧ live.clock.state = .unset ∧ passes 8 [1, 8, 101] s ∧
       s.clock.state = .running ∧ (s.segment 1 8).triggerDay = none) ∧
    (passes 8 [1, 8, 101] (withDisk []) ∧ ((withDisk []).segment 1 8).state = .blank) ∧
    (passes 8 [1, 8, 100] (withDisk [(8, openSeg)]) ∧
      ((withDisk []).entryOf openSeg).map ClassEntry.triggered = some false) ∧
    (passes 8 [1, 8, 100] (withDisk [(8, { triggerable openSeg with triggerDay := some 1 })]) ∧
      (withDisk []).entryOf (triggerable openSeg) = some triggeredEntry ∧ triggeredEntry.triggered = true) ∧
    (passes 8 [1, 8, 100] (withDisk [(8, triggerable expiredSeg)]) ∧
      (withDisk []).entryOf (triggerable expiredSeg) = some triggeredEntry ∧
      triggeredEntry.expiry (((triggerable expiredSeg).closeTime.getD 0) / 86400) (some 100) = some 111) := by
  refine ⟨?_, ?_, ?_, ?_, ?_⟩ <;> decide +kernel

theorem witness_ExtendByRow :
    passes 9 [1, 8, 1048576] (withDisk []) ∧ (passes 9 [1, 8, 1048575] (withDisk []) ∧
      ((withDisk []).segment 1 8).state ≠ .closed ∧ ((withDisk []).segment 1 8).state ≠ .expired) ∧
    (passes 9 [1, 8, 1048575] (withDisk [(8, { closedSeg with expiry := none })])) ∧
    (passes 9 [1, 8, 101] { withDisk [(8, expiredSeg)] with clock := live.clock }) ∧
    (passes 9 [1, 8, 100] (withDisk [(8, expiredSeg)]) ∧ expiredSeg.expiry = some 100) ∧
    (passes 9 [1, 8, 101] (withDisk [(8, expiredSeg)]) ∧ passes 9 [1, 8, 101] (withDisk [(8, closedSeg)])) := by
  refine ⟨?_, ?_, ?_, ?_, ?_, ?_⟩ <;> decide +kernel

theorem witness_CloseByRow :
    (passes 10 [1, 8] (withDisk []) ∧ ((withDisk []).segment 1 8).state ≠ .opened) ∧
    (passes 10 [1, 8] (withDisk [(8, { openSeg with writer := some 3 })])) ∧
    (passes 10 [1, 8] (withDisk [(8, { openSeg with cls := some 0 })])) ∧
    (passes 10 [1, 8] { withDisk [(8, openSeg)] with clock := live.clock }) ∧
    (passes 10 [1, 8] (withDisk [(8, openSeg)]) ∧ openSeg.state = .opened ∧ openSeg.writer = none ∧
      openSeg.cls ≠ some 0 ∧ (withDisk [(8, openSeg)]).clock.state = .running) := by
  refine ⟨?_, ?_, ?_, ?_, ?_⟩ <;> decide +kernel

theorem witness_TransitionMovesCounts :
    (withDisk [(8, openSeg), (9, closedSeg)]).canonical ∧ 19 < ((withDisk []).volume 1).count ∧
      ((withDisk []).volume 1).tallied :=
  ⟨withDisk_canonical, by decide +kernel, by
    intro st
    cases st <;> decide +kernel⟩

/-- A volume whose listed segments are two is tallied when its counts say so. -/
def counted : State :=
  (withDisk []).setVolume 1
    { disk [(8, openSeg), (9, closedSeg)] with
      counts := { blank := 18, opened := 1, closed := 1, expired := 0, erasing := 0 } }

theorem counted_sound : counted.mapSound := by
  have h : ∀ i : Fin 4,
      Sparse.wf Segment.fresh (counted.volume (i.val + 1)).segments = true ∧
        (∀ e ∈ (counted.volume (i.val + 1)).segments, e.1 < (counted.volume (i.val + 1)).count) ∧
        ∀ st ∈ [SegmentState.blank, .opened, .closed, .expired, .erasing],
          (counted.volume (i.val + 1)).counts.get st = (counted.volume (i.val + 1)).tally st := by decide +kernel
  refine ⟨canonical_of _ fun i => (h i).1, fun v => ?_⟩
  by_cases hv : 1 ≤ v ∧ v ≤ 4
  · have := h ⟨v - 1, by omega⟩
    simp only [Nat.sub_add_cancel hv.1] at this
    exact ⟨this.2.1, fun st => this.2.2 st (by cases st <;> decide)⟩
  · rw [volume_outside counted v hv]
    exact ⟨fun e he => by simp [Volume.absent] at he, fun st => by cases st <;> decide⟩

theorem witness_TransitionMovesCounts_step :
    counted.mapSound ∧ ∃ t, exec .clockTick counted = .next t := ⟨counted_sound, _, rfl⟩

theorem witness_SweepAndPassBegin :
    (asking 13 [] live).officerAsks (request 13 []) [] 13 ∧
    ((withDisk []).takesEvents = true ∧ (withDisk []).settled ∧
      (withDisk []).sweeper = { state := .idle, passAgain := true } ∧ (withDisk []).clock.state = .running ∧
      ((withDisk []).volume 1).state ≠ .absent) ∧
    (clockAt 0 live).clock.state = .running ∧ ∀ v, 1 ≤ v → v ≤ 4 → ((clockAt 0 live).volume v).state = .absent := by
  refine ⟨by decide +kernel, ⟨rfl, rfl, rfl, rfl, by decide +kernel⟩, rfl, ?_⟩
  intro v h1 h2
  have : ∀ i : Fin 4, ((clockAt 0 live).volume (i.val + 1)).state = .absent := by decide +kernel
  have h := this ⟨v - 1, by omega⟩
  simpa [Nat.sub_add_cancel h1] using h

theorem witness_ClearConditionsClears :
    ((asking 19 [0] live).officerAsks (request 19 [0]) [] 19 ∧ (request 19 [0]).param 0 = 0) ∧
    ((asking 19 [32] live).officerAsks (request 19 [32]) [] 19 ∧ 31 < (request 19 [32]).param 0) ∧
    ((asking 19 [15] live).officerAsks (request 19 [15]) [] 19 ∧
      ∀ g ∈ allGroups, (15 : Nat).testBit g.number = true → live.conditions.accrued.groupSet g = false) ∧
    ((asking 19 [31] live).officerAsks (request 19 [31]) [] 19 ∧ (31 : Nat).testBit Group.clock.number = true ∧
      live.conditions.accrued.groupSet .clock = true) := by decide +kernel

/-- A step that has two causes: the Clock group set, and a fault record. -/
theorem witness_ClearConditionsClears_notice :
    ({ live.conditions with
        causes := [.groupSet .clock .clockUnset { initiator := none, tag := none, kind := .startUp }, .faultRecord 4] } :
      Conditions).causes ≠ [] := by decide

theorem witness_SettingsSet :
    ((asking 20 [32, 0] live).officerAsks (request 20 [32, 0]) [] 20 ∧
      (asking 20 [31, 32] live).officerAsks (request 20 [31, 32]) [] 20 ∧
      (asking 20 [0, 0] live).officerAsks (request 20 [0, 0]) [] 20 ∧ live.conditions.noticeInitiator = 0 ∧
      live.conditions.enables.toNat = 0 ∧ (asking 20 [31, 31] live).officerAsks (request 20 [31, 31]) [] 20) ∧
    ((asking 21 [4, 60] live).officerAsks (request 21 [4, 60]) [] 21 ∧ wordOption 4 = some 4 ∧
      (asking 21 [30, 4294967295] live).officerAsks (request 21 [30, 4294967295]) [] 21 ∧ live.idleTime = 30 ∧
      wordOption 4294967295 = none ∧ (asking 21 [300, 60] live).officerAsks (request 21 [300, 60]) [] 21) := by
  refine ⟨?_, ?_⟩ <;> decide +kernel

theorem witness_RelocationExchanges :
    ({ InitiatorEntry.first with window := some { volume := 1, base := 8 } } : InitiatorEntry).window =
      some { volume := 1, base := 8 } ∧ 8 ≤ ({ volume := 1, base := 8 } : Window).base ∧
      InitiatorEntry.first.window = none := by decide

/-- A request for each row of R161, at the ends of the ranges, with the descriptors Empty and not. -/
theorem witness_LoadScanLoads :
    ∀ words ∈ [[2, 1, 1, 8, 12], [0, 0], [0, 17] ++ List.replicate 51 1, [0, 16] ++ List.replicate 48 1,
        [0, 2, 1, 8, 12, 0, 8, 1], [0, 1, 2, 8, 1], [0, 1, 1, 8, 0], [0, 1, 1, 8, 13], [1, 1, 1, 8, 12]],
      (asking 14 words (withDisk [])).officerAsks (request 14 words) [] 14 ∧
        ({ asking 14 words (withDisk []) with scanActive := some scanning } : State).officerAsks (request 14 words) []
          14 ∧
        ({ asking 14 words (withDisk []) with scanQueued := some { scanning with phase := .loaded } } : State).officerAsks
          (request 14 words) [] 14 := by decide +kernel

/-- Their codes and statuses: FORMAT, NO_VOLUME, OUT_OF_RANGE and DONE; BUSY when the Queued descriptor is not Empty. -/
theorem test_load_scan_rows :
    [[2, 1, 1, 8, 12], [0, 0], [0, 17] ++ List.replicate 51 1, [0, 2, 1, 8, 12, 0, 8, 1], [0, 1, 1, 8, 0],
        [0, 1, 1, 8, 13], [1, 1, 1, 8, 12]].map
      (fun words =>
        after .loadScan { asking 14 words (withDisk []) with scanActive := some scanning }
          (fun t => t.txQueue.map (fun f => (f.status, f.code)))) =
      [some [(4, Code.format.number)], some [(4, Code.format.number)], some [(4, Code.format.number)],
        some [(4, Code.noVolume.number)], some [(4, Code.outOfRange.number)], some [(4, Code.outOfRange.number)],
        some [(1, 14)]] ∧
    after .loadScan { asking 14 [1, 1, 1, 8, 12] (withDisk []) with scanQueued := some { scanning with phase := .loaded } }
      (fun t => t.txQueue.map (fun f => (f.status, f.code))) = some [(4, Code.busy.number)] := by decide +kernel

theorem witness_LoadScanLoads_visit :
    (asking 14 [1, 1, 1, 8, 12] (withDisk [(8, closedSeg)])).canonical ∧
      (asking 14 [1, 1, 1, 8, 12] (withDisk [(8, closedSeg)])).officerAsks (request 14 [1, 1, 1, 8, 12]) [] 14 :=
  ⟨canonical_of _ (by decide +kernel), by decide +kernel⟩

/-- R162, R165 and R166: the scan enters the Active descriptor and asks for the first four pieces in the same step. -/
theorem test_load_scan_visits :
    after .loadScan (asking 14 [1, 1, 1, 8, 12] (withDisk [(8, closedSeg)]))
      (fun t => (t.scanActive.map (fun x => x.list.map (fun e => (e.offset, e.count))), t.arbiter.verify.length)) =
      some (some [(0, 8), (8, 8), (16, 8), (24, 8)], 4) := by decide +kernel

/-- A request that waits while a scan is Active. -/
def scanAsked (code : Nat) (words : List Nat) (x : Scan) : State :=
  { asking code words (withDisk []) with scanActive := some x }

theorem witness_ScanCancelledOrReleased_cancel :
    (asking 15 [2] live).officerAsks (request 15 [2]) [] 15 ∧
    ((asking 15 [1] live).officerAsks (request 15 [1]) [] 15 ∧ live.scanQueued = none ∧
      (asking 15 [0] live).officerAsks (request 15 [0]) [] 15 ∧ live.scanActive = none) ∧
    (({ asking 15 [1] live with scanQueued := some { scanning with phase := .loaded } } : State).officerAsks
      (request 15 [1]) [] 15) ∧
    ((scanAsked 15 [0] { scanning with phase := .done }).officerAsks (request 15 [0]) [] 15 ∧
      (scanAsked 15 [0] scanning).officerAsks (request 15 [0]) [] 15 ∧ scanning.phase = .running ∧
      scanning.cancelRequested = false ∧ ∀ e ∈ scanning.list, e.progress ≠ .sent) ∧
    ((scanAsked 15 [0] { scanning with list := [sentRead] }).officerAsks (request 15 [0]) [] 15 ∧
      ∃ e ∈ [sentRead], e.progress = .sent) := by
  refine ⟨?_, ?_, ?_, ?_, ?_⟩ <;> decide +kernel

theorem witness_ScanCancelledOrReleased_release :
    ((asking 16 [] live).officerAsks (request 16 []) [] 16 ∧ live.scanActive = none) ∧
    ((scanAsked 16 [] scanning).officerAsks (request 16 []) [] 16 ∧ scanning.phase = .running) ∧
    ((scanAsked 16 [] { scanning with phase := .done }).officerAsks (request 16 []) [] 16 ∧
      (scanAsked 16 [] { scanning with phase := .done }).scanQueued = none) ∧
    (({ scanAsked 16 [] { scanning with phase := .stopped .linkReset } with
        scanQueued := some { scanning with phase := .loaded } } : State).officerAsks (request 16 []) [] 16 ∧
      StopCause.linkReset.number = 3) := by decide +kernel

/-- A release that promotes the Queued scan, whose first segment is Closed. -/
theorem witness_ScanCancelledOrReleased_promotes :
    let s : State :=
      { asking 16 [] (withDisk [(8, closedSeg)]) with
        scanActive := some { scanning with phase := .done }, scanQueued := some { scanning with phase := .loaded } }
    s.officerAsks (request 16 []) [] 16 ∧ s.canonical ∧ scanning.ranges[0]? = some { volume := 1, first := 8, count := 2 } :=
  ⟨by decide +kernel, canonical_of _ (by decide +kernel), rfl⟩

/-- The Faulted context 3 with a record in slot 4 and a RESUME that waits. -/
def faulted (g : Segment) (x : FaultRecord) (f : Frame) : State :=
  { (asked f (withDisk [(8, g)])).setContext 3 (.write { writer with state := .faulted, credit := 0 }) with
    records := live.records.setIfInBounds 3 (some x) }

theorem witness_ResumeReissues_judged :
    (∀ x ∈ [settledRecord, { settledRecord with state := .reissuing }, { settledRecord with settled := false },
        { settledRecord with reissues := 3 }],
      (∀ words ∈ [[0, 0], [5, 1], [4, 2], [1, 0], [1, 1], [4, 0], [4, 1]],
        (faulted openSeg x (request 17 words)).officerAsks (request 17 words) [] 17) ∧
      (faulted openSeg x (request 17 [])).record 4 = some x ∧ (faulted openSeg x (request 17 [])).record 1 = none) ∧
    settledRecord.state = .held ∧ settledRecord.settled = true := by decide +kernel

theorem witness_ResumeReissues_begins :
    (let f := request 17 [4, 0]
     let s := faulted openSeg settledRecord f
     s.officerAsks f [] 17 ∧ f.param 0 = 4 ∧ f.param 1 = 0 ∧ s.record 4 = some settledRecord ∧
       settledRecord.state = .held ∧ settledRecord.settled = true ∧ settledRecord.reissues < 3 ∧
       s.context settledRecord.context = .write { writer with state := .faulted, credit := 0 }) ∧
    (faulted openSeg settledRecord (request 17 [4, 0])).canonical :=
  ⟨by decide +kernel, canonical_of _ (by decide +kernel)⟩

/-- The last answer of a reissue whose RESUME waits, inside its segment and one that fills it. -/
theorem witness_ResumeReissues_succeeds :
    ∀ k ∈ [Continuation.resumeStreaming, .resumeDraining],
      ∀ p ∈ [([sentWrite], [doneWrite]), ([fillingWrite], [filledWrite]),
          ([fillingWrite, nextWrite], [filledWrite, nextWrite])],
        let x : FaultRecord := { settledRecord with state := .reissuing, resumer := some (0, 9), continuation := k }
        let w := { writer with state := .reissuing, pending := p.1, next := some 9, closeFlag := some true }
        let s : State := { writing openSeg w with records := live.records.setIfInBounds 3 (some x) }
        s.writeAnswered (mstatusFrame 2 17).wire (mstatusFrame 2 17) 3 w p.2 [] ∧ s.recordOf 3 = some 4 ∧
          s.record 4 = some x ∧ s.txQueue.length + 2 ≤ 2048 ∧ (s.initiator 0).state ≠ .absent := by
  intro k hk p hp
  simp only [List.mem_cons, List.not_mem_nil, or_false] at hk hp
  rcases hk with rfl | rfl <;> rcases hp with rfl | rfl | rfl <;>
    exact ⟨writing_answered openSeg { writer with state := .reissuing, pending := _, next := some 9, closeFlag := some true }
        (by decide) 17 (.inr rfl) _ _ (by decide +kernel) (by decide) (by decide),
      by decide +kernel, rfl, by decide, by decide +kernel⟩

/-- R153: the reissue that succeeds in Streaming answers the RESUME and sends a CREDIT. -/
theorem test_reissue_succeeds :
    after (.mstatus (mstatusFrame 2 16).wire)
      { writing openSeg { writer with state := .reissuing, pending := [sentWrite] } with
        records :=
          live.records.setIfInBounds 3
            (some { settledRecord with state := .reissuing, resumer := some (0, 9), continuation := .resumeStreaming }) }
      (fun t => (t.record 4, t.txQueue.map Frame.kind)) = some (none, [7, 8]) := by decide +kernel

theorem witness_AbandonDisposes :
    ∀ g ∈ [{ openSeg with writer := some 3, faultPending := true }, { openSeg with cls := some 1 }],
      let f := request 17 [4, 1]
      let w := { writer with state := .faulted, credit := 0 }
      let s := faulted g settledRecord f
      (s.officerAsks f [] 17 ∧ f.param 0 = 4 ∧ f.param 1 = 1 ∧ s.record 4 = some settledRecord ∧
        settledRecord.state = .held ∧ settledRecord.settled = true ∧
        settledRecord.place = some { volume := 1, segment := 8, offset := 100 } ∧ s.context 3 = .write w ∧ s.hears w ∧
        s.segmentExists 1 8 = true ∧ (s.segment 1 8).state = .opened) ∧ s.canonical := by
  intro g hg
  simp only [List.mem_cons, List.not_mem_nil, or_false] at hg
  rcases hg with rfl | rfl <;> exact ⟨by decide +kernel, canonical_of _ (by decide +kernel)⟩

/-- A segment of the part with volume 1: one that the list gives, or a fresh one. -/
theorem withDisk_segment (l : List (Nat × Segment)) (v m : Nat) :
    (withDisk l).segment v m = if v = 1 then Sparse.get Segment.fresh l m else Segment.fresh := by
  by_cases h1 : v = 1
  · rw [if_pos h1, h1]
    rfl
  · rw [if_neg h1]
    by_cases hv : 1 ≤ v ∧ v ≤ 4
    · have : v = 2 ∨ v = 3 ∨ v = 4 := by omega
      rcases this with rfl | rfl | rfl <;> rfl
    · unfold State.segment
      rw [volume_outside _ v hv]
      rfl

/-- A faulted span: segment 8 and the reserved segment 9 name its context, and no other segment does. -/
theorem witness_AbandonDisposes_writers :
    ∀ k ∈ [some 0, some 1, some 5],
      let g := { openSeg with cls := k, writer := some 3, faultPending := true }
      let n := { Segment.fresh with state := .opened, cls := k, key := some 0, writer := some 3 }
      let w := { writer with state := .faulted, credit := 0, next := some 9 }
      let f := request 17 [4, 1]
      let s : State :=
        { (asked f (withDisk [(8, g), (9, n)])).setContext 3 (.write w) with
          records := live.records.setIfInBounds 3 (some settledRecord) }
      (s.officerAsks f [] 17 ∧ s.record 4 = some settledRecord ∧ s.context settledRecord.context = .write w ∧
        s.hears w ∧ s.segmentExists 1 8 = true ∧ (s.segment 1 8).state = .opened) ∧ s.canonical ∧
      (∀ v m, (s.segment v m).writer = some 3 →
        v = w.volume ∧ (m = w.startSegment ∨ m = w.current ∨ w.next = some m) ∧ m < (s.volume v).count) := by
  intro k hk
  simp only [List.mem_cons, List.not_mem_nil, or_false] at hk
  refine ⟨by rcases hk with rfl | rfl | rfl <;> decide +kernel, canonical_of _ fun i => ?_, fun v m h => ?_⟩
  · rcases hk with rfl | rfl | rfl <;> (revert i; decide +kernel)
  · have h' : ((withDisk
        [(8, { openSeg with cls := k, writer := some 3, faultPending := true }),
          (9, { Segment.fresh with state := .opened, cls := k, key := some 0, writer := some 3 })]).segment v m).writer =
        some 3 := h
    rw [withDisk_segment] at h'
    by_cases hv : v = 1
    · subst hv
      rw [if_pos rfl] at h'
      by_cases h8 : m = 8
      · subst h8
        exact ⟨rfl, .inl rfl, (by decide : 8 < 20)⟩
      · by_cases h9 : m = 9
        · subst h9
          exact ⟨rfl, .inr (.inr rfl), (by decide : 9 < 20)⟩
        · simp [Sparse.get, h8, h9, Segment.fresh] at h'
    · rw [if_neg hv] at h'
      simp [Segment.fresh] at h'

/-- An unfinished collection of volume 1 at a segment. -/
def collecting (n : Nat) (entries : List ActivityEntry) : State :=
  { withDisk [(8, { openSeg with readSince := true })] with
    collection := some { initiator := 0, tag := 4, volume := 1, nextSegment := n, entries := entries } }

theorem witness_CollectionRuns :
    ((asking 18 [5, 0] (withDisk [])).officerAsks (request 18 [5, 0]) [] 18 ∧
      check2 (withDisk []) InitiatorEntry.first 5 ≠ none) ∧
    ((asking 18 [1, 20] (withDisk [])).officerAsks (request 18 [1, 20]) [] 18 ∧
      check2 (withDisk []) ((withDisk []).initiator 0) 1 = none) ∧
    ((asking 18 [1, 19] (collecting 8 [])).officerAsks (request 18 [1, 19]) [] 18 ∧
      (collecting 8 []).collection ≠ none) ∧
    (asking 18 [1, 19] (withDisk [])).officerAsks (request 18 [1, 19]) [] 18 ∧
    ((collecting 8 []).takesEvents = true ∧ (collecting 8 []).settled ∧ (collecting 8 []).ingestLink = .ready ∧
      ((collecting 8 []).initiator 0).state ≠ .absent ∧ (collecting 8 []).segmentExists 1 8 = true ∧
      (collecting 20 []).segmentExists 1 20 = false ∧ ((collecting 19 []).volume 1).count ≤ 19 + 1) ∧
    256 ≤ (List.replicate 255 { segment := 0, readSince := true, writtenSince := true } ++
      [{ segment := 8, readSince := true, writtenSince := false }] : List ActivityEntry).length := by
  refine ⟨by decide +kernel, by decide +kernel, by decide +kernel, by decide +kernel,
    ⟨rfl, rfl, rfl, by decide +kernel⟩, by decide +kernel⟩

/-- The Arbiter with one MERASE asking for a slot, after a grant of the read class. -/
def oneErase : State :=
  { withDisk [(8, erasingSeg)] with
    arbiter := { Arbiter.start with erase := [{ command := eraseCommand 1 8, owner := .erase }], last := .read }
    eraseQueue := [{ sentErase with mediaTag := none, progress := .waiting }]
    slots := live.slots.setIfInBounds 0 .busyLate }

theorem witness_GrantFollowsRotation :
    (oneErase.takesEvents = true ∧ oneErase.settled ∧ oneErase.mediaLink = .ready ∧ oneErase.slot 1 = .free ∧
      (∀ u, u < 1 → oneErase.slot u ≠ .free) ∧ oneErase.eligible .erase = true ∧
      oneErase.arbiter.queue .erase = { command := eraseCommand 1 8, owner := .erase } :: [] ∧
      oneErase.arbiter.last.rotation = [] ++ .erase :: [.verify, .write, .read]) ∧
    ((withDisk []).setContext 3 (.write { writer with pending := [{ sentWrite with mediaTag := none }] })).context 3 =
      .write { writer with pending := [] ++ { sentWrite with mediaTag := none } :: [] } ∧
    asksFor writer { command := writer.command sentWrite, owner := .write 3 } { sentWrite with mediaTag := none } =
      true ∧
    ReadEntry.asks (readCommand 1 8 sentRead) { sentRead with mediaTag := none, progress := .waiting } = true :=
  ⟨⟨rfl, rfl, rfl, by decide +kernel, by decide +kernel, by decide +kernel, rfl, rfl⟩, rfl, by decide, by decide⟩

/-- A pending write that still waits behind the sent one. -/
def waitingWrite : PendingWrite := { sentWrite with offset := 101, mediaTag := none }

/-- A pending write sent in slot 5. -/
def otherWrite : PendingWrite := { sentWrite with offset := 101, mediaTag := some 5 }

/-- Each state of a context, with writes that leave a rest and writes that leave none, in order and out of it, and a class 0
segment. -/
theorem witness_WriteConfirmed (st : WriteState) (status : Nat) (hs : status = 16 ∨ status = 17) :
    (let w := { writer with state := st, pending := [sentWrite, waitingWrite] }
     (writing openSeg w).writeAnswered (mstatusFrame 2 status).wire (mstatusFrame 2 status) 3 w [doneWrite]
       [waitingWrite]) ∧
    (let w := { writer with state := st, pending := [otherWrite, sentWrite] }
     (writing openSeg w).writeAnswered (mstatusFrame 2 status).wire (mstatusFrame 2 status) 3 w []
       [otherWrite, doneWrite] ∧ otherWrite.mediaTag ≠ none) ∧
    (let w := { writer with state := st, pending := [{ sentWrite with offset := 16382 }] }
     let g := { openSeg with cls := some 0 }
     (writing g w).writeAnswered (mstatusFrame 2 status).wire (mstatusFrame 2 status) 3 w
       [{ doneWrite with offset := 16382 }] [] ∧ 16382 + 1 < 16384) := by
  cases st <;>
    exact ⟨writing_answered _ _ (by decide) _ hs _ _ (by decide +kernel) (by decide) (by decide),
      ⟨writing_answered _ _ (by decide) _ hs _ _ (by decide +kernel) (by decide) (by decide), by decide⟩,
      writing_answered _ _ (by decide) _ hs _ _ (by decide +kernel) (by decide) (by decide), by decide⟩

/-- The last answer of a Faulted context, at a first fault and at the second of a RESUME that waits. -/
theorem witness_WriteConfirmed_settles :
    ∀ x ∈ [{ settledRecord with settled := false, reissues := 0 },
        { settledRecord with settled := false, resumer := some (0, 9) }],
      let w := { writer with state := .faulted, pending := [sentWrite, waitingWrite] }
      let s : State := { writing openSeg w with records := live.records.setIfInBounds 3 (some x) }
      s.writeAnswered (mstatusFrame 2 16).wire (mstatusFrame 2 16) 3 w [doneWrite] [waitingWrite] ∧
        (∀ e ∈ [waitingWrite], e.mediaTag = none) ∧ s.recordOf 3 = some 4 ∧ s.record 4 = some x ∧
        (s.initiator 0).state ≠ .absent := by
  intro x hx
  have h := writing_answered openSeg { writer with state := .faulted, pending := [sentWrite, waitingWrite] } (by decide)
    16 (.inl rfl) [doneWrite] [waitingWrite] (by decide +kernel) (by decide) (by decide)
  simp only [List.mem_cons, List.not_mem_nil, or_false] at hx
  rcases hx with rfl | rfl <;>
    exact ⟨h, by decide, by decide +kernel, rfl, by decide +kernel⟩

/-- The write that fills segment 8, in each state: of class 5 and of class 0, the last of its transfer, with a next segment
whose first write still waits, and with one whose first write is confirmed and leaves behind the fill. -/
theorem witness_WriteConfirmed_fills (st : WriteState) :
    ∀ g ∈ [{ openSeg with faultPending := true }, { openSeg with cls := some 0, appendPoint := 16384 }],
      (let w := { writer with state := st, pending := [fillingWrite] }
       (writing g w).writeAnswered (mstatusFrame 2 17).wire (mstatusFrame 2 17) 3 w [filledWrite] []) ∧
      (let w := { writer with state := st, pending := [fillingWrite, { nextWrite with confirmed := false }], next := some 9 }
       (writing g w).writeAnswered (mstatusFrame 2 17).wire (mstatusFrame 2 17) 3 w [filledWrite]
         [{ nextWrite with confirmed := false }]) ∧
      (let w := { writer with state := st, pending := [fillingWrite, nextWrite, waitingWrite], next := some 9 }
       (writing g w).writeAnswered (mstatusFrame 2 17).wire (mstatusFrame 2 17) 3 w [filledWrite, nextWrite]
         [waitingWrite] ∧ [filledWrite, nextWrite] = [] ++ filledWrite :: [nextWrite] ∧
         filledWrite.offset + filledWrite.count = 16384 ∧ w.next = some nextWrite.segment ∧
         nextWrite.offset + nextWrite.count < 16384 ∧ w.next ≠ some filledWrite.segment) := by
  intro g hg
  simp only [List.mem_cons, List.not_mem_nil, or_false] at hg
  rcases hg with rfl | rfl <;> cases st <;>
    exact ⟨writing_answered _ _ (by decide) _ (.inr rfl) _ _ (by decide +kernel) (by decide) (by decide),
      writing_answered _ _ (by decide) _ (.inr rfl) _ _ (by decide +kernel) (by decide) (by decide),
      writing_answered _ _ (by decide) _ (.inr rfl) _ _ (by decide +kernel) (by decide) (by decide),
      by decide, by decide, by decide, by decide, by decide⟩

/-- R14, R86 and R88 over worked sequence 11.1: a run fills segment 8 and goes on behind the fill; one CREDIT for all. -/
theorem test_run_past_fill :
    after (.mstatus (mstatusFrame 2 16).wire)
      (writing openSeg { writer with next := some 9, credit := 0, pending := [fillingWrite, nextWrite] })
      (fun t => ((t.segment 1 8).state, (t.segment 1 9).appendPoint,
        t.txQueue.map (fun f => [f.kind, f.segment, f.offset, f.count]))) =
      some (.closed, 1, [[8, 9, 1, 2]]) := by decide +kernel

/-- R14 and R88: a full segment closes, and the transfer goes on in the next one with one CREDIT more. -/
theorem test_filling_closes :
    after (.mstatus (mstatusFrame 2 16).wire)
      (writing openSeg
        { writer with next := some 9, pending := [{ sentWrite with offset := 16383 }] })
      (fun t => ((t.segment 1 8).state, (t.segment 1 8).appendPoint, t.txQueue.map (fun f => (f.segment, f.offset)))) =
      some (.closed, 16384, [(9, 0)]) := by decide +kernel

/-- Slot 2 is Busy with a command whose timer has run out: a FAULT, an MDATA without a block and the timeout each hand
its owner a failure. -/
theorem fails_each (s : State) (owner : Owner) (blocks : Option Nat) (hp : s.takesEvents = true) (hc : s.settled)
    (hm : s.mediaLink = .ready) (ho : ∃ command cls, s.slot 2 = .busy command cls (some owner) 0)
    (hb : blocks ≠ some 0) :
    s.fails (.mstatus (mstatusFrame 2 18).wire) 2 owner blocks false (s.slotFreed (mstatusFrame 2 18).wire 2) ∧
      s.fails (.mdata (Frame.blank 20 0 2 0).wire) 2 owner blocks false (s.slotFreed (Frame.blank 20 0 2 0).wire 2) ∧
      s.fails (.mediaTimeout 2) 2 owner blocks true (s.setSlot 2 .busyLate) := by
  obtain ⟨command, cls, hslot⟩ := ho
  refine ⟨.inl ⟨_, mstatusFrame 2 18, rfl, by decide +kernel, ⟨hp, hc, hm, by decide +kernel, by decide +kernel, rfl, by decide⟩, rfl,
      ⟨_, _, _, hslot⟩, fun _ => by decide, rfl, rfl⟩,
    .inr (.inl ⟨_, Frame.blank 20 0 2 0, rfl, by decide +kernel,
      ⟨hp, hc, hm, by decide +kernel, by decide +kernel, rfl, by decide⟩, rfl, ⟨_, _, _, hslot⟩, ?_, rfl, rfl⟩),
    .inr (.inr ⟨rfl, hp, hc, by decide, ⟨_, _, hslot⟩, rfl, rfl⟩)⟩
  intro n hn
  have hz : 0 ≠ n := fun h => hb (h ▸ hn)
  simp [Frame.holdsBlocks, Frame.blank, hz]

/-- Each way to fail, in each state of a context, with a newer write in flight and without one. -/
theorem witness_WriteFailureFaults (st : WriteState) :
    ∀ more ∈ [[], [otherWrite]],
      let w := { writer with state := st, pending := sentWrite :: more }
      (∃ ev u, (writing openSeg w).fails ev 2 (.write 3) none false u) ∧
        (∃ ev u, (writing openSeg w).fails ev 2 (.write 3) none true u) ∧
        (writing openSeg w).context 3 = .write w ∧ (writing openSeg w).canonical ∧ (writing openSeg w).hears w ∧
        (writing openSeg w).segmentExists w.volume w.current = true ∧ (writing openSeg w).txQueue.length < 2048 := by
  intro more hm
  simp only [List.mem_cons, List.not_mem_nil, or_false] at hm
  rcases hm with rfl | rfl
  · have h := fails_each (writing openSeg { writer with state := st, pending := [sentWrite] }) (.write 3) none rfl rfl rfl
      ⟨_, _, rfl⟩ (by decide)
    exact ⟨⟨_, _, h.1⟩, ⟨_, _, h.2.2⟩, rfl, writing_canonical _ _ (by decide), ⟨rfl, by cases st <;> decide +kernel, rfl, rfl⟩,
      by cases st <;> decide +kernel, by show (0 : Nat) < 2048; decide⟩
  · have h := fails_each (writing openSeg { writer with state := st, pending := [sentWrite, otherWrite] }) (.write 3) none
      rfl rfl rfl ⟨_, _, rfl⟩ (by decide)
    exact ⟨⟨_, _, h.1⟩, ⟨_, _, h.2.2⟩, rfl, writing_canonical _ _ (by decide), ⟨rfl, by cases st <;> decide +kernel, rfl, rfl⟩,
      by cases st <;> decide +kernel, by show (0 : Nat) < 2048; decide⟩

/-- The record a failure takes: slot 4 is the only Free one; slot 4 is the context's; none is Free. -/
theorem witness_WriteFailureFaults_records :
    (let s : State :=
      { oneWrite writer with
        records := (Vector.replicate 4 (some { settledRecord with context := 0 })).setIfInBounds 3 none }
     s.record 4 = none ∧ (∀ k : Fin 3, s.record (k.val + 1) ≠ none) ∧ ∀ k x, s.record k = some x → x.context ≠ 3) ∧
    (let s : State := { oneWrite writer with records := live.records.setIfInBounds 3 (some settledRecord) }
     s.recordOf 3 = some 4 ∧ s.record 4 = some settledRecord ∧ settledRecord.resumer = none) ∧
    (let s : State := { oneWrite writer with records := Vector.replicate 4 (some { settledRecord with context := 0 }) }
     (∀ k : Fin 4, s.record (k.val + 1) ≠ none) ∧ writer.fatal = none) :=
  ⟨⟨rfl, by decide +kernel, records_of _ _ (by decide +kernel)⟩, ⟨by decide +kernel, rfl, rfl⟩, by decide +kernel, rfl⟩

/-- The MERASE of segment 8 sent in slot 2. -/
def eraseSent : State :=
  { withDisk [(8, erasingSeg)] with
    eraseQueue := [sentErase]
    slots := live.slots.setIfInBounds 2 (.busy (eraseCommand 1 8) .erase (some .erase) 0) }

theorem witness_EraseAnswered :
    eraseSent.eraseQueue = [sentErase] ∧ sentErase.requester = some (0, 9) ∧ eraseSent.ingestLink = .ready ∧
      (eraseSent.initiator 0).state ≠ .absent ∧ eraseSent.txQueue.length < 2048 ∧
      eraseSent.answers (mstatusFrame 2 16).wire (mstatusFrame 2 16) 19 ∧
      eraseSent.answers (mstatusFrame 2 17).wire (mstatusFrame 2 17) 19 ∧
      eraseSent.answers (mstatusFrame 2 18).wire (mstatusFrame 2 18) 19 ∧
      bytesAreMdata (mstatusFrame 2 18).wire = false ∧ sentErase.mediaTag = some 2 ∧
      eraseSent.slot 2 = .busy (eraseCommand 1 8) .erase (some .erase) 0 := by decide +kernel

theorem witness_EraseAnswered_canonical : eraseSent.canonical ∧ eraseSent.settled :=
  ⟨canonical_of _ (by decide +kernel), rfl⟩

/-- The only entry, with a requester and without, answered and failed each way. -/
theorem witness_EraseAnswered_fails :
    ∀ p ∈ [some (0, 9), none],
      let s : State := { eraseSent with eraseQueue := [{ sentErase with requester := p }] }
      s.eraseQueue = [] ++ { sentErase with requester := p } :: [] ∧ s.segmentExists 1 8 = true ∧
        (s.segment 1 8).state = .erasing ∧ s.owned 2 .erase ∧ s.canonical ∧
        (∃ ev u, s.fails ev 2 .erase none false u) ∧ ∃ ev u, s.fails ev 2 .erase none true u := by
  intro p _
  have h := fails_each { eraseSent with eraseQueue := [{ sentErase with requester := p }] } .erase none rfl rfl rfl
    ⟨_, _, rfl⟩ (by decide)
  have hs : (eraseSent.segmentExists 1 8 = true ∧ (eraseSent.segment 1 8).state = .erasing) := by decide +kernel
  exact ⟨rfl, hs.1, hs.2, ⟨_, _, _, rfl⟩, fun v => witness_EraseAnswered_canonical.1 v, ⟨_, _, h.1⟩, ⟨_, _, h.2.2⟩⟩

/-- Slot 15 Busy without an owner, slot 14 Busy-late. -/
def ownerless (timer : Nat) : State :=
  { live with
    slots := (live.slots.setIfInBounds 15 (.busy (eraseCommand 1 8) .erase none timer)).setIfInBounds 14 .busyLate }

theorem witness_AnswersWithoutOwner :
    ((ownerless 0).answers (mstatusFrame 15 16).wire (mstatusFrame 15 16) 19 ∧
      (ownerless 0).slot 15 = .busy (eraseCommand 1 8) .erase none 0) ∧
    ((ownerless 0).answers (mstatusFrame 14 16).wire (mstatusFrame 14 16) 19 ∧ (ownerless 0).slot 14 = .busyLate ∧
      (ownerless 0).answers (mstatusFrame 0 16).wire (mstatusFrame 0 16) 19 ∧ (ownerless 0).slot 0 = .free) ∧
    (bytesAreMdata [19#8] = false ∧ (ownerless 0).mediaLink = .ready ∧ checkPasses [19#8] = false) ∧
    (ownerless 1).slot 15 = .busy (eraseCommand 1 8) .erase none (0 + 1) := by decide +kernel

theorem witness_AnswersWithoutOwner_mdata :
    (∀ tag ∈ [15, 14, 0],
      bytesAreMdata (Frame.blank 20 0 tag 0).wire = true ∧
        (ownerless 0).answers (Frame.blank 20 0 tag 0).wire (Frame.blank 20 0 tag 0) 20) ∧
      bytesAreMdata [20#8] = true ∧ checkPasses [20#8] = false := by decide +kernel

/-- The bytes of a frame pass their check and are the frame's. -/
theorem wire_checked (f : Frame) : checkPasses f.wire = true ∧ checkedBody f.wire = f.body := by
  have hl : (wordBytes (checkWord f.body)).length = 4 := rfl
  have hb : checkedBody f.wire = f.body := by
    unfold checkedBody Frame.wire
    rw [List.length_append, hl, Nat.add_sub_cancel, List.take_left']
    rfl
  refine ⟨?_, hb⟩
  unfold checkPasses
  rw [hb, Bool.and_eq_true, decide_eq_true_eq, beq_iff_eq]
  unfold Frame.wire
  rw [List.length_append, hl, Nat.add_sub_cancel]
  exact ⟨by omega, List.drop_left' rfl⟩

/-- An MDATA of one block with tag 2. -/
def mdataOf (blocks : List Byte) : Frame :=
  { Frame.blank 20 0 2 0 with count := 1, payloadLength := 4096, payload := blocks }

/-- The MDATA of a block of zeros. -/
def mdataFrame : Frame := mdataOf (List.replicate 4096 0#8)

theorem mdata_read (blocks : List Byte) : Frame.ofBody (checkedBody (mdataOf blocks).wire) = some (mdataOf blocks) := by
  rw [(wire_checked _).2]
  simp [Frame.ofBody, Frame.body, Frame.header, halfBytes, mdataOf, Frame.blank]

/-- The read context 3, its one entry sent in slot 2. -/
def oneRead : State :=
  { (withDisk [(8, openSeg)]).setContext 3 (.read reader) with
    slots := live.slots.setIfInBounds 2 (.busy (readCommand 1 8 sentRead) .read (some (.read 3)) 5) }

/-- The read context 3 with the entry of slot 2 among others. -/
def oneReadAmong (older newer : List ReadEntry) (ending : Option ReadEnding) : State :=
  { (withDisk [(8, openSeg)]).setContext 3
      (.read
        { reader with
          list := older ++ { sentRead with count := 1 } :: newer, ending := ending, requested := 2 }) with
    slots := live.slots.setIfInBounds 2 (.busy (readCommand 1 8 sentRead) .read (some (.read 3)) 5) }

/-- The entry once its blocks have come, and a newer one whose blocks came before. -/
def cameRead : ReadEntry :=
  { sentRead with count := 1, progress := .arrived, mediaTag := none, data := mdataFrame.payload }

/-- A newer entry whose blocks have come already. -/
def earlyRead : ReadEntry := { offset := 1, count := 1, mediaTag := none, progress := .arrived, data := [] }

/-- An older entry that still waits for its answer, in slot 5. -/
def olderRead : ReadEntry := { offset := 0, count := 1, mediaTag := some 5, progress := .sent, data := [] }

/-- The blocks of an entry arrive: it is alone, it waits for an older one, it lets a newer one follow, and one stays
behind both; with each ending. -/
theorem witness_ReadServed (ending : Option ReadEnding) :
    ∀ p ∈ [([], [], [cameRead], []), ([olderRead], [], [], [olderRead, cameRead]),
        ([], [earlyRead], [cameRead, earlyRead], []), ([], [earlyRead, olderRead], [cameRead, earlyRead], [olderRead])],
      (oneReadAmong p.1 p.2.1 ending).answers mdataFrame.wire mdataFrame 20 ∧
        (oneReadAmong p.1 p.2.1 ending).owned 2 (.read 3) ∧
        (oneReadAmong p.1 p.2.1 ending).context 3 =
          .read
            { reader with
              list := p.1 ++ { sentRead with count := 1 } :: p.2.1, ending := ending, requested := 2 } ∧
        (∀ y ∈ p.1 ++ p.2.1, y.mediaTag ≠ some 2) ∧ (oneReadAmong p.1 p.2.1 ending).ingestLink = .ready ∧
        ((oneReadAmong p.1 p.2.1 ending).initiator 0).state ≠ .absent ∧
        (oneReadAmong p.1 p.2.1 ending).txQueue.length + (p.1 ++ { sentRead with count := 1 } :: p.2.1).length < 2048 ∧
        (oneReadAmong p.1 p.2.1 ending).canonical ∧
        (oneReadAmong p.1 p.2.1 ending).segmentExists reader.volume reader.segment = true ∧
        p.1 ++ { sentRead with count := 1, progress := .arrived, mediaTag := none, data := mdataFrame.payload } :: p.2.1 =
          p.2.2.1 ++ p.2.2.2 ∧
        (∀ h ∈ p.2.2.1, h.progress = .arrived) ∧ ∀ h, p.2.2.2.head? = some h → h.progress ≠ .arrived := by
  have hc (l : List (Nat × Segment)) (h : l = [(8, openSeg)]) : (withDisk l).canonical := by
    subst h
    exact canonical_of _ (by decide +kernel)
  intro p hp
  simp only [List.mem_cons, List.not_mem_nil, or_false] at hp
  rcases hp with rfl | rfl | rfl | rfl <;>
    exact ⟨⟨rfl, rfl, rfl, (wire_checked _).1, mdata_read _, rfl, by decide⟩, ⟨_, _, _, rfl⟩, rfl, by decide, rfl,
      (by decide +kernel : ((withDisk []).initiator 0).state ≠ .absent), by show 0 + _ < 2048; decide,
      fun v => hc _ rfl v, (by decide +kernel : (withDisk []).segmentExists 1 8 = true), rfl,
      by simp [cameRead, earlyRead], by simp [olderRead]⟩

/-- The one block is whole, and its kind byte is that of an MDATA. -/
theorem witness_ReadServed_blocks : mdataFrame.holdsBlocks 1 = true ∧ bytesAreMdata mdataFrame.wire = true := by
  refine ⟨?_, rfl⟩
  show (decide ((1 : Nat) = 1) && decide ((4096 : Nat) = 1 * 4096) &&
    decide ((List.replicate 4096 (0#8 : Byte)).length = 1 * 4096)) = true
  rw [List.length_replicate]
  rfl

/-- The read context 3 with a waiting entry before or behind the one in slot 2, whose timer has run out. -/
def failingRead (older newer : List ReadEntry) : State :=
  { (withDisk [(8, openSeg)]).setContext 3 (.read { reader with list := older ++ sentRead :: newer }) with
    slots := live.slots.setIfInBounds 2 (.busy (readCommand 1 8 sentRead) .read (some (.read 3)) 0) }

theorem witness_ReadServed_fails :
    ∀ older ∈ [[], [waitingEntry (0, 8)]], ∀ newer ∈ [[], [waitingEntry (8, 8)]],
      (∃ ev u, (failingRead older newer).fails ev 2 (.read 3) (some sentRead.count) false u) ∧
        (∃ ev u, (failingRead older newer).fails ev 2 (.read 3) (some sentRead.count) true u) ∧
        (failingRead older newer).context 3 = .read { reader with list := older ++ sentRead :: newer } ∧
        (∀ x ∈ older ++ newer, x.mediaTag ≠ some 2) ∧ (failingRead older newer).ingestLink = .ready ∧
        ((failingRead older newer).initiator 0).state ≠ .absent := by
  intro older ho newer hn
  have h := fails_each (failingRead older newer) (.read 3) (some sentRead.count) rfl rfl rfl ⟨_, _, rfl⟩ (by decide)
  simp only [List.mem_cons, List.not_mem_nil, or_false] at ho hn
  rcases ho with rfl | rfl <;> rcases hn with rfl | rfl <;>
    exact ⟨⟨_, _, h.1⟩, ⟨_, _, h.2.2⟩, rfl, by decide, rfl, by decide +kernel⟩

/-- R106: a failed read with none left is answered FAULTED and freed. -/
theorem test_failed_read :
    after (.mediaTimeout 2) (failingRead [] [waitingEntry (8, 8)])
      (fun t => (t.context 3, t.slot 2, t.txQueue.map Frame.status)) = some (.free, .busyLate, [3]) := by decide +kernel

/-- A pass at a segment. -/
def passing (g : Segment) (n : Nat) : State :=
  { withDisk [(n, g)] with sweeper := { state := .passing 1 n, passAgain := false } }

theorem witness_SweeperVisits :
    ((passing closedSeg 19).takesEvents = true ∧ (passing closedSeg 19).settled ∧
      (passing closedSeg 19).sweeper.state = .passing 1 19 ∧ (passing closedSeg 19).clock.state = .running ∧
      (passing closedSeg 19).segmentExists 1 19 = true) ∧
    (closedSeg.state = .closed ∧ closedSeg.expiry = some 100 ∧ 100 ≤ (passing closedSeg 19).clock.value / 86400 ∧
      (passing closedSeg 19).covered 1 19 = false) ∧
    ((passing { closedSeg with expiry := some 101 } 8).segment 1 8).expiry = some 101 := by
  refine ⟨⟨rfl, rfl, rfl, rfl, by decide +kernel⟩, by decide +kernel, by decide +kernel⟩

/-- A cursor that leaves volume 1, and one whose segment is gone, with and without a later volume. -/
theorem witness_SweeperVisits_leaves :
    ∀ st ∈ [SweepState.leaving 1, .passing 1 20],
      let s : State := { passing closedSeg 8 with sweeper := { state := st, passAgain := false } }
      s.takesEvents = true ∧ s.settled ∧ s.clock.state = .running ∧ s.segmentExists 1 20 = false ∧
        ((s.setVolume 4 (disk [])).volume 4).state ≠ .absent ∧
        (∀ k : Fin 4, 1 < k.val → ((s.setVolume 4 (disk [])).volume k.val).state = .absent) ∧
        ∀ k : Fin 5, 1 < k.val → (s.volume k.val).state = .absent := by
  intro st hst
  simp only [List.mem_cons, List.not_mem_nil, or_false] at hst
  rcases hst with rfl | rfl <;>
    exact ⟨rfl, rfl, rfl, by decide +kernel, by decide +kernel, by decide +kernel, by decide +kernel⟩

/-- R129: a cursor that leaves its volume goes to the next volume, though its own has been created again. -/
theorem test_leaving_moves_on :
    after .sweeperVisit
      { (withDisk []).setVolume 3 (disk []) with sweeper := { state := .leaving 1, passAgain := false } }
      (fun t => t.sweeper.state) = some (.passing 3 0) := by decide +kernel

/-- The Walker at a hold in slot 64. -/
def walking (phase : HoldPhase) : State :=
  { withDisk [(8, expiredSeg)] with
    holds := live.holds.setIfInBounds 63 (some (holding phase)), walkQueue := [64] }

theorem witness_WalkerVisits :
    ((walking (.placing 8)).takesEvents = true ∧ (walking (.placing 8)).settled ∧
      (walking (.placing 8)).walkQueue = 64 :: [] ∧
      (walking (.placing 8)).hold 64 = some (holding (.placing 8)) ∧ 8 < (holding (.placing 8)).last) ∧
    (walking (.placing 9)).hold 64 = some (holding (.placing 9)) ∧
    ((walking (.releasing 8 10)).hold 64 = some (holding (.releasing 8 10)) ∧ 8 + 1 < 10) ∧
    (walking (.releasing 9 10)).hold 64 = some (holding (.releasing 9 10)) := by
  refine ⟨⟨rfl, rfl, rfl, rfl, by decide⟩, rfl, ⟨rfl, by decide⟩, rfl⟩

/-- A part without holds whose walk queue is empty meets the laws of the walk and of the hold counts. -/
theorem witness_WalkerVisits_laws :
    counted.walkLawful ∧ counted.mapSound ∧ counted.holdLawful ∧ ∃ t, exec .clockTick counted = .next t := by
  have hold : ∀ k, counted.hold k = none := by
    intro k
    unfold State.hold Table.get1
    split
    · rfl
    · show ((Vector.replicate 64 (none : Option Hold))[k - 1]?).getD none = none
      by_cases h : k - 1 < 64 <;> simp [h]
  refine ⟨⟨List.nodup_nil, fun k => ⟨fun h => absurd h (by simp [counted, withDisk, clockAt, live, State.reset,
    State.setVolume]), ?_⟩⟩, counted_sound, ⟨fun k h hk => ?_, ?_⟩, ⟨_, rfl⟩⟩
  · rintro ⟨h, hk, _⟩
    rw [hold] at hk
    cases hk
  · rw [hold] at hk
    cases hk
  · intro v n hn
    have hl : counted.holdList = [] := by decide +kernel
    rw [hl]
    simp only [List.filter_nil, List.length_nil, ite_self]
    by_cases hv : 1 ≤ v ∧ v ≤ 4
    · have : ∀ i : Fin 4, (counted.volume (i.val + 1)).count ≤ 20 ∧
          ∀ m : Fin 20, (counted.segment (i.val + 1) m.val).holdCount = 0 := by decide +kernel
      have h := this ⟨v - 1, by omega⟩
      simp only [Nat.sub_add_cancel hv.1] at h
      exact h.2 ⟨n, Nat.lt_of_lt_of_le hn h.1⟩
    · rw [volume_outside counted v hv] at hn
      exact absurd hn (by simp [Volume.absent])

/-- The Running scan at segment 8. -/
def visiting (g : Segment) : State := { withDisk [(8, g)] with scanActive := some scanning }

theorem witness_ScanVisits :
    ((visiting openSeg).takesEvents = true ∧ (visiting openSeg).settled ∧
      (visiting openSeg).scanActive = some scanning ∧ scanning.phase = .running ∧ scanning.segmentRead = none ∧
      scanning.cursor = some { entry := 1, segment := 8 } ∧
      scanning.ranges[1 - 1]? = some { volume := 1, first := 8, count := 2 } ∧ 8 + 1 < 8 + 2) ∧
    ((visiting openSeg).segment 1 8).state = .opened ∧
    (((visiting { closedSeg with appendPoint := 0 }).segment 1 8).appendPoint = 0 ∧
      (closedSeg.foldA, closedSeg.foldB) = (1, 0)) ∧
    (0 < ((visiting closedSeg).segment 1 8).appendPoint ∧ (visiting closedSeg).segmentExists 1 8 = true) := by
  refine ⟨⟨rfl, rfl, rfl, rfl, rfl, rfl, rfl, by decide⟩, by decide +kernel, by decide +kernel, by decide +kernel⟩

/-- The last segment of the last entry, and a comparison at append point 0 that does not match. -/
theorem witness_ScanVisits_last :
    (let x := { scanning with cursor := some { entry := 1, segment := 9 } }
     ({ visiting openSeg with scanActive := some x } : State).canonical ∧ x.after { entry := 1, segment := 9 } = none) ∧
    ((1, 0) : Nat × Nat) ≠ ({ closedSeg with appendPoint := 0, foldA := 2 }.foldA, closedSeg.foldB) :=
  ⟨⟨canonical_of _ (by decide +kernel), by decide⟩, by decide⟩

/-- The read of segment 8 by the Active scan, in one entry sent in slot 2, with entries before or behind. -/
def scanRead (cancel : Bool) (older newer : List ReadEntry) : State :=
  { withDisk [(8, { closedSeg with appendPoint := 1 })] with
    scanActive :=
      some
        { scanning with
          cancelRequested := cancel, segmentRead := some { readEnd := 1, foldA := 1, foldB := 0 }
          list := older ++ { sentRead with count := 1 } :: newer }
    slots := live.slots.setIfInBounds 2 (.busy (readCommand 1 8 sentRead) .verify (some .scan) 0) }

theorem scanRead_canonical (cancel : Bool) (older newer : List ReadEntry) : (scanRead cancel older newer).canonical := by
  intro v
  exact (canonical_of (withDisk [(8, { closedSeg with appendPoint := 1 })]) (by decide +kernel)) v

theorem scanRead_answers (cancel : Bool) (older newer : List ReadEntry) :
    (scanRead cancel older newer).answers mdataFrame.wire mdataFrame 20 ∧ bytesAreMdata mdataFrame.wire = true ∧
      (scanRead cancel older newer).owned mdataFrame.tag .scan ∧ mdataFrame.holdsBlocks 1 = true ∧
      (scanRead cancel older newer).segmentExists 1 8 = true := by
  refine ⟨⟨rfl, rfl, rfl, (wire_checked _).1, mdata_read _, rfl, by decide⟩, rfl, ⟨_, _, _, rfl⟩, ?_, ?_⟩
  · show (decide ((1 : Nat) = 1) && decide ((4096 : Nat) = 1 * 4096) &&
      decide ((List.replicate 4096 (0#8 : Byte)).length = 1 * 4096)) = true
    rw [List.length_replicate]
    rfl
  · have : (withDisk [(8, { closedSeg with appendPoint := 1 })]).segmentExists 1 8 = true := by decide +kernel
    exact this

/-- The last piece, a piece with one waiting before it, and a piece whose scan is cancelled with one sent behind it. -/
theorem witness_ScanVisits_mdata :
    ∀ older ∈ [[], [waitingEntry (0, 1)]], ∀ newer ∈ [[], [{ sentRead with mediaTag := some 5 }]],
      (∀ y ∈ older ++ newer, y.mediaTag ≠ some mdataFrame.tag) ∧
        (∃ heads kept : List ReadEntry,
          older ++ { sentRead with count := 1, progress := .arrived, mediaTag := none, data := mdataFrame.payload } ::
              newer = heads ++ kept ∧
            (∀ h ∈ heads, h.progress = .arrived) ∧ ∀ h, kept.head? = some h → h.progress ≠ .arrived) := by
  intro older ho newer hn
  simp only [List.mem_cons, List.not_mem_nil, or_false] at ho hn
  rcases ho with rfl | rfl <;> rcases hn with rfl | rfl
  · exact ⟨by decide, [_], [], rfl, by simp, by simp⟩
  · exact ⟨by decide, [_], [_], rfl, by simp, by simp [sentRead]⟩
  · exact ⟨by decide, [], [_, _], rfl, by simp, by simp [waitingEntry]⟩
  · exact ⟨by decide, [], [_, _, _], rfl, by simp, by simp [waitingEntry]⟩

theorem witness_ScanVisits_fails :
    (∃ ev u, (scanRead false [] []).fails ev 2 .scan (some 1) false u) ∧
      (∃ ev u, (scanRead true [] [waitingEntry (1, 8)]).fails ev 2 .scan (some 1) true u) ∧
      ∀ y ∈ [waitingEntry (1, 8)], y.mediaTag ≠ some 2 :=
  ⟨⟨_, _, (fails_each (scanRead false [] []) .scan (some 1) rfl rfl rfl ⟨_, _, rfl⟩ (by decide)).1⟩,
    ⟨_, _, (fails_each (scanRead true [] [waitingEntry (1, 8)]) .scan (some 1) rfl rfl rfl ⟨_, _, rfl⟩
      (by decide)).2.2⟩, by decide⟩

/-- R168: a failed read of the scan stops it with MEDIA_FAULT. -/
theorem test_scan_read_fails :
    after (.mediaTimeout 2) (scanRead false [] [])
      (fun t => (t.scanActive.map Scan.phase, t.conditions.accrued.getLsbD Cond.mediaFault.number)) =
      some (some (.stopped .mediaFault), true) := by decide +kernel

theorem witness_FoldRunsOn : ((4294967290, 4294967290) : Nat × Nat).1 < 4294967291 := by decide

/-- A step from a state that meets every invariant. -/
theorem witness_invariants :
    (∃ t, exec .sweeperVisit (passing closedSeg 8) = .next t) ∧ (passing closedSeg 8).settled ∧
      (passing closedSeg 8).clock.lawful ∧ (passing closedSeg 8).bounded ∧ (passing closedSeg 8).canonical ∧
      (passing closedSeg 8).officered ∧ (passing closedSeg 8).limited :=
  ⟨⟨_, rfl⟩, rfl, ⟨by decide +kernel, by decide, fun _ => Nat.zero_le _⟩, ⟨by decide, by decide⟩,
    canonical_of _ (by decide +kernel), ⟨0, by decide +kernel, by decide +kernel⟩, ⟨by decide +kernel, by decide +kernel⟩⟩

theorem witness_RetentionNeverLowered :
    ∃ old t, (asking 3 [5, 0, 11, 0, 0, 0, 0, 0] (withDisk [])).classEntry 5 = some old ∧
      exec .loadClass (asking 3 [5, 0, 11, 0, 0, 0, 0, 0] (withDisk [])) = .next t := ⟨_, _, rfl, rfl⟩

/-- A triggered class whose post-trigger period of ten days is asked to fall to nine is kept. -/
theorem witness_RetentionNeverLowered_triggered :
    (withDisk []).classEntry 6 = some triggeredEntry ∧ triggeredEntry.triggered = true ∧
      after .loadClass (asking 3 [6, 0, 0, 0, 1, 0, 0, 9] (withDisk [])) (fun t => t.classEntry 6) =
        some (some triggeredEntry) := by decide +kernel

theorem witness_ClosedStaysClosed :
    (withDisk [(8, openSeg), (9, closedSeg)]).canonical ∧
      (withDisk [(8, openSeg), (9, closedSeg)]).segmentExists 1 9 = true ∧
      ((withDisk [(8, openSeg), (9, closedSeg)]).segment 1 9).state = .closed ∧
      (withDisk [(8, openSeg), (9, closedSeg)]).notQueued 1 9 ∧ Instr.walkerVisit ≠ .sweeperVisit ∧
      ∃ t, exec .walkerVisit (withDisk [(8, openSeg), (9, closedSeg)]) = .next t :=
  ⟨withDisk_canonical, by decide +kernel, by decide +kernel, fun e he => absurd he (by simp [withDisk, clockAt, live, State.reset]),
    by decide, ⟨_, rfl⟩⟩

theorem witness_ErasingOnlyWhenDue :
    (asked (bus 5 8 0 0 0) (disposing expiredSeg)).canonical ∧
      ((asked (bus 5 8 0 0 0) (disposing expiredSeg)).segment 1 8).state ≠ .erasing ∧
      after .eraseFrame (asked (bus 5 8 0 0 0) (disposing expiredSeg)) (fun t => (t.segment 1 8).state) =
        some .erasing := ⟨witness_EraseStarts_canonical, by decide +kernel, by decide +kernel⟩

end Sys2Proof.Tests
end

section
/-! SUPPORT. The Retention Map: the sparse table's entries, the state counts, and what a descriptor written, a volume
resized and a table mapped keep. -/

namespace Sys2Proof.Machine

/-! ### The entries of the sparse table -/

/-- Every number of a canonical table above b is at or above b. -/
theorem Sparse.le_of_mem (d : Segment) {l : List (Nat × Segment)} {b : Nat} (h : Sparse.wfAbove d b l = true)
    {e : Nat × Segment} (he : e ∈ l) : b ≤ e.1 := by
  induction l generalizing b with
  | nil => simp at he
  | cons a rest ih =>
    simp only [Sparse.wfAbove, Bool.and_eq_true, decide_eq_true_eq] at h
    obtain ⟨⟨hb, -⟩, hr⟩ := h
    rcases List.mem_cons.mp he with rfl | he
    · exact hb
    · have := ih hr he; omega

/-- A listed entry is what its number reads as. -/
theorem Sparse.get_of_mem (d : Segment) {l : List (Nat × Segment)} {b : Nat} (h : Sparse.wfAbove d b l = true)
    {e : Nat × Segment} (he : e ∈ l) : Sparse.get d l e.1 = e.2 := by
  induction l generalizing b with
  | nil => simp at he
  | cons a rest ih =>
    simp only [Sparse.wfAbove, Bool.and_eq_true, decide_eq_true_eq] at h
    obtain ⟨-, hr⟩ := h
    rcases List.mem_cons.mp he with rfl | he
    · simp [Sparse.get]
    · have := Sparse.le_of_mem d hr he
      rw [Sparse.get, if_neg (by omega), if_neg (by omega)]
      exact ih hr he

/-- A number that does not read as the unlisted value is listed with what it reads as. -/
theorem Sparse.mem_of_get_ne (d : Segment) {l : List (Nat × Segment)} {n : Nat} (h : Sparse.get d l n ≠ d) :
    (n, Sparse.get d l n) ∈ l := by
  induction l with
  | nil => simp [Sparse.get] at h
  | cons a rest ih =>
    simp only [Sparse.get] at h ⊢
    split_ifs at h ⊢ with h1 h2
    · exact absurd rfl h
    · rw [h2]; exact List.mem_cons_self
    · exact List.mem_cons_of_mem _ (ih h)

/-- A write lists the value written, and otherwise nothing new. -/
theorem Sparse.mem_set (d : Segment) {l : List (Nat × Segment)} {n : Nat} {x : Segment} {e : Nat × Segment}
    (he : e ∈ Sparse.set d l n x) : e = (n, x) ∨ e ∈ l := by
  induction l with
  | nil =>
    simp only [Sparse.set] at he
    split_ifs at he <;> simp_all
  | cons a rest ih =>
    simp only [Sparse.set] at he
    split_ifs at he <;> simp only [List.mem_cons] at he ⊢ <;> tauto

/-- The numbers below a bound read as before, and the others as unlisted. -/
theorem Sparse.get_cut (d : Segment) {l : List (Nat × Segment)} {b : Nat} (h : Sparse.wfAbove d b l = true)
    (c n : Nat) : Sparse.get d (Sparse.below c l) n = if n < c then Sparse.get d l n else d := by
  by_cases hx : Sparse.get d (Sparse.below c l) n = d
  · split_ifs with hn
    · rw [hx]
      by_contra hne
      have hm := Sparse.mem_of_get_ne d (Ne.symm hne)
      have hm' : (n, Sparse.get d l n) ∈ Sparse.below c l := List.mem_filter.mpr ⟨hm, by simpa using hn⟩
      have := Sparse.get_of_mem d (Sparse.below_wfAbove d l c b h) hm'
      exact hne (hx.symm.trans this)
    · exact hx
  · have hm := Sparse.mem_of_get_ne d hx
    obtain ⟨hl, hc⟩ := List.mem_filter.mp hm
    rw [if_pos (by simpa using hc)]
    exact (Sparse.get_of_mem d h hl).symm

/-! ### The state counts (R3, R23) -/

/-- The counts of the states around a transition from a state that is counted. -/
theorem StateCounts.get_move (c : StateCounts) {a : SegmentState} (h : 1 ≤ c.get a) (b st : SegmentState) :
    (c.move a b).get st + (decide (a = st)).toNat = c.get st + (decide (b = st)).toNat := by
  unfold StateCounts.move
  split
  · next hab => rw [hab]
  · next hab =>
    revert h hab
    cases a <;> cases b <;> cases st <;> simp [StateCounts.get, StateCounts.set] <;> omega

/-- A run of numbers counted by two tests that agree off one number of it. -/
theorem countP_range_update {p q : Nat → Bool} {n c : Nat} (hn : n < c) (h : ∀ m, m ≠ n → q m = p m) :
    (List.range c).countP q + (p n).toNat = (List.range c).countP p + (q n).toNat := by
  induction c with
  | zero => omega
  | succ k ih =>
    simp only [List.range_succ, List.countP_append, List.countP_cons, List.countP_nil, Nat.zero_add]
    by_cases hk : n = k
    · subst hk
      have : (List.range n).countP q = (List.range n).countP p :=
        List.countP_congr fun m hm => by rw [h m (by have := List.mem_range.mp hm; omega)]
      rw [this]
      cases p n <;> cases q n <;> simp
    · rw [h k (Ne.symm hk)]
      have := ih (by omega)
      omega

/-- The number of segments of a volume in a state, as a count over its segment numbers. -/
theorem Volume.tally_eq (x : Volume) (st : SegmentState) :
    x.tally st = (List.range x.count).countP
      (fun n => decide ((Sparse.get Segment.fresh x.segments n).state = st)) := by
  rw [Volume.tally, List.countP_eq_length_filter]

/-- A volume whose segments keep their states keeps its tallies. -/
theorem Volume.tally_congr {x y : Volume} (hc : y.count = x.count)
    (h : ∀ n, n < x.count →
      (Sparse.get Segment.fresh y.segments n).state = (Sparse.get Segment.fresh x.segments n).state)
    (st : SegmentState) : y.tally st = x.tally st := by
  rw [Volume.tally_eq, Volume.tally_eq, hc]
  exact List.countP_congr fun n hn => by rw [h n (List.mem_range.mp hn)]

/-- Every segment of a volume is in exactly one state, so the five tallies sum to the segment count (R23). -/
theorem Volume.tally_total (x : Volume) :
    x.tally .blank + x.tally .opened + x.tally .closed + x.tally .expired + x.tally .erasing = x.count := by
  simp only [Volume.tally_eq]
  generalize x.count = c
  induction c with
  | zero => simp
  | succ k ih =>
    simp only [List.range_succ, List.countP_append, List.countP_cons, List.countP_nil, Nat.zero_add]
    cases (Sparse.get Segment.fresh x.segments k).state <;> simp <;> omega

/-- Where the state counts are the tallies they sum to the segment count (R23). -/
theorem Volume.total_of_tallied {x : Volume} (h : x.tallied) : x.counts.total = x.count := by
  have hb := h .blank
  have ho := h .opened
  have hc := h .closed
  have he := h .expired
  have hr := h .erasing
  simp only [StateCounts.get] at hb ho hc he hr
  rw [StateCounts.total, hb, ho, hc, he, hr, x.tally_total]

/-! ### A sound volume -/

/-- A volume lists its segments in the canonical form, none at or above its count, and keeps its state counts (R1, R3,
R23; log 37). -/
structure Volume.Sound (x : Volume) : Prop where
  wf : Sparse.wf Segment.fresh x.segments = true
  below : ∀ e ∈ x.segments, e.1 < x.count
  tallied : x.tallied

/-- The Map is sound when each of its volumes is. -/
theorem State.mapSound_iff (s : State) : s.mapSound ↔ ∀ v, (s.volume v).Sound :=
  ⟨fun h v => ⟨h.1 v, (h.2 v).1, (h.2 v).2⟩, fun h => ⟨fun v => (h v).wf, fun v => ⟨(h v).below, (h v).tallied⟩⟩⟩

/-- A volume number outside 1 to 4 reads as Absent. -/
theorem State.volume_outside (s : State) {v : Nat} (h : ¬ (1 ≤ v ∧ v ≤ 4)) : s.volume v = Volume.absent := by
  unfold State.volume Table.get1
  split
  · rfl
  · have h4 : ¬ v - 1 < 4 := by omega
    simp [Table.get, h4]

/-- A number of a sound volume at or above its count reads as a fresh segment. -/
theorem Volume.Sound.get_beyond {x : Volume} (h : x.Sound) {n : Nat} (hn : x.count ≤ n) :
    Sparse.get Segment.fresh x.segments n = Segment.fresh := by
  by_contra hne
  exact absurd (h.below _ (Sparse.mem_of_get_ne _ hne)) (Nat.not_lt.mpr hn)

/-- A volume with a descriptor written and the state counts moved with it (R23). -/
def Volume.write (x : Volume) (n : Nat) (g : Segment) : Volume :=
  { x with
    counts := x.counts.move (Sparse.get Segment.fresh x.segments n).state g.state
    segments := Sparse.set Segment.fresh x.segments n g }

theorem State.putSegment_volume (s : State) (v n : Nat) (g : Segment) (h : n < (s.volume v).count) :
    (s.putSegment v n g).volume v = (s.volume v).write n g := s.putSegment_volume_same v n g h

/-- What every number reads as after a descriptor is written. -/
theorem State.putSegment_segment {s : State} (hw : s.canonical) {v n : Nat} (hn : n < (s.volume v).count) (g : Segment)
    (u m : Nat) : (s.putSegment v n g).segment u m = if u = v ∧ m = n then g else s.segment u m := by
  by_cases hu : u = v
  · subst hu
    by_cases hm : m = n
    · subst hm
      rw [s.putSegment_segment_same _ _ _ hn (hw _), if_pos ⟨rfl, rfl⟩]
    · rw [s.putSegment_segment_other _ _ _ _ (hw _) hm, if_neg (fun h => hm h.2)]
  · rw [if_neg (fun h => hu h.1), State.segment, s.putSegment_volume_other _ _ _ _ hu]
    rfl

theorem State.putSegment_canonical {s : State} (hw : s.canonical) (v n : Nat) (g : Segment) :
    (s.putSegment v n g).canonical := fun u => s.putSegment_wf v n u g hw

/-- A descriptor written moves the state counts so that they stay the tallies (R23). -/
theorem Volume.write_tallied {x : Volume} {n : Nat} (g : Segment) (hw : Sparse.wf Segment.fresh x.segments = true)
    (hn : n < x.count) (ht : x.tallied) : (x.write n g).tallied := by
  intro st
  have hsame : (Sparse.get Segment.fresh (x.write n g).segments n).state = g.state := by
    rw [Volume.write, Sparse.get_set_same _ _ _ _ 0 hw]
  have hcount := countP_range_update (p := fun m => decide ((Sparse.get Segment.fresh x.segments m).state = st))
    (q := fun m => decide ((Sparse.get Segment.fresh (x.write n g).segments m).state = st)) hn
    (fun m hm => by simp only [Volume.write, Sparse.get_set_other _ _ _ _ _ 0 hw hm])
  have hone : 1 ≤ x.counts.get (Sparse.get Segment.fresh x.segments n).state := by
    rw [ht, Volume.tally_eq]
    exact List.countP_pos_iff.mpr ⟨n, List.mem_range.mpr hn, by simp⟩
  have hmove := StateCounts.get_move x.counts hone g.state st
  have hx := ht st
  rw [Volume.tally_eq] at hx ⊢
  simp only [hsame] at hcount
  change (x.counts.move _ g.state).get st = (List.range x.count).countP _
  omega

/-- A descriptor written keeps a volume sound. -/
theorem Volume.Sound.write {x : Volume} (h : x.Sound) {n : Nat} (hn : n < x.count) (g : Segment) :
    (x.write n g).Sound where
  wf := Sparse.set_wf _ _ _ _ h.wf
  below e he := by
    rcases Sparse.mem_set _ he with rfl | he
    · exact hn
    · exact h.below e he
  tallied := Volume.write_tallied g h.wf hn h.tallied

/-- A volume with every listed descriptor changed. -/
def Volume.mapped (x : Volume) (f : Segment → Segment) : Volume :=
  { x with segments := Sparse.map Segment.fresh f x.segments }

theorem Volume.get_mapped (x : Volume) {f : Segment → Segment} (hf : f Segment.fresh = Segment.fresh)
    (hw : Sparse.wf Segment.fresh x.segments = true) (n : Nat) :
    Sparse.get Segment.fresh (x.mapped f).segments n = f (Sparse.get Segment.fresh x.segments n) :=
  Sparse.get_map _ _ _ _ 0 hf hw

/-- Changing every listed descriptor in a way that keeps states and fresh segments keeps a volume sound. -/
theorem Volume.Sound.map {x : Volume} (h : x.Sound) {f : Segment → Segment} (hf : f Segment.fresh = Segment.fresh)
    (hs : ∀ g, (f g).state = g.state) :
    (x.mapped f).Sound where
  wf := Sparse.map_wf _ _ _ h.wf
  below e he := by
    obtain ⟨e', he', rfl⟩ := List.mem_map.mp (List.mem_filter.mp he).1
    exact h.below e' he'
  tallied st := by
    refine (h.tallied st).trans (Volume.tally_congr (x := x) (y := x.mapped f) rfl (fun n _ => ?_) st).symm
    rw [x.get_mapped hf h.wf, hs]

/-- Every segment from a number up is Blank (R25). -/
theorem Volume.blankFrom_iff {x : Volume} (hw : Sparse.wf Segment.fresh x.segments = true) (n : Nat) :
    x.blankFrom n = true ↔ ∀ m, n ≤ m → (Sparse.get Segment.fresh x.segments m).state = .blank := by
  simp only [Volume.blankFrom, List.all_eq_true, Bool.or_eq_true, decide_eq_true_eq]
  constructor
  · intro h m hm
    by_cases hx : Sparse.get Segment.fresh x.segments m = Segment.fresh
    · rw [hx]; rfl
    · rcases h _ (Sparse.mem_of_get_ne _ hx) with h1 | h1
      · exact absurd h1 (Nat.not_lt.mpr hm)
      · exact h1
  · intro h e he
    rcases Nat.lt_or_ge e.1 n with h1 | h1
    · exact .inl h1
    · right
      rw [← Sparse.get_of_mem _ hw he]
      exact h e.1 h1

end Sys2Proof.Machine
end

section
/-! SUPPORT. What an ordinary step can do, said once: it changes volatile blocks, places frames, frees slots, raises the
mark, and writes descriptors that neither reopen a Closed segment, nor start an erase, nor move a hold count. -/

namespace Sys2Proof.Machine

/-! ### Changes of a descriptor -/

/-- A change of a descriptor that keeps a Closed segment Closed and makes no segment Erasing (R13, R20). -/
structure Segment.Guarded (g h : Segment) : Prop where
  closed : g.state = .closed → h.state = .closed
  erasing : h.state = .erasing → g.state = .erasing

/-- A change of a descriptor that opens no segment, keeps its class and hold count until it is Blank, and leaves a
segment that becomes Blank without holds (R24, R124). -/
structure Segment.HoldKept (g h : Segment) : Prop where
  blank : h.state = .blank → h.holdCount = 0 ∨ (g.state = .blank ∧ h.holdCount = g.holdCount)
  held : h.state ≠ .blank → g.state ≠ .blank ∧ h.cls = g.cls ∧ h.holdCount = g.holdCount

/-- A change of a descriptor in an ordinary step. -/
structure Segment.Steady (g h : Segment) : Prop where
  guarded : g.Guarded h
  holdKept : g.HoldKept h

theorem Segment.Guarded.refl (g : Segment) : g.Guarded g := ⟨id, id⟩

theorem Segment.Guarded.trans {a b c : Segment} (h : a.Guarded b) (k : b.Guarded c) : a.Guarded c :=
  ⟨k.closed ∘ h.closed, h.erasing ∘ k.erasing⟩

theorem Segment.HoldKept.refl (g : Segment) : g.HoldKept g := ⟨fun h => .inr ⟨h, rfl⟩, fun h => ⟨h, rfl, rfl⟩⟩

theorem Segment.HoldKept.trans {a b c : Segment} (h : a.HoldKept b) (k : b.HoldKept c) : a.HoldKept c where
  blank hc := by
    rcases k.blank hc with h0 | ⟨hb, hk⟩
    · exact .inl h0
    · rw [hk]; exact h.blank hb
  held hc := by
    obtain ⟨hb, hcls, hcount⟩ := k.held hc
    obtain ⟨ha, hcls', hcount'⟩ := h.held hb
    exact ⟨ha, hcls.trans hcls', hcount.trans hcount'⟩

theorem Segment.Steady.refl (g : Segment) : g.Steady g := ⟨.refl g, .refl g⟩

theorem Segment.Steady.trans {a b c : Segment} (h : a.Steady b) (k : b.Steady c) : a.Steady c :=
  ⟨h.guarded.trans k.guarded, h.holdKept.trans k.holdKept⟩

/-- A change that keeps class and hold count moves no hold, when neither side is Blank. -/
theorem Segment.HoldKept.of_retained {g h : Segment} (hg : g.state ≠ .blank) (hh : h.state ≠ .blank)
    (hc : h.cls = g.cls) (hn : h.holdCount = g.holdCount) : g.HoldKept h :=
  ⟨fun hb => absurd hb hh, fun _ => ⟨hg, hc, hn⟩⟩

/-- A change of other fields than state, class and hold count is steady. -/
theorem Segment.Steady.of_same {g h : Segment} (hs : h.state = g.state) (hc : h.cls = g.cls)
    (hn : h.holdCount = g.holdCount) : g.Steady h :=
  ⟨⟨fun k => hs.trans k, fun k => hs.symm.trans k⟩, fun k => .inr ⟨hs.symm.trans k, hn⟩,
    fun k => ⟨fun k' => k (hs.trans k'), hc, hn⟩⟩

/-- A segment that closes, from Open or Expired, changes steadily. -/
theorem Segment.Steady.of_closed {g h : Segment} (hg : g.state ≠ .blank) (hh : h.state = .closed)
    (hc : h.cls = g.cls) (hn : h.holdCount = g.holdCount) : g.Steady h :=
  ⟨⟨fun _ => hh, fun k => absurd (hh.symm.trans k) (by decide)⟩,
    .of_retained hg (fun k => absurd (hh.symm.trans k) (by decide)) hc hn⟩

/-! ### Changes of the Map -/

/-- y is the volume x with descriptors changed by R: what is the volume's own stands, and the canonical form and the
state counts are kept. -/
structure Volume.Rewrites (R : Segment → Segment → Prop) (x y : Volume) : Prop where
  own : y = { x with counts := y.counts, segments := y.segments }
  wf : Sparse.wf Segment.fresh x.segments = true → Sparse.wf Segment.fresh y.segments = true
  segment : Sparse.wf Segment.fresh x.segments = true →
    ∀ n, R (Sparse.get Segment.fresh x.segments n) (Sparse.get Segment.fresh y.segments n)
  sound : x.Sound → y.Sound

/-- The Map of t is that of s with descriptors changed by R. -/
def State.Rewrites (R : Segment → Segment → Prop) (s t : State) : Prop := ∀ v, (s.volume v).Rewrites R (t.volume v)

theorem Volume.Rewrites.refl {R : Segment → Segment → Prop} (hr : ∀ g, R g g) (x : Volume) : x.Rewrites R x :=
  ⟨rfl, id, fun _ _ => hr _, id⟩

theorem Volume.Rewrites.trans {R : Segment → Segment → Prop} (ht : ∀ ⦃a b c⦄, R a b → R b c → R a c) {x y z : Volume}
    (h : x.Rewrites R y) (k : y.Rewrites R z) : x.Rewrites R z where
  own := by
    have hy := h.own
    have hz := k.own
    rw [hy] at hz
    exact hz
  wf := k.wf ∘ h.wf
  segment hw n := ht (h.segment hw n) (k.segment (h.wf hw) n)
  sound := k.sound ∘ h.sound

theorem Volume.Rewrites.mono {R Q : Segment → Segment → Prop} (hq : ∀ g h, R g h → Q g h) {x y : Volume}
    (h : x.Rewrites R y) : x.Rewrites Q y :=
  ⟨h.own, h.wf, fun hw n => hq _ _ (h.segment hw n), h.sound⟩

/-- A descriptor written by R. -/
theorem Volume.rewrites_write {R : Segment → Segment → Prop} (hr : ∀ g, R g g) {x : Volume} {n : Nat} {g : Segment}
    (hn : n < x.count) (hg : R (Sparse.get Segment.fresh x.segments n) g) : x.Rewrites R (x.write n g) where
  own := rfl
  wf := Sparse.set_wf _ _ _ _
  segment hw m := by
    by_cases hm : m = n
    · subst hm
      rw [Volume.write, Sparse.get_set_same _ _ _ _ 0 hw]
      exact hg
    · rw [Volume.write, Sparse.get_set_other _ _ _ _ _ 0 hw hm]
      exact hr _
  sound h := h.write hn g

/-- Every listed descriptor changed in one way that keeps its state. -/
theorem Volume.rewrites_mapped {R : Segment → Segment → Prop} {f : Segment → Segment}
    (hf : f Segment.fresh = Segment.fresh) (hs : ∀ g, (f g).state = g.state) (hR : ∀ g, R g (f g)) (x : Volume) :
    x.Rewrites R (x.mapped f) where
  own := rfl
  wf := Sparse.map_wf _ _ _
  segment hw n := by rw [x.get_mapped hf hw]; exact hR _
  sound h := h.map hf hs

namespace State.Rewrites

variable {R : Segment → Segment → Prop} {s t u : State}

theorem of_volumes (hr : ∀ g, R g g) (h : t.volumes = s.volumes) : s.Rewrites R t := fun v => by
  have : t.volume v = s.volume v := by unfold State.volume; rw [h]
  rw [this]
  exact .refl hr _

theorem trans (ht : ∀ ⦃a b c⦄, R a b → R b c → R a c) (h : s.Rewrites R t) (k : t.Rewrites R u) : s.Rewrites R u :=
  fun v => (h v).trans ht (k v)

theorem mono {Q : Segment → Segment → Prop} (hq : ∀ g h, R g h → Q g h) (h : s.Rewrites R t) : s.Rewrites Q t :=
  fun v => (h v).mono hq

theorem put (hr : ∀ g, R g g) (s : State) (v n : Nat) {g : Segment} (hg : R (s.segment v n) g) :
    s.Rewrites R (s.putSegment v n g) := fun u => by
  by_cases hn : n < (s.volume v).count
  · by_cases hu : u = v
    · subst hu
      rw [s.putSegment_volume u n g hn]
      exact Volume.rewrites_write hr hn hg
    · rw [s.putSegment_volume_other v u n g hu]
      exact .refl hr _
  · rw [s.putSegment_beyond v n g (Nat.not_lt.mp hn)]
    exact .refl hr _

theorem canonical (h : s.Rewrites R t) (hc : s.canonical) : t.canonical := fun v => (h v).wf (hc v)

theorem segment (h : s.Rewrites R t) (hc : s.canonical) (v n : Nat) : R (s.segment v n) (t.segment v n) :=
  (h v).segment (hc v) n

theorem mapSound (h : s.Rewrites R t) (hs : s.mapSound) : t.mapSound :=
  t.mapSound_iff.mpr fun v => (h v).sound (s.mapSound_iff.mp hs v)

theorem count (h : s.Rewrites R t) (v : Nat) : (t.volume v).count = (s.volume v).count := by rw [(h v).own]

end State.Rewrites

/-! ### Ordinary steps -/

/-- t comes from s by ordinary changes, in any number and order. -/
inductive State.Evolves (s : State) : State → Prop where
  | refl : Evolves s s
  /-- A block that is not a table, a queue, a slot or the Clock changes in any way. -/
  | volatile {t u : State} (h : Evolves s t)
      (hu : u = { t with
        ingestLink := u.ingestLink, mediaLink := u.mediaLink, ingestCheck := u.ingestCheck, mediaCheck := u.mediaCheck
        ingestOut := u.ingestOut, mediaOut := u.mediaOut, contexts := u.contexts, arbiter := u.arbiter
        records := u.records, sweeper := u.sweeper, eraseQueue := u.eraseQueue, scanActive := u.scanActive
        scanQueued := u.scanQueued, conditions := u.conditions, collection := u.collection, idleTime := u.idleTime
        mediaTimeout := u.mediaTimeout }) : Evolves s u
  /-- A frame is placed where there is room (R184). -/
  | enqueue {t : State} (h : Evolves s t) (f : Frame) (hl : t.txQueue.length < Config.transmitLimit) :
      Evolves s (t.enqueue f)
  /-- The two queues of frames get no longer. -/
  | queues {t : State} (h : Evolves s t) (rx : List RxFrame) (tx : List Frame) (hr : rx.length ≤ t.rxQueue.length)
      (hx : tx.length ≤ t.txQueue.length) : Evolves s { t with rxQueue := rx, txQueue := tx }
  /-- A slot is freed, left by its owner, or has timed out (R140 to R142). -/
  | slot {t : State} (h : Evolves s t) (k : Nat) (x : Slot)
      (hx : x = .free ∨ x = .busyLate ∨ x = (t.slot k).orphan) : Evolves s (t.setSlot k x)
  /-- The close high-water mark is raised to the present time (R38). -/
  | mark {t : State} (h : Evolves s t) :
      Evolves s { t with clock := { t.clock with mark := max t.clock.mark t.now } }
  /-- A descriptor changes steadily. -/
  | put {t : State} (h : Evolves s t) (v n : Nat) (g : Segment) (hg : (t.segment v n).Steady g) :
      Evolves s (t.putSegment v n g)

namespace State.Evolves

variable {s t u : State}

theorem trans (h : s.Evolves t) (k : t.Evolves u) : s.Evolves u := by
  induction k with
  | refl => exact h
  | volatile _ hu ih => exact ih.volatile hu
  | enqueue _ f hl ih => exact ih.enqueue f hl
  | queues _ rx tx hr hx ih => exact ih.queues rx tx hr hx
  | slot _ k x hx ih => exact ih.slot k x hx
  | mark _ ih => exact ih.mark
  | put _ v n g hg ih => exact ih.put v n g hg

/-- An ordinary step changes descriptors steadily and nothing else of the Map. -/
theorem rewrites (h : s.Evolves t) : s.Rewrites Segment.Steady t := by
  induction h with
  | refl => exact .of_volumes .refl rfl
  | volatile _ hu ih => exact ih.trans (fun _ _ _ => .trans) (.of_volumes .refl (by rw [hu]))
  | enqueue _ f _ ih => exact ih
  | queues _ _ _ _ _ ih => exact ih
  | slot _ _ _ _ ih => exact ih
  | mark _ ih => exact ih
  | put _ v n g hg ih => exact ih.trans (fun _ _ _ => .trans) (.put .refl _ v n hg)

/-- An ordinary step leaves the tables of initiators, classes and holds, and the walk queue. -/
theorem tables (h : s.Evolves t) :
    t.initiators = s.initiators ∧ t.classes = s.classes ∧ t.holds = s.holds ∧ t.walkQueue = s.walkQueue := by
  induction h with
  | refl => exact ⟨rfl, rfl, rfl, rfl⟩
  | volatile _ hu ih => rw [hu]; exact ih
  | enqueue _ _ _ ih => exact ih
  | queues _ _ _ _ _ ih => exact ih
  | slot _ _ _ _ ih => exact ih
  | mark _ ih => exact ih
  | put _ _ _ _ _ ih => exact ih

end State.Evolves

end Sys2Proof.Machine
end

section
/-! SUPPORT. Every composite operation of the engine is an ordinary step: one lemma for each, in the order of the model,
each built from the lemmas of the operations it calls. -/

namespace Sys2Proof.Machine

/-! ### Descriptors that change steadily -/

/-- An Erasing segment that the shelf has erased (R21). -/
theorem Segment.Steady.erased {g : Segment} (hg : g.state = .erasing) : g.Steady g.erased :=
  ⟨⟨fun h => absurd (hg.symm.trans h) (by decide), fun h => absurd h (by simp [Segment.erased, Segment.fresh])⟩,
    fun _ => .inl rfl, fun h => absurd rfl h⟩

/-- An Erasing segment whose erase failed (R22). -/
theorem Segment.Steady.erase_failed {g : Segment} (hg : g.state = .erasing) :
    g.Steady { g with state := .expired } :=
  ⟨⟨fun h => absurd (hg.symm.trans h) (by decide), fun h => absurd h (by simp)⟩,
    .of_retained (by simp [hg]) (by simp) rfl rfl⟩

/-- The blocks of a pending write are folded (R86). -/
theorem Segment.Steady.confirm (g : Segment) (e : PendingWrite) : g.Steady (g.confirm e) := by
  unfold Segment.confirm
  split <;> exact .of_same rfl rfl rfl

/-- A segment whose expiry day has moved (R19, R45, R46). -/
theorem Segment.Steady.stateAfterExpiry {g h : Segment} (hg : g.state ≠ .blank) (expiry today : Nat)
    (hs : h.state = Machine.stateAfterExpiry g expiry today) (hc : h.cls = g.cls) (hn : h.holdCount = g.holdCount) :
    g.Steady h := by
  unfold Machine.stateAfterExpiry at hs
  split at hs
  · exact .of_closed hg hs hc hn
  · exact .of_same hs hc hn

namespace State.Evolves

variable {s t : State}

/-! ### The shared operations -/

theorem setContext (h : s.Evolves t) (c : Nat) (x : Context) : s.Evolves (t.setContext c x) := h.volatile rfl
theorem setRecord (h : s.Evolves t) (r : Nat) (x : Option FaultRecord) : s.Evolves (t.setRecord r x) := h.volatile rfl
theorem putWrite (h : s.Evolves t) (c : Nat) (w : WriteContext) : s.Evolves (t.putWrite c w) := h.volatile rfl
theorem putScan (h : s.Evolves t) (x : Scan) : s.Evolves (t.putScan x) := h.volatile rfl
theorem ask (h : s.Evolves t) (c : MediaClass) (rs : List Request) : s.Evolves (t.ask c rs) := h.volatile rfl
theorem withdraw (h : s.Evolves t) (c : MediaClass) (p : Request → Bool) : s.Evolves (t.withdraw c p) := h.volatile rfl
theorem raise (h : s.Evolves t) (op : Operation) (c : Cond) : s.Evolves (t.raise op c) := h.volatile rfl
theorem note (h : s.Evolves t) (c : Cause) : s.Evolves (t.note c) := h.volatile rfl

theorem complete (h : s.Evolves t) (op : Operation) (o : CondSet) : s.Evolves (t.complete op o) := by
  unfold State.complete
  split
  · exact h
  · exact h.volatile rfl

theorem raiseAlone (h : s.Evolves t) (op : Operation) (c : Cond) : s.Evolves (t.raiseAlone op c) :=
  (h.raise op c).complete op c.bit

theorem send (h : s.Evolves t) (f : Frame) : s.Evolves (t.send f) := by
  rcases t.send_cases f with hs | ⟨hl, hs⟩ <;> rw [hs]
  · exact h
  · exact h.enqueue f hl

theorem sendAnyway (h : s.Evolves t) (f : Frame) : s.Evolves (t.sendAnyway f) := by
  rcases t.sendAnyway_cases f with hs | ⟨hl, hs⟩ <;> rw [hs]
  · exact h
  · exact h.enqueue f hl

theorem sendNotice (h : s.Evolves t) (f : Frame) : s.Evolves (t.sendNotice f) := by
  rcases t.sendNotice_cases f with hs | ⟨hl, hs⟩ <;> rw [hs]
  · exact h
  · exact h.enqueue f hl

theorem endStep (h : s.Evolves t) : s.Evolves t.endStep := by
  unfold State.endStep
  split
  · exact h
  · exact (h.volatile rfl).sendNotice _

theorem orphanAll (h : s.Evolves t) (l : List Nat) : s.Evolves (t.orphanAll l) := by
  induction l generalizing t with
  | nil => exact h
  | cons k rest ih => exact ih (h.slot k _ (.inr (.inr rfl)))

/-- An Open segment closes, with a change of its other flags on top. -/
theorem closeSegment (h : s.Evolves t) (v n : Nat) {f : Segment → Segment}
    (hf : ∀ g, (f g).state = g.state ∧ (f g).cls = g.cls ∧ (f g).holdCount = g.holdCount) :
    s.Evolves (t.closeSegment v n f) := by
  unfold State.closeSegment
  split
  · next ho =>
    obtain ⟨hs, hc, hn⟩ := hf (t.closedSegment (t.segment v n))
    exact (h.put v n _ (.of_closed (by simp [ho]) hs hc hn)).mark
  · exact h

theorem clearWriter (h : s.Evolves t) (v n c : Nat) : s.Evolves (t.clearWriter v n c) := by
  unfold State.clearWriter
  dsimp only
  split
  · exact h.put v n _ (.of_same rfl rfl rfl)
  · exact h

/-! ### Reads -/

theorem completeRead (h : s.Evolves t) (c : Nat) (r : ReadContext) : s.Evolves (completeRead c r t) :=
  ((h.setContext c .free).send _).complete _ _

theorem settleRead (h : s.Evolves t) (c : Nat) (r : ReadContext) : s.Evolves (settleRead c r t) := by
  unfold Machine.settleRead
  split
  · exact h.completeRead c r
  · exact h.setContext c _

theorem markRead (h : s.Evolves t) (r : ReadContext) : s.Evolves (markRead r t) := by
  unfold Machine.markRead
  split
  · exact h.put _ _ _ (.of_same rfl rfl rfl)
  · exact h

theorem deliverHeads (h : s.Evolves t) (l : List ReadEntry) (r : ReadContext) :
    s.Evolves (deliverHeads l r t).2 := by
  induction l generalizing t r with
  | nil => exact h
  | cons e rest ih =>
    unfold Machine.deliverHeads
    split
    · exact ih ((h.send _).markRead r) _
    · exact h

theorem readArrives (h : s.Evolves t) (c tag : Nat) (data : List Byte) (r : ReadContext) :
    s.Evolves (readArrives c tag data r t) := (h.deliverHeads _ r).settleRead c _

theorem readFails (h : s.Evolves t) (c : Nat) (failed : ReadEntry → Bool) (r : ReadContext) :
    s.Evolves (readFails c failed r t) := (((h.raise _ _).withdraw _ _).orphanAll _).settleRead c _

theorem dropRead (h : s.Evolves t) (c : Nat) (r : ReadContext) : s.Evolves (dropRead c r t) :=
  (((h.withdraw _ _).orphanAll _).setContext c .free).complete _ _

theorem readErased (h : s.Evolves t) (c : Nat) (r : ReadContext) : s.Evolves (readErased c r t) := by
  unfold Machine.readErased
  dsimp only
  split
  · exact h
  · exact (h.withdraw _ _).settleRead c _

theorem stopReads (h : s.Evolves t) (v n : Nat) (l : List Nat) : s.Evolves (stopReads v n l t) := by
  induction l generalizing t with
  | nil => exact h
  | cons c rest ih =>
    refine ih ?_
    split
    · split
      · exact h.readErased c _
      · exact h
    · exact h
    · exact h

/-! ### The Active scan -/

theorem endScan (h : s.Evolves t) (p : ScanPhase) (x : Scan) : s.Evolves (endScan p x t) :=
  ((h.putScan _).complete _ _).note _

theorem advanceScan (h : s.Evolves t) (x : Scan) (cur : ScanCursor) : s.Evolves (advanceScan x cur t) := by
  unfold Machine.advanceScan
  dsimp only
  split
  · exact h.endScan _ _
  · exact h.putScan _

theorem skipScan (h : s.Evolves t) (x : Scan) (cur : ScanCursor) : s.Evolves (skipScan x cur t) := h.advanceScan _ cur

theorem compareScan (h : s.Evolves t) (x : Scan) (v : Nat) (cur : ScanCursor) (fold : Nat × Nat) :
    s.Evolves (compareScan x v cur fold t) := by
  have hput := (h.put v cur.segment { t.segment v cur.segment with suspect := true } (.of_same rfl rfl rfl)).raise
    scanOp .digestMismatch
  unfold Machine.compareScan
  dsimp only
  split
  · exact h.advanceScan _ cur
  · split
    · exact hput.advanceScan _ cur
    · exact hput.endScan _ _

theorem beginSegmentRead (h : s.Evolves t) (x : Scan) (v : Nat) (cur : ScanCursor) (readEnd : Nat) :
    s.Evolves (beginSegmentRead x v cur readEnd t) := (h.putScan _).ask _ _

theorem visitScan (h : s.Evolves t) (x : Scan) : s.Evolves (visitScan x t) := by
  unfold Machine.visitScan
  split
  · next v cur _ =>
    have hcompare := h.compareScan x v cur (1, 0)
    have hread := h.beginSegmentRead x v cur (t.segment v cur.segment).appendPoint
    have hskip := h.skipScan x cur
    dsimp only
    split
    · exact hskip
    · split
      · split <;> assumption
      · split <;> assumption
      · exact hskip
      · exact hskip
      · exact hskip
  · exact h

theorem promoteScan (h : s.Evolves t) : s.Evolves (promoteScan t) := by
  unfold Machine.promoteScan
  split
  · exact ((h.volatile rfl : s.Evolves { t with scanQueued := none }).putScan _).visitScan _
  · exact h
  · exact h

theorem foldScan (h : s.Evolves t) (x : Scan) (v : Nat) (cur : ScanCursor) (rd : SegmentRead) :
    s.Evolves (foldScan x v cur rd t) := by
  unfold Machine.foldScan
  dsimp only
  split
  · exact (h.ask _ _).compareScan _ _ _ _
  · exact (h.ask _ _).putScan _

theorem cancelledArrival (h : s.Evolves t) (x : Scan) (tag : Nat) : s.Evolves (cancelledArrival x tag t) := by
  unfold Machine.cancelledArrival
  dsimp only
  split
  · exact h.endScan _ _
  · exact h.putScan _

theorem scanArrives (h : s.Evolves t) (tag : Nat) (data : List Byte) (x : Scan) :
    s.Evolves (scanArrives tag data x t) := by
  unfold Machine.scanArrives
  split
  · exact h.cancelledArrival x tag
  · split
    · exact h.foldScan _ _ _ _
    · exact h
    · exact h

theorem stopScan (h : s.Evolves t) (cause : StopCause) (x : Scan) : s.Evolves (stopScan cause x t) :=
  ((h.withdraw _ _).orphanAll _).endScan _ _

theorem scanFails (h : s.Evolves t) (cause : StopCause) (x : Scan) : s.Evolves (scanFails cause x t) :=
  (h.raise _ _).stopScan _ _

theorem scanErased (h : s.Evolves t) (v n : Nat) : s.Evolves (scanErased v n t) := by
  unfold Machine.scanErased
  split
  · split
    · split
      · have ho := (h.withdraw .verify (fun r => decide (r.owner = .scan))).orphanAll
        dsimp only
        split
        · exact (ho _).endScan _ _
        · exact (ho _).skipScan _ _
      · exact h
    · exact h
  · exact h

/-! ### Erases -/

theorem removeErase (h : s.Evolves t) (e : EraseEntry) : s.Evolves (removeErase e t) := h.volatile rfl

/-- An Erasing segment leaves Erasing. -/
theorem leaveErasing (h : s.Evolves t) (e : EraseEntry) {f : Segment → Segment}
    (hf : ∀ g : Segment, g.state = .erasing → g.Steady (f g)) : s.Evolves (t.leaveErasing e f) := by
  unfold State.leaveErasing
  dsimp only
  split
  · next hg => exact h.put _ _ _ (hf _ hg)
  · exact h


theorem eraseDone (h : s.Evolves t) (e : EraseEntry) (soft : Bool) : s.Evolves (eraseDone e soft t) := by
  have hs := (h.leaveErasing e (f := Segment.erased) fun _ hg => .erased hg).removeErase e
  unfold Machine.eraseDone
  dsimp only
  split <;> split
  · exact (hs.send _).raiseAlone _ _
  · exact hs.raiseAlone _ _
  · exact hs.send _
  · exact hs

theorem eraseFails (h : s.Evolves t) (e : EraseEntry) : s.Evolves (eraseFails e t) := by
  have hs := (h.leaveErasing e (f := fun g => { g with state := .expired }) fun _ hg => .erase_failed hg).removeErase e
  unfold Machine.eraseFails
  dsimp only
  split
  · exact (hs.send _).raiseAlone _ _
  · exact hs.raiseAlone _ _

/-! ### Write transfers -/

theorem sendFor (h : s.Evolves t) (w : WriteContext) (f : Frame) : s.Evolves (t.sendFor w f) := by
  unfold State.sendFor
  split
  · exact h
  · exact h.send f

theorem fillSegment (h : s.Evolves t) (w : WriteContext) (n : Nat) : s.Evolves (fillSegment w n t).2 := by
  have hc : s.Evolves (if closesByItself (t.segment w.volume n).cls then t.closeSegment w.volume n id else t) := by
    split
    · exact h.closeSegment _ _ fun _ => ⟨rfl, rfl, rfl⟩
    · exact h
  unfold Machine.fillSegment
  dsimp only
  generalize (if closesByItself (t.segment w.volume n).cls then t.closeSegment w.volume n id else t) = u at hc ⊢
  split
  · dsimp only
    split
    · refine put (put hc _ _ _ ?_) _ _ _ ?_
      · exact .of_same rfl rfl rfl
      · exact .of_same rfl rfl rfl
    · exact hc
  · exact hc

theorem foldEntry (h : s.Evolves t) (w : WriteContext) (e : PendingWrite) : s.Evolves (foldEntry w e t).2 := by
  have hp := h.put w.volume e.segment ((t.segment w.volume e.segment).confirm e) (.confirm _ e)
  unfold Machine.foldEntry
  dsimp only
  split
  · exact hp.fillSegment w _
  · exact hp

theorem foldHeads (h : s.Evolves t) (step : Nat) (l : List PendingWrite) (w : WriteContext) :
    s.Evolves (foldHeads step l w t).2 := by
  induction l generalizing t w with
  | nil => exact h
  | cons e rest ih =>
    unfold Machine.foldHeads
    split
    · exact ih (h.foldEntry w e) _
    · exact h

theorem clearWriters (h : s.Evolves t) (w : WriteContext) (c : Nat) : s.Evolves (clearWriters w c t) := by
  have hc := (h.clearWriter w.volume w.startSegment c).clearWriter w.volume w.current c
  unfold Machine.clearWriters
  dsimp only
  split
  · exact hc.clearWriter _ _ c
  · exact hc

theorem freeWrite (h : s.Evolves t) (c : Nat) (w : WriteContext) : s.Evolves (freeWrite c w t) :=
  ((h.clearWriters w c).setContext c .free).complete _ _

theorem closeAtEnd (h : s.Evolves t) (c : Nat) (w : WriteContext) : s.Evolves (closeAtEnd c w t) := by
  unfold Machine.closeAtEnd
  dsimp only
  split
  · exact h.closeSegment _ _ fun _ => ⟨rfl, rfl, rfl⟩
  · exact h

theorem completeWrite (h : s.Evolves t) (c : Nat) (w : WriteContext) : s.Evolves (completeWrite c w t) :=
  ((h.closeAtEnd c w).freeWrite c w).sendFor w _

theorem freeAborting (h : s.Evolves t) (c : Nat) (w : WriteContext) : s.Evolves (freeAborting c w t) := by
  have hf := h.freeWrite c w
  unfold Machine.freeAborting
  dsimp only
  split
  · exact hf
  · split
    · exact hf.sendFor w _
    · exact hf

theorem settleAborting (h : s.Evolves t) (c : Nat) (w : WriteContext) : s.Evolves (settleAborting c w t) := by
  unfold Machine.settleAborting
  split
  · exact h.freeAborting c w
  · exact h.putWrite c w

theorem abortWrite (h : s.Evolves t) (c : Nat) (w : WriteContext) : s.Evolves (abortWrite c w t) :=
  h.settleAborting c _

theorem fatalWrite (h : s.Evolves t) (c : Nat) (w : WriteContext) (cond : Cond) (code : Code) :
    s.Evolves (fatalWrite c w cond code t) := (h.raise _ _).abortWrite c _

theorem announceSettled (h : s.Evolves t) (x : FaultRecord) (w : WriteContext) (r : Nat) :
    s.Evolves (announceSettled x w r t) := by
  unfold Machine.announceSettled sendResumerFault
  split
  · exact (h.sendFor w _).note _
  · split
    · exact h.send _
    · exact h

theorem settleFaulted (h : s.Evolves t) (c : Nat) (w : WriteContext) : s.Evolves (settleFaulted c w t) := by
  have hw := h.putWrite c w
  unfold Machine.settleFaulted
  split
  · exact hw
  · split
    · split
      · refine announceSettled (setRecord (put (h.putWrite c _) _ _ _ ?_) _ _) _ w _
        exact .of_same rfl rfl rfl
      · exact hw
    · exact hw

theorem failAborting (h : s.Evolves t) (c : Nat) (failed : PendingWrite → Bool) (w : WriteContext) :
    s.Evolves (failAborting c failed w t) := (((h.raise _ _).withdraw _ _).orphanAll _).settleAborting c _

theorem failLive (h : s.Evolves t) (c : Nat) (kind : FaultKind) (cont : Continuation) (failed : PendingWrite → Bool)
    (w : WriteContext) : s.Evolves (failLive c kind cont failed w t) := by
  unfold Machine.failLive
  split
  · exact (((h.raise _ _).withdraw _ _).setRecord _ _).settleFaulted c _
  · exact (h.raise _ _).failAborting c failed _

theorem failReissuing (h : s.Evolves t) (c : Nat) (kind : FaultKind) (failed : PendingWrite → Bool)
    (w : WriteContext) : s.Evolves (failReissuing c kind failed w t) := by
  have hw := (h.raise w.op .mediaFault).withdraw .write fun r => decide (r.owner = .write c)
  unfold Machine.failReissuing
  refine settleFaulted ?_ c _
  split
  · split
    · exact hw.setRecord _ _
    · exact hw
  · exact hw

theorem failFaulted (h : s.Evolves t) (c : Nat) (failed : PendingWrite → Bool) (w : WriteContext) :
    s.Evolves (failFaulted c failed w t) := (h.raise _ _).settleFaulted c _

theorem writeFails (h : s.Evolves t) (c : Nat) (kind : FaultKind) (failed : PendingWrite → Bool) (w : WriteContext) :
    s.Evolves (writeFails c kind failed w t) := by
  unfold Machine.writeFails
  split
  · exact h.failLive c kind _ failed w
  · exact h.failLive c kind _ failed w
  · exact h.failAborting c failed w
  · exact h.failFaulted c failed w
  · exact h.failReissuing c kind failed w

theorem disposeRecord (h : s.Evolves t) (c : Nat) (w : WriteContext) : s.Evolves (disposeRecord c w t) := by
  have hp := h.put w.volume w.current { t.segment w.volume w.current with faultPending := false }
    (.of_same rfl rfl rfl)
  unfold Machine.disposeRecord
  dsimp only
  split
  · exact hp.setRecord _ _
  · exact hp

theorem answerResumer (h : s.Evolves t) (c : Nat) (w : WriteContext) : s.Evolves (answerResumer c w t) := by
  unfold Machine.answerResumer
  split
  · split
    · exact h.send _
    · exact h
  · exact h

theorem reissueDone (h : s.Evolves t) (c : Nat) (w : WriteContext) : s.Evolves (reissueDone c w t) := by
  have hd := (h.answerResumer c w).disposeRecord c w
  unfold Machine.reissueDone
  dsimp only
  split
  · exact hd.completeWrite c _
  · split
    · exact hd.abortWrite c _
    · exact (hd.putWrite c _).send _

theorem settleReissuing (h : s.Evolves t) (c : Nat) (w : WriteContext) : s.Evolves (settleReissuing c w t) := by
  unfold Machine.settleReissuing
  split
  · exact h.reissueDone c w
  · exact h.putWrite c w

theorem creditStreaming (h : s.Evolves t) (c before : Nat) (w : WriteContext) :
    s.Evolves (creditStreaming c before w t) := by
  unfold Machine.creditStreaming
  split
  · exact (h.putWrite c _).sendFor _ _
  · exact h.putWrite c w

theorem writeConfirms (h : s.Evolves t) (c tag : Nat) (soft : Bool) (w : WriteContext) :
    s.Evolves (writeConfirms c tag soft w t) := by
  unfold Machine.writeConfirms
  have hs : s.Evolves (if soft then raiseFor w .mediaSoft t else (w, t)).2 := by
    split
    · exact h.raise _ _
    · exact h
  generalize (if soft then raiseFor w .mediaSoft t else (w, t)) = p at hs
  have hf := hs.foldHeads (if p.1.state = .reissuing then 0 else 1) (markConfirmed tag p.1.pending) p.1
  generalize hq : Machine.foldHeads _ _ _ _ = q at hf
  dsimp only
  rw [hq]
  split
  · exact hf.creditStreaming c _ _
  · split
    · exact hf.completeWrite c _
    · exact hf.putWrite c _
  · exact hf.settleAborting c _
  · exact hf.settleFaulted c _
  · exact hf.settleReissuing c _

/-! ### Admission -/

theorem refuse (h : s.Evolves t) (f : Frame) (k : RequestKind) (d : Denial) : s.Evolves (refuse f k d t) := by
  have hr : s.Evolves (reportDenial f k d t) := by
    unfold reportDenial
    split
    · exact h.raiseAlone _ _
    · exact h
  unfold Machine.refuse
  dsimp only
  split
  · exact hr.sendAnyway _
  · exact hr.send _

theorem refuseControl (h : s.Evolves t) (f : Frame) (code : Code) (segment : Option Nat) :
    s.Evolves (refuseControl f code segment t) := h.send _

theorem answerControl (h : s.Evolves t) (f : Frame) (status : Status) (words : List Nat) :
    s.Evolves (answerControl f status words t) := h.send _

/-! ### Frames of transfers and reads -/

theorem takeMalformed (h : s.Evolves t) (x : RxFrame) : s.Evolves (takeMalformed x t) := by
  cases x with
  | whole f => exact h.send _
  | cutShort => exact h

theorem markWritten (h : s.Evolves t) (v : Nat) (l : List PendingWrite) : s.Evolves (markWritten v l t) := by
  induction l generalizing t with
  | nil => exact h
  | cons e rest ih => exact ih (h.put _ _ _ (.of_same rfl rfl rfl))

theorem acceptData (h : s.Evolves t) (c : Nat) (w : WriteContext) (n : Nat) (data : List Byte) :
    s.Evolves (acceptData c w n data t) := ((h.putWrite c _).ask _ _).markWritten _ _

theorem streamData (h : s.Evolves t) (c : Nat) (w : WriteContext) (n : Nat) (data : List Byte) :
    s.Evolves (streamData c w n data t) := by
  unfold Machine.streamData
  split_ifs
  · exact h.fatalWrite c w _ _
  · exact h.fatalWrite c w _ _
  · exact h.fatalWrite c w _ _
  · exact h.acceptData c w n data

theorem noteData (h : s.Evolves t) (c : Nat) (w : WriteContext) (cond : Cond) : s.Evolves (noteData c w cond t) :=
  (h.raise _ _).putWrite c _

theorem takeData (h : s.Evolves t) (f : Frame) : s.Evolves (takeData f t) := by
  unfold Machine.takeData
  split
  · split
    · exact h.streamData _ _ _ _
    · exact h.noteData _ _ _
    · exact h
    · exact h.noteData _ _ _
    · exact h.noteData _ _ _
  · exact h

theorem streamEnd (h : s.Evolves t) (c : Nat) (w : WriteContext) (close : Bool) :
    s.Evolves (streamEnd c w close t) := by
  unfold Machine.streamEnd
  dsimp only
  split_ifs
  · exact h.completeWrite c _
  · exact h.putWrite c _
  · exact (h.raise _ _).completeWrite c _
  · exact (h.raise _ _).putWrite c _

theorem takeEnd (h : s.Evolves t) (f : Frame) : s.Evolves (takeEnd f t) := by
  unfold Machine.takeEnd
  split
  · split
    · exact h.streamEnd _ _ _
    · exact h
    · exact h
    · exact h
    · exact h
  · exact h

theorem takeRead (h : s.Evolves t) (f : Frame) : s.Evolves (takeRead f t) := by
  unfold Machine.takeRead
  split
  · exact h.refuse _ _ _
  · exact (h.ask _ _).settleRead _ _
  · exact h

theorem idleExpires (h : s.Evolves t) (c : Nat) : s.Evolves (idleExpires c t) := by
  unfold Machine.idleExpires
  split
  · split
    · exact h.fatalWrite c _ _ _
    · exact h
  · exact h
  · exact h

/-! ### The work of an initiator -/

theorem eachContext (h : s.Evolves t) {f : Nat → State → State} (hf : ∀ c u, s.Evolves u → s.Evolves (f c u))
    (l : List Nat) : s.Evolves (eachContext f l t) := by
  induction l generalizing t with
  | nil => exact h
  | cons c rest ih => exact ih (hf c t h)

theorem removeContext (h : s.Evolves t) (i c : Nat) : s.Evolves (removeContext i c t) := by
  unfold Machine.removeContext
  split
  · split
    · split
      · exact h.abortWrite c _
      · exact h.abortWrite c _
      · exact h.putWrite c _
      · exact h.putWrite c _
      · exact h.putWrite c _
    · exact h
  · split
    · exact h.dropRead c _
    · exact h
  · exact h

theorem removeInitiator (h : s.Evolves t) (i : Nat) : s.Evolves (removeInitiator i t) := by
  have he := h.eachContext (fun c u hu => hu.removeContext i c) (List.range 32)
  unfold Machine.removeInitiator
  generalize Machine.eachContext (Machine.removeContext i) (List.range 32) t = u at he ⊢
  exact (he.queues u.rxQueue (u.txQueue.filter _) le_rfl (List.length_filter_le _ _)).volatile rfl

theorem dropContext (h : s.Evolves t) (c : Nat) : s.Evolves (dropContext c t) := by
  unfold Machine.dropContext
  split
  · split
    · exact h.abortWrite c _
    · exact h.abortWrite c _
    · exact h.putWrite c _
    · exact h
    · exact h
  · exact h.dropRead c _
  · exact h

theorem ingestLost (h : s.Evolves t) : s.Evolves (ingestLost t) := by
  unfold Machine.ingestLost
  split
  · have hl : s.Evolves
        { t with ingestLink := .lost, ingestCheck := FrameCheck.cleared, rxQueue := [], txQueue := [] } :=
      (h.queues [] [] (Nat.zero_le _) (Nat.zero_le _)).volatile rfl
    have he := hl.eachContext (fun c u hu => hu.dropContext c) (List.range 32)
    dsimp only
    generalize Machine.eachContext Machine.dropContext (List.range 32) _ = u at he ⊢
    exact he.volatile rfl
  · exact h

/-! ### Settings -/

theorem actClearConditions (h : s.Evolves t) (f : Frame) : s.Evolves (actClearConditions f t) := by
  unfold Machine.actClearConditions
  dsimp only
  split_ifs
  · exact h.refuseControl _ _ _
  · exact h.answerControl _ _ _
  · refine answerControl (volatile h ?_) _ _ _
    rfl

theorem actSetNotice (h : s.Evolves t) (f : Frame) : s.Evolves (actSetNotice f t) := by
  unfold Machine.actSetNotice
  split_ifs
  · exact h.refuseControl _ _ _
  · exact h.refuseControl _ _ _
  · exact h.answerControl _ _ _
  · refine answerControl (volatile h ?_) _ _ _
    rfl

theorem actSetTimeouts (h : s.Evolves t) (f : Frame) : s.Evolves (actSetTimeouts f t) := by
  unfold Machine.actSetTimeouts
  dsimp only
  split_ifs
  · exact h.refuseControl _ _ _
  · exact h.answerControl _ _ _
  · refine answerControl (volatile h ?_) _ _ _
    rfl

/-! ### Requests on segments -/

theorem recordTrigger (h : s.Evolves t) (f : Frame) (n : Nat) (e : ClassEntry)
    (hg : (t.segment (f.param 0) n).state ≠ .blank) : s.Evolves (recordTrigger f n e t) := by
  unfold Machine.recordTrigger
  dsimp only
  split
  · refine answerControl (put h _ _ _ ?_) _ _ _
    exact .of_same rfl rfl rfl
  · refine answerControl (put h _ _ _ ?_) _ _ _
    exact .stateAfterExpiry hg _ _ rfl rfl rfl

theorem actTrigger (h : s.Evolves t) (f : Frame) (n : Nat) : s.Evolves (actTrigger f n t) := by
  unfold Machine.actTrigger
  dsimp only
  split
  · exact h.refuseControl _ _ _
  · split
    · exact h.refuseControl _ _ _
    · next hb =>
      split
      · split_ifs
        · exact h.refuseControl _ _ _
        · exact h.answerControl _ _ _
        · exact h.recordTrigger f n _ (by simp at hb; exact hb.1)
      · exact h.refuseControl _ _ _

theorem actExtendRetention (h : s.Evolves t) (f : Frame) (n : Nat) : s.Evolves (actExtendRetention f n t) := by
  unfold Machine.actExtendRetention extendTo
  dsimp only
  split
  · exact h.refuseControl _ _ _
  · split
    · exact h.refuseControl _ _ _
    · next hb =>
      split
      · exact h.refuseControl _ _ _
      · split_ifs
        · exact h.refuseControl _ _ _
        · exact h.answerControl _ _ _
        · refine answerControl (put h _ _ _ ?_) _ _ _
          exact .stateAfterExpiry (by simp at hb; tauto) _ _ rfl rfl rfl

theorem actClose (h : s.Evolves t) (f : Frame) (n : Nat) : s.Evolves (actClose f n t) := by
  unfold Machine.actClose
  dsimp only
  split_ifs
  · exact h.refuseControl _ _ _
  · exact h.refuseControl _ _ _
  · exact h.refuseControl _ _ _
  · exact h.refuseControl _ _ _
  · exact (h.closeSegment _ _ fun _ => ⟨rfl, rfl, rfl⟩).answerControl _ _ _

/-! ### Requests on scans -/

theorem actLoadScan (h : s.Evolves t) (f : Frame) : s.Evolves (actLoadScan f t) := by
  unfold Machine.actLoadScan
  split
  · exact h.refuseControl _ _ _
  · exact ((h.volatile rfl : s.Evolves { t with scanQueued := some (loadedScan f) }).promoteScan).answerControl _ _ _

theorem actCancelScan (h : s.Evolves t) (f : Frame) : s.Evolves (actCancelScan f t) := by
  have hc : s.Evolves (cancelActive f t) := by
    unfold cancelActive
    split
    · exact h.refuseControl _ _ _
    · split_ifs
      · exact h.answerControl _ _ _
      · exact ((h.withdraw _ _).putScan _).answerControl _ _ _
      · exact (h.stopScan _ _).answerControl _ _ _
  unfold Machine.actCancelScan
  split_ifs
  · exact h.refuseControl _ _ _
  · exact hc
  · split
    · exact h.refuseControl _ _ _
    · exact (h.volatile rfl : s.Evolves { t with scanQueued := none }).answerControl _ _ _

theorem actReleaseScan (h : s.Evolves t) (f : Frame) : s.Evolves (actReleaseScan f t) := by
  unfold Machine.actReleaseScan
  split
  · exact h.refuseControl _ _ _
  · split
    · exact h.refuseControl _ _ _
    · exact ((h.volatile rfl : s.Evolves { t with scanActive := none }).promoteScan).answerControl _ _ _

/-! ### RESUME -/

theorem beginReissue (h : s.Evolves t) (r : Nat) (x : FaultRecord) (i k : Nat) :
    s.Evolves (beginReissue r x i k t) := by
  unfold Machine.beginReissue
  split
  · exact (((h.setRecord _ _).putWrite _ _).markWritten _ _).ask _ _
  · exact h
  · exact h

theorem abandonSegment (h : s.Evolves t) (p : FaultPlace) : s.Evolves (abandonSegment p t) := by
  unfold Machine.abandonSegment
  split
  · exact h.closeSegment _ _ fun _ => ⟨rfl, rfl, rfl⟩
  · exact h.put _ _ _ (.of_same rfl rfl rfl)

theorem abandonRecord (h : s.Evolves t) (f : Frame) (r : Nat) (x : FaultRecord) :
    s.Evolves (abandonRecord f r x t) := by
  unfold Machine.abandonRecord
  split
  · exact ((((h.abandonSegment _).freeWrite _ _).sendFor _ _).setRecord _ _).answerControl _ _ _
  · exact h
  · exact h
  · exact h

theorem takeResume (h : s.Evolves t) (f : Frame) : s.Evolves (takeResume f t) := by
  unfold Machine.takeResume actResume
  split
  · exact h.refuse _ _ _
  · split
    · exact h.refuseControl _ _ _
    · split
      · exact h.beginReissue _ _ _ _
      · exact h.abandonRecord _ _ _
    · exact h

/-! ### Collections and records -/

theorem stopCollection (h : s.Evolves t) (x : Collection) (resume : Option Nat) :
    s.Evolves (stopCollection x resume t) := (h.volatile rfl : s.Evolves { t with collection := none }).send _

theorem takeCollect (h : s.Evolves t) (f : Frame) : s.Evolves (takeCollect f t) := by
  unfold Machine.takeCollect actCollect
  dsimp only
  split
  · exact h.refuse _ _ _
  · split_ifs
    · exact h.refuseControl _ _ _
    · exact h.refuseControl _ _ _
    · exact h.refuseControl _ _ _
    · exact h.volatile rfl

theorem examine (h : s.Evolves t) : s.Evolves (examine t) := by
  unfold Machine.examine
  split
  · next x _ =>
    have hp := h.put x.volume x.nextSegment
      { t.segment x.volume x.nextSegment with readSince := false, writtenSince := false } (.of_same rfl rfl rfl)
    unfold examineNext
    dsimp only
    split_ifs
    · exact hp.stopCollection _ _
    · exact hp.stopCollection _ _
    · exact hp.volatile rfl
    · exact h.stopCollection _ _
  · exact h

theorem takeReadRecord (h : s.Evolves t) (f : Frame) : s.Evolves (takeReadRecord f t) := by
  unfold Machine.takeReadRecord actReadRecord
  split
  · exact h.refuse _ _ _
  · split
    · exact h.send _
    · exact h.refuseControl _ _ _

/-! ### The shelf's answers -/

theorem answerWrite (h : s.Evolves t) (c tag : Nat) (a : Answer) (w : WriteContext) :
    s.Evolves (answerWrite c tag a w t) := by
  cases a with
  | ok => exact h.writeConfirms c tag false w
  | soft => exact h.writeConfirms c tag true w
  | fault => exact h.writeFails c _ _ w
  | data _ => exact h.writeFails c _ _ w

theorem answerRead (h : s.Evolves t) (c tag : Nat) (a : Answer) (r : ReadContext) :
    s.Evolves (answerRead c tag a r t) := by
  cases a with
  | ok => exact h.readFails c _ r
  | soft => exact h.readFails c _ r
  | fault => exact h.readFails c _ r
  | data f =>
    unfold Machine.answerRead
    dsimp only
    split
    · exact h.readArrives c tag _ r
    · exact h.readFails c _ r

theorem answerErase (h : s.Evolves t) (a : Answer) (e : EraseEntry) : s.Evolves (answerErase a e t) := by
  cases a with
  | ok => exact h.eraseDone e false
  | soft => exact h.eraseDone e true
  | fault => exact h.eraseFails e
  | data _ => exact h.eraseFails e

theorem answerScan (h : s.Evolves t) (tag : Nat) (a : Answer) (x : Scan) : s.Evolves (answerScan tag a x t) := by
  cases a with
  | ok => exact h.scanFails _ x
  | soft => exact h.scanFails _ x
  | fault => exact h.scanFails _ x
  | data f =>
    unfold Machine.answerScan
    dsimp only
    split
    · exact h.scanArrives tag _ x
    · exact h.scanFails _ x

theorem handOver (h : s.Evolves t) (owner : Owner) (tag : Nat) (a : Answer) : s.Evolves (handOver owner tag a t) := by
  unfold Machine.handOver
  split
  · split
    · exact h.answerWrite _ tag a _
    · exact h
    · exact h
  · split
    · exact h.answerRead _ tag a _
    · exact h
    · exact h
  · split
    · exact h.answerErase a _
    · exact h
  · split
    · exact h.answerScan tag a _
    · exact h

theorem responseArrives (h : s.Evolves t) (bytes : List Byte) : s.Evolves (responseArrives bytes t) := by
  unfold Machine.responseArrives
  split
  · have hc : s.Evolves { t with mediaCheck := checkAfter bytes } := h.volatile rfl
    dsimp only
    split
    · unfold takeResponse
      split
      · split
        · unfold answerSlot
          split
          · exact (hc.slot _ .free (.inl rfl)).handOver _ _ _
          · exact hc.slot _ .free (.inl rfl)
          · exact (hc.slot _ .free (.inl rfl)).raiseAlone _ _
          · exact hc.raiseAlone _ _
        · exact hc.raiseAlone _ _
      · exact hc.raiseAlone _ _
    · exact hc.raiseAlone _ _
  · exact h

theorem timeoutOwner (h : s.Evolves t) (owner : Owner) (tag : Nat) : s.Evolves (timeoutOwner owner tag t) := by
  unfold Machine.timeoutOwner
  split
  · split
    · exact h.writeFails _ _ _ _
    · exact h
    · exact h
  · split
    · exact h.readFails _ _ _
    · exact h
    · exact h
  · split
    · exact h.eraseFails _
    · exact h
  · split
    · exact h.scanFails _ _
    · exact h

theorem slotExpires (h : s.Evolves t) (k : Nat) : s.Evolves (slotExpires k t) := by
  have hl := h.slot k .busyLate (.inr (.inl rfl))
  unfold Machine.slotExpires
  split
  · exact hl.timeoutOwner _ k
  · exact hl
  · exact h
  · exact h
  · exact h

/-! ### The loss of the Media Link -/

theorem resetWrite (h : s.Evolves t) (c : Nat) : s.Evolves (resetWrite c t) := by
  unfold Machine.resetWrite
  split
  · split
    · exact h.writeFails c _ _ _
    · exact h
  · exact h
  · exact h

theorem resetRead (h : s.Evolves t) (c : Nat) : s.Evolves (resetRead c t) := by
  unfold Machine.resetRead
  split
  · split
    · exact h.readFails c _ _
    · exact h
  · exact h
  · exact h

theorem resetErases (h : s.Evolves t) (l : List EraseEntry) : s.Evolves (resetErases l t) := by
  induction l generalizing t with
  | nil => exact h
  | cons e rest ih =>
    refine ih ?_
    split
    · exact h.eraseFails e
    · exact h

theorem resetScan (h : s.Evolves t) : s.Evolves (resetScan t) := by
  unfold Machine.resetScan
  split
  · split
    · exact h.scanFails _ _
    · exact h
  · exact h

end State.Evolves

end Sys2Proof.Machine
end

section
/-! SUPPORT. What each command can do: the ordinary commands, and the calm ones, which change the Map no further than an
ordinary step does and leave the holds. -/

namespace Sys2Proof.Machine

/-! ### Ordinary commands -/

/-- The commands whose effect is an ordinary step. -/
def Instr.ordinary : Instr → Bool
  | .frameTransmit | .ingestLinkReset | .ingestLinkReady | .mediaLinkReady | .malformedFrame | .dataFrame | .endFrame
  | .readFrame | .readRecord | .trigger | .extendRetention | .closeSegment | .sweep | .loadScan | .cancelScan
  | .releaseScan | .resumeReissue | .resumeAbandon | .collectActivity | .collectionExamine | .clearConditions
  | .setNotice | .setTimeouts | .mstatus _ | .mdata _ | .scanVisit | .mediaTimeout _ | .transferIdle _
  | .passBegin => true
  | _ => false

theorem State.Evolves.onEvent {s : State} {f : State → State} (hf : s.Evolves (f s)) : s.Evolves (onEvent s f) := by
  unfold Machine.onEvent
  split
  · exact hf.endStep
  · exact .refl

/-- Taking the head frame is an ordinary step when what the frame does is. -/
theorem State.Evolves.takeFrame {s : State} {pick : RxFrame → Bool} {act : RxFrame → State → State}
    (ha : ∀ x u, s.Evolves u → s.Evolves (act x u)) : s.Evolves (takeFrame pick act s) := by
  unfold Machine.takeFrame
  split
  · next x rest hq =>
    split
    · exact ha x _ (State.Evolves.refl.queues rest s.txQueue (by simp [hq]) le_rfl)
    · exact .refl
  · exact .refl

section FrameEvents

variable {s : State} {act : Frame → State → State} (ha : ∀ f u, s.Evolves u → s.Evolves (act f u))
include ha

theorem State.Evolves.onFrame (x : RxFrame) (u : State) (hu : s.Evolves u) : s.Evolves (onFrame act x u) := by
  cases x with
  | whole f => exact ha f u hu
  | cutShort => exact hu

theorem State.Evolves.frameEvent (kind : Nat) : s.Evolves (frameEvent kind act s) := (takeFrame (onFrame ha)).onEvent

theorem State.Evolves.requestEvent (request : Nat) : s.Evolves (requestEvent request act s) :=
  (takeFrame (onFrame ha)).onEvent

theorem State.Evolves.controlEvent (request : Nat) : s.Evolves (controlEvent request act s) := by
  refine requestEvent (fun f u hu => ?_) request
  split
  · exact hu.refuse _ _ _
  · exact ha f u hu

end FrameEvents

theorem State.Evolves.writeControlEvent {s : State} {act : Frame → Nat → State → State}
    (ha : ∀ f n u, s.Evolves u → s.Evolves (act f n u)) (request : Nat) :
    s.Evolves (writeControlEvent request act s) := by
  refine requestEvent (fun f u hu => ?_) request
  split
  · exact hu.refuse _ _ _
  · exact ha f _ u hu

theorem transmitHead_evolves (s : State) : s.Evolves (transmitHead s) := by
  unfold transmitHead
  split
  · next f rest hq =>
    split
    · exact (State.Evolves.refl.queues s.rxQueue rest le_rfl (by simp [hq])).volatile rfl
    · exact .refl
  · exact .refl

theorem beginPass_evolves (s : State) : s.Evolves (beginPass s) := by
  unfold beginPass
  split
  · exact State.Evolves.refl.volatile rfl
  · exact .refl

theorem activeVisit_evolves (s : State) : s.Evolves (activeVisit s) := by
  unfold activeVisit
  split
  · split
    · exact State.Evolves.refl.visitScan _
    · exact .refl
  · exact .refl

/-- The effect of an ordinary command is an ordinary step. -/
theorem exec_evolves {c : Instr} {s t : State} (hc : Instr.ordinary c = true) (h : exec c s = .next t) :
    s.Evolves t := by
  cases c
  all_goals injection h with h; subst h
  case frameTransmit => exact (transmitHead_evolves s).onEvent
  case ingestLinkReset => exact (State.Evolves.refl.ingestLost).onEvent
  case ingestLinkReady => exact (State.Evolves.refl.volatile rfl).onEvent
  case mediaLinkReady => exact (State.Evolves.refl.volatile rfl).onEvent
  case malformedFrame => exact (State.Evolves.takeFrame fun x _ hu => hu.takeMalformed x).onEvent
  case dataFrame => exact State.Evolves.frameEvent (fun f _ hu => hu.takeData f) 2
  case endFrame => exact State.Evolves.frameEvent (fun f _ hu => hu.takeEnd f) 3
  case readFrame => exact State.Evolves.frameEvent (fun f _ hu => hu.takeRead f) 4
  case readRecord => exact State.Evolves.requestEvent (fun f _ hu => hu.takeReadRecord f) 1
  case trigger => exact State.Evolves.writeControlEvent (fun f n _ hu => hu.actTrigger f n) 8
  case extendRetention => exact State.Evolves.writeControlEvent (fun f n _ hu => hu.actExtendRetention f n) 9
  case closeSegment => exact State.Evolves.writeControlEvent (fun f n _ hu => hu.actClose f n) 10
  case sweep =>
    exact State.Evolves.controlEvent
      (fun f u hu => (hu.volatile rfl : s.Evolves u.rollover).answerControl f _ _) 13
  case loadScan => exact State.Evolves.controlEvent (fun f _ hu => hu.actLoadScan f) 14
  case cancelScan => exact State.Evolves.controlEvent (fun f _ hu => hu.actCancelScan f) 15
  case releaseScan => exact State.Evolves.controlEvent (fun f _ hu => hu.actReleaseScan f) 16
  case resumeReissue => exact (State.Evolves.takeFrame (State.Evolves.onFrame fun f _ hu => hu.takeResume f)).onEvent
  case resumeAbandon => exact (State.Evolves.takeFrame (State.Evolves.onFrame fun f _ hu => hu.takeResume f)).onEvent
  case collectActivity => exact State.Evolves.requestEvent (fun f _ hu => hu.takeCollect f) 18
  case collectionExamine => exact (State.Evolves.refl.examine).onEvent
  case clearConditions => exact State.Evolves.controlEvent (fun f _ hu => hu.actClearConditions f) 19
  case setNotice => exact State.Evolves.controlEvent (fun f _ hu => hu.actSetNotice f) 20
  case setTimeouts => exact State.Evolves.controlEvent (fun f _ hu => hu.actSetTimeouts f) 21
  case mstatus bytes =>
    refine State.Evolves.onEvent ?_
    split
    · exact .refl
    · exact State.Evolves.refl.responseArrives bytes
  case mdata bytes =>
    refine State.Evolves.onEvent ?_
    split
    · exact State.Evolves.refl.responseArrives bytes
    · exact .refl
  case scanVisit => exact (activeVisit_evolves s).onEvent
  case mediaTimeout k => exact (State.Evolves.refl.slotExpires k).onEvent
  case transferIdle c => exact (State.Evolves.refl.idleExpires c).onEvent
  case passBegin => exact (beginPass_evolves s).onEvent
  all_goals simp [Instr.ordinary] at hc

end Sys2Proof.Machine
end

section
/-! SUPPORT. What the taking of a frame can do, and the calm commands, which change the Map no further than an ordinary
step does and leave the holds. -/

namespace Sys2Proof.Machine

/-! ### What an event can do -/

theorem onEvent_cases (s : State) (f : State → State) : onEvent s f = s ∨ onEvent s f = (f s).endStep := by
  unfold onEvent
  split
  · exact .inr rfl
  · exact .inl rfl

/-- Taking the head frame does nothing, or what the frame does on the state without it (R183). -/
theorem takeFrame_cases (pick : RxFrame → Bool) (act : RxFrame → State → State) (s : State) :
    takeFrame pick act s = s ∨
      ∃ x rest, s.rxQueue = x :: rest ∧ pick x = true ∧ takeFrame pick act s = act x (s.taken rest) := by
  unfold takeFrame
  split
  · next x rest hq =>
    split
    · next hp =>
      simp only [Bool.and_eq_true] at hp
      exact .inr ⟨x, rest, hq, hp.1, rfl⟩
    · exact .inl rfl
  · exact .inl rfl

/-- The event of a frame of a kind does nothing, or what the frame does, with the notice of its causes. -/
theorem frameEvent_cases (kind : Nat) (act : Frame → State → State) (s : State) :
    frameEvent kind act s = s ∨ frameEvent kind act s = s.endStep ∨
      ∃ f rest, s.rxQueue = .whole f :: rest ∧ frameEvent kind act s = (act f (s.taken rest)).endStep := by
  unfold frameEvent
  rcases onEvent_cases s (takeFrame (isKind kind) (onFrame act)) with h | h
  · exact .inl h
  · rw [h]
    rcases takeFrame_cases (isKind kind) (onFrame act) s with h1 | ⟨x, rest, hq, hp, h1⟩
    · exact .inr (.inl (by rw [h1]))
    · cases x with
      | whole f => exact .inr (.inr ⟨f, rest, hq, by rw [h1]; rfl⟩)
      | cutShort => exact absurd hp (by simp [isKind])

/-- The event of a control request does nothing, refuses the request, or does what the request does, with the notice of
its causes. -/
theorem controlEvent_cases (request : Nat) (act : Frame → State → State) (s : State) :
    controlEvent request act s = s ∨ controlEvent request act s = s.endStep ∨
      ∃ f rest, s.rxQueue = .whole f :: rest ∧
        ((∃ d, controlEvent request act s = (refuse f (.control f.code) d (s.taken rest)).endStep) ∨
          controlEvent request act s = (act f (s.taken rest)).endStep) := by
  unfold controlEvent requestEvent
  generalize hg : (fun (f : Frame) (s : State) => match judgeControl s f none none with
    | some d => refuse f (.control f.code) d s
    | none => act f s) = g
  rcases onEvent_cases s (takeFrame (isRequest request) (onFrame g)) with h | h
  · exact .inl h
  · rw [h]
    rcases takeFrame_cases (isRequest request) (onFrame g) s with h1 | ⟨x, rest, hq, hp, h1⟩
    · exact .inr (.inl (by rw [h1]))
    · cases x with
      | whole f =>
        refine .inr (.inr ⟨f, rest, hq, ?_⟩)
        rw [h1]
        subst hg
        show (∃ d, (match judgeControl (s.taken rest) f none none with
          | some d => refuse f (.control f.code) d (s.taken rest)
          | none => act f (s.taken rest)).endStep = _) ∨ (match judgeControl (s.taken rest) f none none with
          | some d => refuse f (.control f.code) d (s.taken rest)
          | none => act f (s.taken rest)).endStep = _
        cases judgeControl (s.taken rest) f none none with
        | some d => exact .inl ⟨d, rfl⟩
        | none => exact .inr rfl
      | cutShort => exact absurd hp (by simp [isRequest])

/-! ### Calm steps -/

/-- Between s and t descriptors change steadily, nothing else of the Map changes, and the holds and the walk queue stand.
-/
structure State.Calm (s t : State) : Prop where
  rewrites : s.Rewrites Segment.Steady t
  holds : t.holds = s.holds
  walkQueue : t.walkQueue = s.walkQueue

namespace State.Calm

variable {s t u : State}

theorem of_same (hv : t.volumes = s.volumes) (hh : t.holds = s.holds) (hw : t.walkQueue = s.walkQueue) : s.Calm t :=
  ⟨.of_volumes .refl hv, hh, hw⟩

theorem trans (h : s.Calm t) (k : t.Calm u) : s.Calm u :=
  ⟨h.rewrites.trans (fun _ _ _ => .trans) k.rewrites, k.holds.trans h.holds, k.walkQueue.trans h.walkQueue⟩

theorem of_evolves (h : s.Evolves t) : s.Calm t := by
  obtain ⟨-, -, hh, hw⟩ := h.tables
  exact ⟨h.rewrites, hh, hw⟩

theorem refl (s : State) : s.Calm s := of_evolves .refl

theorem endStep (h : s.Calm t) : s.Calm t.endStep := h.trans (of_evolves (State.Evolves.refl.endStep))

theorem onEvent {f : State → State} (hf : s.Calm (f s)) : s.Calm (onEvent s f) := by
  rcases onEvent_cases s f with h | h <;> rw [h]
  · exact refl s
  · exact hf.endStep

theorem answerControl (h : s.Calm t) (f : Frame) (status : Status) (words : List Nat) :
    s.Calm (answerControl f status words t) := h.trans (of_evolves (State.Evolves.refl.answerControl f status words))

theorem refuseControl (h : s.Calm t) (f : Frame) (code : Code) (n : Option Nat) :
    s.Calm (refuseControl f code n t) := h.trans (of_evolves (State.Evolves.refl.refuseControl f code n))

theorem taken (s : State) (rest : List RxFrame) : s.Calm (s.taken rest) := of_same rfl rfl rfl

theorem controlEvent {act : Frame → State → State} (ha : ∀ f (u : State), u.Calm (act f u)) (request : Nat) :
    s.Calm (controlEvent request act s) := by
  rcases controlEvent_cases request act s with h | h | ⟨f, rest, -, ⟨d, h⟩ | h⟩ <;> rw [h]
  · exact refl s
  · exact (refl s).endStep
  · exact ((taken s rest).trans (of_evolves (State.Evolves.refl.refuse _ _ _))).endStep
  · exact ((taken s rest).trans (ha _ _)).endStep

end State.Calm

/-! ### The start-up of every block -/

/-- The volumes of a Map whose every volume is changed in one way. -/
theorem State.volume_of_map {s t : State} {f : Volume → Volume} (hf : f Volume.absent = Volume.absent)
    (h : t.volumes = s.volumes.map f) (v : Nat) : t.volume v = f (s.volume v) := by
  unfold State.volume Table.get1
  split
  · exact hf.symm
  · rw [h]
    by_cases hv : v - 1 < 4 <;> simp [Table.get, hv, hf]

/-- Clearing the writer, and the fault pending flag too, changes descriptors steadily. -/
theorem Volume.setRight_steady (x : Volume) : x.Rewrites Segment.Steady x.setRight :=
  Volume.rewrites_mapped (f := Segment.setRight) rfl (fun _ => rfl) (fun _ => .of_same rfl rfl rfl) x

theorem Volume.forgetWriters_steady (x : Volume) : x.Rewrites Segment.Steady x.forgetWriters :=
  Volume.rewrites_mapped (f := fun g => { g with writer := none }) rfl (fun _ => rfl) (fun _ => .of_same rfl rfl rfl) x

theorem State.dropVolatile_volume (s : State) (v : Nat) : s.dropVolatile.volume v = (s.volume v).setRight :=
  State.volume_of_map rfl rfl v

theorem dropVolatile_calm (s : State) : s.Calm s.dropVolatile :=
  ⟨fun v => by rw [s.dropVolatile_volume v]; exact Volume.setRight_steady _, rfl, rfl⟩

theorem raiseStartUp_evolves (cs : List Cond) (s : State) : s.Evolves (raiseStartUp cs s) := by
  have hr : ∀ (l : List Cond) (u : State), s.Evolves u →
      s.Evolves (l.foldl (fun s c => s.raise (engineOp .startUp) c) u) := by
    intro l
    induction l with
    | nil => exact fun _ hu => hu
    | cons c rest ih => exact fun u hu => ih _ (hu.raise _ c)
  exact (hr cs s .refl).complete _ _

theorem startUp_calm (clamped discarded : Bool) (s : State) : s.Calm (startUp clamped discarded s) :=
  have hr : s.dropVolatile.Calm s.dropVolatile.rebuildErases := .of_same rfl rfl rfl
  (((dropVolatile_calm s).trans hr).trans (.of_evolves (raiseStartUp_evolves _ _))).endStep

theorem restart_calm (s : State) : s.Calm (restart s) := startUp_calm _ _ s

theorem losePower_calm (s : State) : s.Calm (losePower s) := by
  refine ⟨fun v => ?_, rfl, rfl⟩
  rw [State.volume_of_map (s := s) (t := losePower s) (f := Volume.forgetWriters) rfl rfl v]
  exact Volume.forgetWriters_steady _

/-! ### Calm commands that are not ordinary -/

theorem advanceClock_calm (s : State) : s.Calm (advanceClock s) := by
  unfold advanceClock
  dsimp only
  split_ifs
  · exact .of_evolves (State.Evolves.refl.raiseAlone _ _)
  · exact .of_same rfl rfl rfl
  · exact .of_same rfl rfl rfl
  · exact .refl s

theorem countQuietly_calm (s : State) : s.Calm (countQuietly s) := by
  unfold countQuietly
  split
  · exact .of_same rfl rfl rfl
  · exact .refl s

theorem frameArrives_calm (bytes : List Byte) (s : State) : s.Calm (frameArrives bytes s) := by
  unfold frameArrives
  dsimp only
  split_ifs
  · exact .of_same rfl rfl rfl
  · exact .of_evolves ((State.Evolves.refl.volatile rfl : s.Evolves { s with
      ingestCheck := checkAfter bytes }).raiseAlone _ _)
  · exact .refl s

theorem writeEntry_calm (i : Nat) (e : InitiatorEntry) (s : State) : s.Calm (writeEntry i e s) := by
  have hw : s.Calm { s with initiators := Table.set s.initiators i e } := .of_same rfl rfl rfl
  unfold writeEntry
  dsimp only
  split
  · exact hw.trans (.of_evolves (State.Evolves.refl.removeInitiator i))
  · exact hw

theorem actLoadInitiator_calm (f : Frame) (s : State) : s.Calm (actLoadInitiator f s) := by
  unfold actLoadInitiator
  split
  · exact (State.Calm.refl s).refuseControl _ _ _
  · split
    · exact (State.Calm.refl s).answerControl _ _ _
    · exact (writeEntry_calm _ _ s).answerControl _ _ _

theorem actLoadClass_calm (f : Frame) (s : State) : s.Calm (actLoadClass f s) := by
  unfold actLoadClass
  split
  · exact (State.Calm.refl s).refuseControl _ _ _
  · split
    · exact (State.Calm.refl s).answerControl _ _ _
    · refine State.Calm.answerControl ?_ _ _ _
      exact .of_same rfl rfl rfl

theorem raiseClamped_calm {s t : State} (h : s.Calm t) (f : Frame) : s.Calm (raiseClamped f t) :=
  h.trans (.of_evolves (State.Evolves.refl.raiseAlone _ _))

theorem actSetClock_calm (f : Frame) (s : State) : s.Calm (actSetClock f s) := by
  unfold actSetClock
  split_ifs
  · exact (State.Calm.refl s).refuseControl _ _ _
  · exact (State.Calm.refl s).refuseControl _ _ _
  · dsimp only
    have hs : s.Calm
        { s with clock := { s.clock with
            value := setValue s.clock (f.param 0 * Config.daySeconds + f.param 1), state := .running
            backupValid := true } }.rollover := .of_same rfl rfl rfl
    split
    · exact hs.answerControl _ _ _
    · exact raiseClamped_calm (hs.answerControl _ _ _) f

theorem actAdjustClock_calm (f : Frame) (s : State) : s.Calm (actAdjustClock f s) := by
  unfold actAdjustClock
  dsimp only
  split
  · exact (State.Calm.refl s).refuseControl _ _ _
  · have hs : s.Calm
        (if decide (dayOf s.clock.value < dayOf (adjustedValue s.clock (signedWord (f.param 0)))) = true then
          { s with clock := { s.clock with value := adjustedValue s.clock (signedWord (f.param 0)) } }.rollover
        else { s with clock := { s.clock with value := adjustedValue s.clock (signedWord (f.param 0)) } }) := by
      split
      · exact .of_same rfl rfl rfl
      · exact .of_same rfl rfl rfl
    split
    · exact raiseClamped_calm (hs.answerControl _ _ _) f
    · exact hs.answerControl _ _ _

theorem recordTag_evolves (r : Request) (k : Nat) (s : State) : s.Evolves (recordTag r k s) := by
  unfold recordTag
  split
  · split
    · exact State.Evolves.refl.putWrite _ _
    · exact .refl
    · exact .refl
  · split
    · exact State.Evolves.refl.setContext _ _
    · exact .refl
    · exact .refl
  · exact State.Evolves.refl.volatile rfl
  · split
    · exact State.Evolves.refl.putScan _
    · exact .refl

theorem grant_calm (s : State) : s.Calm (grant s) := by
  unfold grant
  split
  · split
    · split
      · next k _ _ _ _ r rest _ =>
        exact (State.Calm.of_evolves (recordTag_evolves r k s)).trans (.of_same rfl rfl rfl)
      · exact .refl s
    · exact .refl s
    · exact .refl s
    · exact .refl s
  · exact .refl s

theorem mediaLost_calm (s : State) : s.Calm (mediaLost s) := by
  unfold mediaLost
  split
  · dsimp only
    set l : State :=
      { s with mediaLink := .lost, mediaCheck := FrameCheck.cleared, slots := Vector.replicate 16 .free } with hl
    have hs : s.Calm l := .of_same rfl rfl rfl
    have hw := (State.Evolves.refl (s := l)).eachContext (fun c u hu => hu.resetWrite c) (List.range 32)
    have hr := (hw.eachContext (fun c u hu => hu.resetRead c) (List.range 32))
    generalize eachContext resetRead (List.range 32) (eachContext resetWrite (List.range 32) l) = u at hr ⊢
    have he := (hr.resetErases u.eraseQueue).resetScan
    generalize resetScan (resetErases u.eraseQueue u) = x at he ⊢
    exact hs.trans (.of_evolves (he.volatile rfl))
  · exact .refl s

theorem takeRestart_calm (f : Frame) (s : State) : s.Calm (takeRestart f s) := by
  unfold takeRestart
  split
  · exact .of_evolves (State.Evolves.refl.refuse _ _ _)
  · exact restart_calm s

theorem requestEvent_calm {act : Frame → State → State} (ha : ∀ f (u : State), u.Calm (act f u)) (request : Nat) (s : State) :
    s.Calm (requestEvent request act s) := by
  refine State.Calm.onEvent ?_
  rcases takeFrame_cases (isRequest request) (onFrame act) s with h | ⟨x, rest, -, -, h⟩ <;> rw [h]
  · exact .refl s
  · cases x with
    | whole f => exact (State.Calm.taken s rest).trans (ha f _)
    | cutShort => exact State.Calm.taken s rest

/-- The commands that change the Map otherwise than in an ordinary step, or change the holds. -/
def Instr.special : Instr → Bool
  | .beginFrame | .eraseFrame | .setVolume | .setZone | .placeHold | .releaseHold | .sweeperVisit
  | .walkerVisit => true
  | _ => false

/-- Every command that is not special is calm. -/
theorem exec_calm {c : Instr} {s t : State} (hc : Instr.special c = false) (h : exec c s = .next t) : s.Calm t := by
  by_cases ho : Instr.ordinary c = true
  · exact .of_evolves (exec_evolves ho h)
  cases c
  all_goals injection h with h; subst h
  case powerOn =>
    have hp : s.Calm { s with mainPower := true, backupSupply := true, clock := s.clock.powered } :=
      .of_same rfl rfl rfl
    exact hp.trans (startUp_calm _ _ _)
  case resetLine =>
    have hr : s.Calm { s with resetHeld := false } := .of_same rfl rfl rfl
    split
    · exact hr.trans (restart_calm _)
    · exact hr
  case backupSupplyLoss =>
    split
    · exact .of_same rfl rfl rfl
    · exact .of_same rfl rfl rfl
  case clockTick =>
    split
    · exact ((State.Calm.of_same rfl rfl rfl : s.Calm s.tickTimers).trans (advanceClock_calm _)).onEvent
    · exact countQuietly_calm s
  case ingestFrameArrival bytes => exact (frameArrives_calm bytes s).onEvent
  case mediaLinkReset => exact (mediaLost_calm s).onEvent
  case loadInitiator => exact State.Calm.controlEvent actLoadInitiator_calm 2
  case loadClass => exact State.Calm.controlEvent actLoadClass_calm 3
  case setClock => exact State.Calm.controlEvent actSetClock_calm 11
  case adjustClock => exact State.Calm.controlEvent actAdjustClock_calm 12
  case restart => exact requestEvent_calm takeRestart_calm 22 s
  case mediaGrant => exact (grant_calm s).onEvent
  case mainPowerLoss =>
    split
    · exact losePower_calm s
    · exact .refl s
  case resetLineHeld => exact .of_same rfl rfl rfl
  all_goals simp [Instr.ordinary, Instr.special] at ho hc

end Sys2Proof.Machine
end

section
/-! SUPPORT. The special commands BEGIN, ERASE, the Sweeper's and the Walker's visits: what each does to the Map. -/

namespace Sys2Proof.Machine

/-! ### Checks that pass -/

/-- A list of checks denies nothing when none of them does. -/
theorem firstDenial_eq_none {l : List (Option Denial)} : firstDenial l = none ↔ ∀ d ∈ l, d = none := by
  induction l with
  | nil => simp [firstDenial]
  | cons d rest ih => cases d <;> simp [firstDenial, ih]

@[simp] theorem deny_eq_none (k : Nat) (n : Option Nat) (c : Option Code) : deny k n c = none ↔ c = none := by
  simp [deny]

@[simp] theorem refuseWhen_eq_none (b : Bool) (c : Code) : refuseWhen b c = none ↔ b = false := by
  cases b <;> simp [refuseWhen]

/-- Only an Enabled entry passes check 1 for a request that is no control request (R58). -/
theorem enabled_of_check1 {e : InitiatorEntry} {k : RequestKind} (hk : ∀ r, k ≠ .control r)
    (h : check1 e k = none) : e.state = .enabled := by
  unfold check1 at h
  split at h
  · cases h
  · next hs => simp [hk 1] at h
  · next hs => exact hs

/-- What an admitted BEGIN has passed (R57, R60, R64, R67, R68). -/
theorem judgeBegin_none {s : State} {f : Frame} (h : judgeBegin s f = none) :
    let e := s.initiator f.initiator
    let n := e.relocate f.volume f.segment
    e.state = .enabled ∧ n < (s.volume f.volume).count ∧ checkBeginState s e f.volume n f.cls = none ∧
      check8 s e f n = none := by
  simp only [judgeBegin, firstDenial_eq_none, List.forall_mem_cons, deny_eq_none] at h
  obtain ⟨h1, -, h4, -, -, -, h7, h8, -⟩ := h
  exact ⟨enabled_of_check1 (by simp) h1, by simpa [checkSegmentRange] using h4, h7, h8⟩

/-- The next segment that an admitted BEGIN reserves is Blank (R68). -/
theorem next_blank_of_check8 {s : State} {e : InitiatorEntry} {f : Frame} {n : Nat} (h : check8 s e f n = none)
    (hs : spans s f n = true) :
    n + 1 < (s.volume f.volume).count ∧ (s.segment f.volume (n + 1)).state = .blank := by
  unfold check8 at h
  rw [if_neg (by simp [hs])] at h
  split_ifs at h
  simp only [refuseWhen_eq_none, Bool.not_eq_false', nextAllowed, Bool.and_eq_true, decide_eq_true_eq] at h
  obtain ⟨⟨⟨⟨⟨⟨⟨-, hc⟩, -⟩, hb⟩, -⟩, -⟩, -⟩, -⟩ := h
  exact ⟨hc, hb⟩

/-! ### BEGIN -/

/-- The descriptor of the named segment after a BEGIN (R9). -/
def namedAfter (s : State) (f : Frame) (n c : Nat) : Segment :=
  if (s.segment f.volume n).state = .blank then
    openedSegment s f.volume n f.cls (some (s.initiator f.initiator).key) none c
  else { s.segment f.volume n with writer := some c }

theorem openNamed_eq (s : State) (f : Frame) (n c : Nat) :
    openNamed f n c s = s.putSegment f.volume n (namedAfter s f n c) := by
  unfold openNamed namedAfter
  dsimp only
  split <;> rfl

/-- The descriptor of the segment that a spanning BEGIN reserves (R10). -/
def reservedAfter (s : State) (f : Frame) (n c : Nat) : Segment :=
  openedSegment s f.volume (n + 1) f.cls (namedAfter s f n c).key (some n) c

/-- The Map after an admitted BEGIN. -/
def State.begun (s : State) (f : Frame) (n c : Nat) : State :=
  if spans s f n then
    (s.putSegment f.volume n (namedAfter s f n c)).putSegment f.volume (n + 1) (reservedAfter s f n c)
  else s.putSegment f.volume n (namedAfter s f n c)

/-- Writing another segment leaves what a segment that opens is given. -/
theorem openedSegment_put (s : State) (v n m cls : Nat) (g : Segment) (key : Option Nat) (cont : Option Nat) (c : Nat)
    (hw : s.canonical) (hm : m ≠ n) :
    openedSegment (s.putSegment v n g) v m cls key cont c = openedSegment s v m cls key cont c := by
  unfold openedSegment
  rw [s.putSegment_segment_other v n m g (hw v) hm]
  rfl

theorem admittedBegin_eq {s : State} {f : Frame} {c : Nat} (hw : s.canonical)
    (hn : (s.initiator f.initiator).relocate f.volume f.segment < (s.volume f.volume).count) :
    let n := (s.initiator f.initiator).relocate f.volume f.segment
    admittedBegin f c s =
      (((s.begun f n c).putWrite c (freshWrite s f n (startOffset s f n) (spans s f n))).send
        (startFrame f n (startOffset s f n) (spans s f n))) := by
  intro n
  unfold admittedBegin State.begun
  dsimp only
  rw [openNamed_eq]
  split
  · unfold reserveNext reservedAfter
    rw [s.putSegment_segment_same _ _ _ hn (hw _), openedSegment_put _ _ _ _ _ _ _ _ _ hw (by omega)]
  · rfl

/-- Every descriptor after an admitted BEGIN (R9, R10). -/
theorem begun_segment {s : State} {f : Frame} {n c : Nat} (hw : s.canonical) (hn : n < (s.volume f.volume).count)
    (h8 : check8 s (s.initiator f.initiator) f n = none) (v m : Nat) :
    (s.begun f n c).segment v m =
      if v = f.volume ∧ m = n then namedAfter s f n c
      else if v = f.volume ∧ m = n + 1 ∧ spans s f n = true then reservedAfter s f n c
      else s.segment v m := by
  unfold State.begun
  split
  · next hs =>
    obtain ⟨hc, -⟩ := next_blank_of_check8 h8 hs
    rw [State.putSegment_segment (State.putSegment_canonical hw _ _ _)
      (by rw [(s.putSegment_count _ _ _ _).1]; exact hc), State.putSegment_segment hw hn]
    by_cases hm : v = f.volume ∧ m = n
    · rw [if_neg (by omega), if_pos hm, if_pos hm]
    · simp only [if_neg hm, hs, and_true]
  · next hs =>
    rw [State.putSegment_segment hw hn]
    simp only [hs, and_false, if_false, Bool.false_eq_true]

/-- An admitted BEGIN changes descriptors that are neither Closed nor becoming Erasing. -/
theorem begun_guarded {s : State} {f : Frame} {n c : Nat} (hw : s.canonical) (hn : n < (s.volume f.volume).count)
    (h8 : check8 s (s.initiator f.initiator) f n = none) (v m : Nat) :
    (s.segment v m).Guarded ((s.begun f n c).segment v m) := by
  rw [begun_segment hw hn h8]
  have hopens : ∀ {g : Segment} {k cls : Nat} {key cont : Option Nat}, g.state = .blank →
      g.Guarded (openedSegment s f.volume k cls key cont c) := fun hg =>
    ⟨fun h => absurd (hg.symm.trans h) (by decide), fun h => absurd h (by simp [openedSegment])⟩
  split
  · next h =>
    obtain ⟨rfl, rfl⟩ := h
    unfold namedAfter
    split
    · next hb => exact hopens hb
    · exact ⟨id, id⟩
  · split
    · next h =>
      obtain ⟨rfl, rfl, hs⟩ := h
      exact hopens (next_blank_of_check8 h8 hs).2
    · exact .refl _

/-- What a BEGIN frame does: it is refused, it does nothing, or it begins a transfer that Admission lets through. -/
theorem takeBegin_cases (f : Frame) (s : State) :
    s.Evolves (takeBegin f s) ∨
      ∃ c, judgeBegin s f = none ∧ s.freeContext = some c ∧ takeBegin f s = admittedBegin f c s := by
  unfold takeBegin
  split
  · exact .inl (State.Evolves.refl.refuse _ _ _)
  · next c hj hc => exact .inr ⟨c, hj, hc, rfl⟩
  · exact .inl .refl

/-- BEGIN changes no volume of its own and keeps the counts (R23). -/
theorem admittedBegin_rewrites (f : Frame) (c : Nat) (s : State) :
    s.Rewrites (fun _ _ => True) (admittedBegin f c s) := by
  have hput : ∀ (u : State) (v n : Nat) (g : Segment), u.Rewrites (fun _ _ => True) (u.putSegment v n g) :=
    fun u v n g => .put (fun _ => trivial) u v n trivial
  have hsame : ∀ u : State, ∀ w : WriteContext, ∀ x : Frame, u.Rewrites (fun _ _ => True) ((u.putWrite c w).send x) :=
    fun u w x => .of_volumes (fun _ => trivial) (by simp)
  have ht : ∀ a b d : Segment, True → True → True := fun _ _ _ _ _ => trivial
  unfold admittedBegin reserveNext
  dsimp only
  rw [openNamed_eq]
  split
  · exact ((hput _ _ _ _).trans ht (hput _ _ _ _)).trans ht (hsame _ _ _)
  · exact (hput _ _ _ _).trans ht (hsame _ _ _)

/-! ### ERASE -/

/-- What an admitted ERASE has passed (R57, R60, R69). -/
theorem judgeErase_none {s : State} {f : Frame} (h : judgeErase s f = none) :
    let n := (s.initiator f.initiator).relocate f.volume f.segment
    (s.initiator f.initiator).state = .enabled ∧ n < (s.volume f.volume).count ∧
      checkEraseState s f.volume n = none := by
  simp only [judgeErase, firstDenial_eq_none, List.forall_mem_cons, deny_eq_none] at h
  obtain ⟨h1, -, h4, -, -, h7, -⟩ := h
  exact ⟨enabled_of_check1 (by simp) h1, by simpa [checkSegmentRange] using h4, h7⟩

/-- A segment that may be erased is Expired and due, with the Clock Running and no hold covering it (R69). -/
theorem checkEraseState_none {s : State} {v n : Nat} (h : checkEraseState s v n = none) :
    (s.segment v n).state = .expired ∧ s.clock.state = .running ∧ (s.segment v n).expiry.getD 0 ≤ s.today ∧
      s.covered v n = false := by
  unfold checkEraseState at h
  dsimp only at h
  split at h
  · cases h
  · cases h
  · cases h
  · cases h
  · next hs =>
    split_ifs at h with hr hd hcov
    exact ⟨hs, by simpa [State.running] using hr, Nat.not_lt.mp hd, by simpa using hcov⟩

/-- The state in which an erase has begun, before the reads and the scan of its segment stop. -/
def State.erasing (s : State) (v n : Nat) (requester : Option (Nat × Nat)) : State :=
  { s.putSegment v n { s.segment v n with state := .erasing } with
    eraseQueue := s.eraseQueue ++ [waitingErase v n requester] }.ask .erase [(waitingErase v n requester).request]

theorem startErase_eq (v n : Nat) (requester : Option (Nat × Nat)) (s : State) :
    startErase v n requester s = scanErased v n (stopReads v n (List.range 32) (s.erasing v n requester)) := rfl

/-- After the segment's descriptor an erase that begins makes ordinary changes alone. -/
theorem startErase_evolves (v n : Nat) (requester : Option (Nat × Nat)) (s : State) :
    (s.putSegment v n { s.segment v n with state := .erasing }).Evolves (startErase v n requester s) := by
  have he : (s.putSegment v n { s.segment v n with state := .erasing }).Evolves (s.erasing v n requester) :=
    State.Evolves.refl.volatile rfl
  rw [startErase_eq]
  exact (he.stopReads v n _).scanErased v n

/-- What an ERASE frame does: it is refused, or starts the erase that Admission lets through. -/
theorem takeErase_cases (f : Frame) (s : State) :
    s.Evolves (takeErase f s) ∨
      (judgeErase s f = none ∧
        takeErase f s = startErase f.volume ((s.initiator f.initiator).relocate f.volume f.segment)
          (some (f.initiator, f.tag)) s) := by
  unfold takeErase
  split
  · exact .inl (State.Evolves.refl.refuse _ _ _)
  · next hj => exact .inr ⟨hj, rfl⟩

/-! ### The visits of the Sweeper and the Walker -/

/-- A change of a descriptor that moves no hold and starts no erase. -/
def Segment.Unerased (g h : Segment) : Prop := g.HoldKept h ∧ (h.state = .erasing → g.state = .erasing)

theorem sweepVisit_rewrites (s : State) :
    s.Rewrites Segment.Unerased (sweepVisit s) ∧ (sweepVisit s).holds = s.holds ∧
      (sweepVisit s).walkQueue = s.walkQueue := by
  have hrefl : ∀ g : Segment, g.Unerased g := fun g => ⟨.refl g, id⟩
  have hsame : ∀ x, s.Rewrites Segment.Unerased (s.setSweep x) := fun x => .of_volumes hrefl rfl
  unfold sweepVisit
  split
  · exact ⟨.of_volumes hrefl rfl, rfl, rfl⟩
  · split
    · exact ⟨hsame _, rfl, rfl⟩
    · exact ⟨.of_volumes hrefl rfl, rfl, rfl⟩
  · next v n _ =>
    dsimp only
    split_ifs
    · exact ⟨.of_volumes hrefl rfl, rfl, rfl⟩
    · unfold expireDue
      split
      · next hd =>
        simp only [State.due, Bool.and_eq_true, decide_eq_true_eq] at hd
        obtain ⟨⟨hc, -⟩, -⟩ := hd
        refine ⟨State.Rewrites.trans (t := s.putSegment v n { s.segment v n with state := .expired }) ?_
          (.put hrefl s v n ?_) (.of_volumes hrefl rfl), rfl, rfl⟩
        · exact fun _ _ _ h k => ⟨h.1.trans k.1, h.2 ∘ k.2⟩
        · exact ⟨.of_retained (by simp [hc]) (by simp) rfl rfl, fun h => absurd h (by simp)⟩
      · exact ⟨hsame _, rfl, rfl⟩
    · exact ⟨hsame _, rfl, rfl⟩

theorem Segment.raised_guarded (g : Segment) : g.Guarded g.raised := by
  unfold Segment.raised
  constructor
  · intro h
    simp [h]
  · dsimp only
    split
    · exact fun h => absurd h (by decide)
    · exact id

theorem Segment.lowered_guarded (g : Segment) : g.Guarded g.lowered := ⟨id, id⟩

theorem visitSegment_rewrites {R : Segment → Segment → Prop} (hr : ∀ g, R g g) (h : Hold) (n : Nat)
    {f : Segment → Segment} (hf : ∀ g, R g (f g)) (s : State) : s.Rewrites R (visitSegment h n f s) := by
  unfold visitSegment
  split
  · exact .of_volumes hr rfl
  · exact .put hr s _ _ (hf _)

/-- A visit of the Walker keeps Closed segments Closed and starts no erase. -/
theorem walkVisit_rewrites (s : State) : s.Rewrites Segment.Guarded (walkVisit s) := by
  have hrefl : s.Rewrites Segment.Guarded s := .of_volumes .refl rfl
  unfold walkVisit
  split
  · split
    · next h _ =>
      unfold visitHold
      split
      · next front _ =>
        have hv := visitSegment_rewrites .refl h front Segment.raised_guarded s
        dsimp only
        split
        · exact hv
        · exact hv
      · next front raisedTo _ =>
        have hv := visitSegment_rewrites .refl h front Segment.lowered_guarded s
        dsimp only
        split
        · exact hv
        · exact hv
      · exact hrefl
    · exact hrefl
  · exact hrefl

end Sys2Proof.Machine
end

section
/-! SUPPORT. The special commands SET VOLUME, SET ZONE, PLACE HOLD and RELEASE HOLD: what each does to the Map. -/

namespace Sys2Proof.Machine

/-! ### Events that are calm or taken -/

theorem State.segment_congr {s t : State} (h : t.volumes = s.volumes) (v n : Nat) : t.segment v n = s.segment v n := by
  unfold State.segment State.volume
  rw [h]

theorem State.volume_congr {s t : State} (h : t.volumes = s.volumes) (v : Nat) : t.volume v = s.volume v := by
  unfold State.volume
  rw [h]

section EndStepFields

variable (s : State)

@[simp] theorem State.endStep_volumes : s.endStep.volumes = s.volumes := by
  obtain ⟨q, n, h, -⟩ := s.endStep_eq
  rw [h]

@[simp] theorem State.endStep_holds : s.endStep.holds = s.holds := by
  obtain ⟨q, n, h, -⟩ := s.endStep_eq
  rw [h]

@[simp] theorem State.endStep_walkQueue : s.endStep.walkQueue = s.walkQueue := by
  obtain ⟨q, n, h, -⟩ := s.endStep_eq
  rw [h]

end EndStepFields

/-- A frame's event is calm, or is what the frame does on the state without it. -/
theorem frameEvent_calm_or (kind : Nat) (act : Frame → State → State) (s : State) :
    s.Calm (frameEvent kind act s) ∨
      ∃ f rest, s.rxQueue = .whole f :: rest ∧ frameEvent kind act s = (act f (s.taken rest)).endStep := by
  rcases frameEvent_cases kind act s with h | h | h
  · rw [h]; exact .inl (.refl s)
  · rw [h]; exact .inl (State.Calm.refl s).endStep
  · exact .inr h

/-- A control request's event is calm, or is what the request does on the state without its frame. -/
theorem controlEvent_calm_or (request : Nat) (act : Frame → State → State) (s : State) :
    s.Calm (controlEvent request act s) ∨
      ∃ f rest, s.rxQueue = .whole f :: rest ∧ controlEvent request act s = (act f (s.taken rest)).endStep := by
  rcases controlEvent_cases request act s with h | h | ⟨f, rest, hq, ⟨d, h⟩ | h⟩
  · rw [h]; exact .inl (.refl s)
  · rw [h]; exact .inl (State.Calm.refl s).endStep
  · rw [h]
    exact .inl ((State.Calm.taken s rest).trans (.of_evolves (State.Evolves.refl.refuse _ _ _))).endStep
  · exact .inr ⟨f, rest, hq, h⟩

/-! ### SET VOLUME -/

/-- A run of numbers beyond another, on which a test is constant. -/
theorem countP_range_const {p : Nat → Bool} {c d : Nat} (h : c ≤ d) (b : Bool)
    (hb : ∀ m, c ≤ m → m < d → p m = b) :
    (List.range d).countP p = (List.range c).countP p + if b then d - c else 0 := by
  induction d with
  | zero => simp [Nat.le_zero.mp h]
  | succ k ih =>
    rcases Nat.lt_or_ge k c with hk | hk
    · obtain rfl : c = k + 1 := by omega
      simp
    · rw [List.range_succ, List.countP_append, ih hk (fun m h1 h2 => hb m h1 (by omega))]
      simp only [List.countP_cons, List.countP_nil, hb k hk (Nat.lt_succ_self k)]
      cases b
      · simp
      · simp
        omega

/-- y is x cut or lengthened to y's count: what lies below both counts stands, what goes was Blank, and the Blank count
moves by the difference (R25). -/
structure Volume.Resized (x y : Volume) : Prop where
  segments : y.segments = Sparse.below y.count x.segments
  blank : y.count < x.count → x.blankFrom y.count = true

namespace Volume.Resized

variable {x y : Volume}

/-- A segment of a volume cut or lengthened is what it was, or fresh. -/
theorem get (h : x.Resized y) (hw : Sparse.wf Segment.fresh x.segments = true) (n : Nat) :
    Sparse.get Segment.fresh y.segments n =
      if n < y.count then Sparse.get Segment.fresh x.segments n else Segment.fresh := by
  rw [h.segments]
  exact Sparse.get_cut _ hw _ _

/-- Every segment between the two counts is Blank. -/
theorem blank_between (h : x.Resized y) (hx : x.Sound) {m : Nat} (hm : x.count ≤ m ∨ y.count ≤ m) :
    (Sparse.get Segment.fresh x.segments m).state = .blank := by
  by_cases hxm : x.count ≤ m
  · rw [hx.get_beyond hxm]; rfl
  · exact (Volume.blankFrom_iff hx.wf _).mp (h.blank (by omega)) m (by omega)

theorem sound (h : x.Resized y) (hx : x.Sound)
    (hc : y.counts = { x.counts with blank := x.counts.blank + y.count - x.count }) : y.Sound where
  wf := by rw [h.segments]; exact Sparse.below_wf _ _ _ hx.wf
  below e he := by
    rw [h.segments] at he
    simpa using (List.mem_filter.mp he).2
  tallied st := by
    have hy : y.tally st = (List.range y.count).countP
        (fun n => decide ((Sparse.get Segment.fresh x.segments n).state = st)) := by
      rw [Volume.tally_eq]
      refine List.countP_congr fun n hn => ?_
      rw [h.get hx.wf n, if_pos (List.mem_range.mp hn)]
    have hxt := hx.tallied st
    have hblank := hx.tallied .blank
    rw [Volume.tally_eq] at hxt
    have hbetween : ∀ m, x.count ≤ m ∨ y.count ≤ m →
        decide ((Sparse.get Segment.fresh x.segments m).state = st) = decide (SegmentState.blank = st) := fun m hm => by
      rw [h.blank_between hx hm]
    have hmove : y.counts.get st = if st = .blank then x.counts.get st + y.count - x.count else x.counts.get st := by
      rw [hc]
      cases st <;> simp [StateCounts.get]
    rw [hmove, hy, hxt]
    rcases Nat.le_total x.count y.count with hle | hle
    · rw [countP_range_const hle (decide (SegmentState.blank = st)) (fun m h1 _ => hbetween m (.inl h1))]
      by_cases hst : st = .blank
      · subst hst
        simp
        omega
      · simp [hst, Ne.symm hst]
    · rw [countP_range_const hle (decide (SegmentState.blank = st)) (fun m h1 _ => hbetween m (.inr h1))]
      by_cases hst : st = .blank
      · subst hst
        simp
        omega
      · simp [hst, Ne.symm hst]

end Volume.Resized

theorem Volume.absent_sound : Volume.absent.Sound where
  wf := rfl
  below e he := by simp [Volume.absent] at he
  tallied st := by cases st <;> rfl

/-- The volume a SET VOLUME writes keeps the Map sound. -/
theorem Volume.resize_sound {x : Volume} (hx : x.Sound) (st : VolumeState) (count : Nat) (i k : Bool)
    (hb : count < x.count → x.blankFrom count = true) : (x.resize st count i k).Sound :=
  Volume.Resized.sound (x := x) ⟨rfl, hb⟩ hx rfl

/-- A volume written by SET VOLUME: the Map elsewhere, the holds and the walk queue stand. -/
theorem writeVolume_fields (f : Frame) (v : Nat) (x : Volume) (s : State) :
    (writeVolume f v x s).volumes = Table.set1 s.volumes v x ∧ (writeVolume f v x s).holds = s.holds ∧
      (writeVolume f v x s).walkQueue = s.walkQueue := by
  unfold writeVolume endCollection
  split
  · split
    · simp [stopCollection, answerControl]
    · simp [answerControl]
  · simp [answerControl]

/-- A volume number that the check of R25 and R26 passes is one of the four. -/
theorem volume_named {v : Nat} (h : ¬ (decide (v < 1) || decide (4 < v)) = true) : 1 ≤ v ∧ v ≤ 4 := by
  simp only [Bool.or_eq_true, decide_eq_true_eq] at h
  omega

/-- A SET VOLUME is refused or finds the volume Absent already, or writes the volume resized or Absent (R25). -/
theorem actSetVolume_cases (f : Frame) (s : State) :
    s.Evolves (actSetVolume f s) ∨
      ∃ y, (1 ≤ f.param 0 ∧ f.param 0 ≤ 4) ∧ (s.volume (f.param 0)).Resized y ∧
        ((s.volume (f.param 0)).Sound → y.Sound) ∧ actSetVolume f s = writeVolume f (f.param 0) y s := by
  unfold actSetVolume
  split
  · exact .inl (State.Evolves.refl.refuseControl _ _ _)
  · next hj =>
    unfold judgeSetVolume at hj
    dsimp only at hj
    split_ifs at hj with h1 h2 h3 h4
    · have hr : 1 ≤ f.param 0 ∧ f.param 0 ≤ 4 := volume_named h2
      rw [if_pos h3]
      split
      · exact .inl (State.Evolves.refl.answerControl _ _ _)
      · next ha =>
        have hb : (s.volume (f.param 0)).blankFrom 0 = true := by
          simp only [refuseWhen_eq_none, Bool.and_eq_false_iff, Bool.or_eq_false_iff, Bool.not_eq_false'] at hj
          rcases hj with hj | hj
          · exact absurd (by simpa using hj) ha
          · exact hj.1
        refine .inr ⟨_, hr, ⟨?_, fun _ => hb⟩, fun _ => Volume.absent_sound, rfl⟩
        simp [Volume.absent, Sparse.below]
    · have hr : 1 ≤ f.param 0 ∧ f.param 0 ≤ 4 := volume_named h2
      rw [if_neg h3]
      have hb : f.param 2 < (s.volume (f.param 0)).count → (s.volume (f.param 0)).blankFrom (f.param 2) = true := by
        intro hlt
        simp only [refuseWhen_eq_none, Bool.and_eq_false_iff, Bool.or_eq_false_iff, Bool.not_eq_false',
          decide_eq_false_iff_not] at hj
        rcases hj with hj | hj
        · exact absurd hlt hj
        · exact hj.1
      exact .inr ⟨_, hr, ⟨rfl, hb⟩, fun hs => Volume.resize_sound hs _ _ _ _ hb, rfl⟩

theorem State.volume_of_set1 {s t : State} {v : Nat} {x : Volume} (hv : 1 ≤ v ∧ v ≤ 4)
    (h : t.volumes = Table.set1 s.volumes v x) (u : Nat) : t.volume u = if u = v then x else s.volume u := by
  have ht : t.volume u = (s.setVolume v x).volume u := State.volume_congr h u
  rw [ht]
  split
  · next hu => rw [hu]; exact s.setVolume_volume_same v x hv
  · next hu => exact s.setVolume_volume_other v u x hu

theorem State.segment_of_set1 {s t : State} {v : Nat} {x : Volume} (hv : 1 ≤ v ∧ v ≤ 4)
    (h : t.volumes = Table.set1 s.volumes v x) (u n : Nat) :
    t.segment u n = if u = v then Sparse.get Segment.fresh x.segments n else s.segment u n := by
  show Sparse.get Segment.fresh (t.volume u).segments n = _
  rw [State.volume_of_set1 hv h]
  split
  · rfl
  · rfl

/-! ### SET ZONE -/

/-- SET ZONE is refused, or writes a zone and leaves the segments (R26). -/
theorem actSetZone_cases (f : Frame) (s : State) :
    s.Evolves (actSetZone f s) ∨
      ∃ zones, (1 ≤ f.param 0 ∧ f.param 0 ≤ 4) ∧
        (actSetZone f s).volumes =
          Table.set1 s.volumes (f.param 0) { s.volume (f.param 0) with zones := zones } ∧
        (actSetZone f s).holds = s.holds ∧ (actSetZone f s).walkQueue = s.walkQueue := by
  unfold actSetZone
  split
  · exact .inl (State.Evolves.refl.refuseControl _ _ _)
  · next hj =>
    unfold judgeSetZone at hj
    split_ifs at hj with h1 h2 h3
    exact .inr ⟨(s.volume (f.param 0)).zones.set (f.param 1)
      { writeInhibit := wordFlag (f.param 2), spanning := wordFlag (f.param 3) }, volume_named h2,
      by simp [answerControl], by simp [answerControl], by simp [answerControl]⟩

/-! ### Holds -/

theorem actPlaceHold_volumes (f : Frame) (s : State) : (actPlaceHold f s).volumes = s.volumes := by
  unfold actPlaceHold
  split
  · simp [refuseControl]
  · simp [answerControl]
  · rfl

theorem actReleaseHold_volumes (f : Frame) (s : State) : (actReleaseHold f s).volumes = s.volumes := by
  unfold actReleaseHold
  split
  · simp [refuseControl]
  · split
    · simp [refuseControl]
    · unfold releaseHold
      split
      · simp [answerControl]
      · split
        · simp [answerControl]
        · simp [answerControl]
      · simp [answerControl]

/-! ### Descriptors over every command -/

/-- Every command but ERASE, SET VOLUME and a Sweeper visit keeps Closed segments Closed and starts no erase. -/
theorem exec_guarded {c : Instr} {s t : State} (hw : s.canonical) (he : c ≠ .eraseFrame) (hv : c ≠ .setVolume)
    (hs : c ≠ .sweeperVisit) (h : exec c s = .next t) (v n : Nat) : (s.segment v n).Guarded (t.segment v n) := by
  have hcalm : ∀ u, s.Calm u → (s.segment v n).Guarded (u.segment v n) := fun u hu =>
    (hu.rewrites.segment hw v n).guarded
  have hsame : ∀ u : State, u.volumes = s.volumes → (s.segment v n).Guarded (u.segment v n) := fun u hu => by
    rw [State.segment_congr hu]; exact .refl _
  by_cases hc : Instr.special c = false
  · exact hcalm t (exec_calm hc h)
  cases c
  all_goals injection h with h; subst h
  case beginFrame =>
    rcases frameEvent_calm_or 1 takeBegin s with hq | ⟨f, rest, -, hq⟩
    · exact hcalm _ hq
    · rw [hq, State.segment_congr (State.endStep_volumes _)]
      rcases takeBegin_cases f (s.taken rest) with hb | ⟨c, hj, -, hb⟩
      · exact hcalm _ ((State.Calm.taken s rest).trans (.of_evolves hb))
      · obtain ⟨-, hn, -, h8⟩ := judgeBegin_none hj
        rw [hb, admittedBegin_eq (s := s.taken rest) hw hn, State.segment_congr (State.send_volumes _ _)]
        exact begun_guarded (s := s.taken rest) hw hn h8 v n
  case setZone =>
    rcases controlEvent_calm_or 5 actSetZone s with hq | ⟨f, rest, -, hq⟩
    · exact hcalm _ hq
    · rw [hq, State.segment_congr (State.endStep_volumes _)]
      rcases actSetZone_cases f (s.taken rest) with hz | ⟨zones, hr, hz, -⟩
      · exact hcalm _ ((State.Calm.taken s rest).trans (.of_evolves hz))
      · rw [State.segment_of_set1 hr hz]
        split
        · next hv => subst hv; exact .refl _
        · exact .refl _
  case placeHold =>
    rcases controlEvent_calm_or 6 actPlaceHold s with hq | ⟨f, rest, -, hq⟩
    · exact hcalm _ hq
    · rw [hq]
      exact hsame _ (by rw [State.endStep_volumes, actPlaceHold_volumes]; rfl)
  case releaseHold =>
    rcases controlEvent_calm_or 7 actReleaseHold s with hq | ⟨f, rest, -, hq⟩
    · exact hcalm _ hq
    · rw [hq]
      exact hsame _ (by rw [State.endStep_volumes, actReleaseHold_volumes]; rfl)
  case walkerVisit =>
    rcases onEvent_cases s walkVisit with hq | hq
    · exact hcalm _ (by rw [hq]; exact .refl s)
    · rw [hq, State.segment_congr (State.endStep_volumes _)]
      exact (walkVisit_rewrites s).segment hw v n
  all_goals simp [Instr.special] at hc he hv hs

/-- What a SET VOLUME does to a descriptor: it stands, or was beyond the new count and Blank, and is fresh (R25). -/
theorem setVolume_segment {s t : State} (hw : s.canonical) (h : exec .setVolume s = .next t) (v n : Nat) :
    (s.segment v n).Guarded (t.segment v n) ∨
      (t.segment v n = Segment.fresh ∧ (n < (s.volume v).count → (s.segment v n).state = .blank)) := by
  injection h with h
  subst h
  rcases controlEvent_calm_or 4 actSetVolume s with hq | ⟨f, rest, -, hq⟩
  · exact .inl (hq.rewrites.segment hw v n).guarded
  · rw [hq, State.segment_congr (State.endStep_volumes _)]
    rcases actSetVolume_cases f (s.taken rest) with hv | ⟨y, hr, hy, -, hv⟩
    · exact .inl (((State.Calm.taken s rest).trans (.of_evolves hv)).rewrites.segment hw v n).guarded
    · rw [hv, State.segment_of_set1 hr (writeVolume_fields _ _ _ _).1]
      split
      · next hu =>
        subst hu
        rw [hy.get (hw _) n]
        split
        · exact .inl (.refl _)
        · next hn =>
          refine .inr ⟨rfl, fun hlt => ?_⟩
          have hlt' : n < ((s.taken rest).volume (f.param 0)).count := hlt
          exact (Volume.blankFrom_iff (hw _) _).mp (hy.blank (by omega)) n (by omega)
      · exact .inl (.refl _)

/-- What an ERASE frame does to a descriptor: an ordinary change, or the start of the erase that Admission lets through
(R20, R69). -/
theorem eraseFrame_segment {s t : State} (hw : s.canonical) (h : exec .eraseFrame s = .next t) (v n : Nat) :
    (s.segment v n).Steady (t.segment v n) ∨
      (checkEraseState s v n = none ∧ ({ s.segment v n with state := .erasing } : Segment).Steady (t.segment v n)) := by
  injection h with h
  subst h
  rcases frameEvent_calm_or 5 takeErase s with hq | ⟨f, rest, -, hq⟩
  · exact .inl (hq.rewrites.segment hw v n)
  · rw [hq, State.segment_congr (State.endStep_volumes _)]
    rcases takeErase_cases f (s.taken rest) with he | ⟨hj, he⟩
    · exact .inl (((State.Calm.taken s rest).trans (.of_evolves he)).rewrites.segment hw v n)
    · rw [he]
      obtain ⟨-, hn, hchk⟩ := judgeErase_none hj
      have hr := (startErase_evolves f.volume
        (((s.taken rest).initiator f.initiator).relocate f.volume f.segment) (some (f.initiator, f.tag)) (s.taken rest)).rewrites.segment
        (State.putSegment_canonical hw _ _ _) v n
      rw [State.putSegment_segment (s := s.taken rest) hw hn] at hr
      split at hr
      · next hvn =>
        obtain ⟨rfl, rfl⟩ := hvn
        exact .inr ⟨hchk, hr⟩
      · exact .inl hr

end Sys2Proof.Machine
end
section
/-! PROOFS. The safety statements on the descriptors of the Map. -/

namespace Sys2Proof.Machine

/-- Settles O58: ERASE starts from Expired, SET VOLUME takes away Blank segments alone, and every other command but a
Sweeper visit keeps Closed segments Closed. -/
theorem closedStaysClosed : Obligations.ClosedStaysClosed := by
  intro c s t v n hw hex hcl _ hc h
  have hn : n < (s.volume v).count := by
    simp only [State.segmentExists, Bool.and_eq_true, decide_eq_true_eq] at hex
    exact hex.2
  by_cases he : c = .eraseFrame
  · subst he
    rcases eraseFrame_segment hw h v n with hs | ⟨hs, -⟩
    · exact hs.guarded.closed hcl
    · exact absurd ((checkEraseState_none hs).1.symm.trans hcl) (by decide)
  · by_cases hv : c = .setVolume
    · subst hv
      rcases setVolume_segment hw h v n with hs | ⟨-, hs⟩
      · exact hs.closed hcl
      · exact absurd ((hs hn).symm.trans hcl) (by decide)
    · exact (exec_guarded hw he hv hc h v n).closed hcl

/-- Settles O59: only the start of an erase makes a segment Erasing, and Admission lets it through for a due, uncovered
Expired segment alone. -/
theorem erasingOnlyWhenDue : Obligations.ErasingOnlyWhenDue := by
  intro c s t v n hw h hbefore hafter
  by_cases he : c = .eraseFrame
  · subst he
    rcases eraseFrame_segment hw h v n with hs | ⟨hs, -⟩
    · exact absurd (hs.guarded.erasing hafter) hbefore
    · obtain ⟨h1, h2, h3, h4⟩ := checkEraseState_none hs
      refine ⟨rfl, h1, h2, ?_, h4⟩
      simpa [State.today, State.now, Clock.now, h2, dayOf, Config.daySeconds] using h3
  · exfalso
    by_cases hv : c = .setVolume
    · subst hv
      rcases setVolume_segment hw h v n with hs | ⟨hs, -⟩
      · exact hbefore (hs.erasing hafter)
      · rw [hs] at hafter
        exact absurd hafter (by decide)
    · by_cases hsw : c = .sweeperVisit
      · subst hsw
        injection h with h
        subst h
        rcases onEvent_cases s sweepVisit with hq | hq
        · rw [hq] at hafter
          exact hbefore hafter
        · rw [hq, State.segment_congr (State.endStep_volumes _)] at hafter
          exact hbefore (((sweepVisit_rewrites s).1.segment hw v n).2 hafter)
      · exact hbefore ((exec_guarded hw he hv hsw h v n).erasing hafter)

end Sys2Proof.Machine
end

section
/-! PROOFS. What is a volume's own, and the state counts, over every command (R2, R3, R4, R23). -/

namespace Sys2Proof.Machine

/-- A change of a descriptor, whatever it is. -/
def Segment.Any (_ _ : Segment) : Prop := True

theorem State.Rewrites.any {R : Segment → Segment → Prop} {s t : State} (h : s.Rewrites R t) :
    s.Rewrites Segment.Any t := h.mono fun _ _ _ => trivial

theorem State.Rewrites.any_trans {s t u : State} (h : s.Rewrites Segment.Any t) (k : t.Rewrites Segment.Any u) :
    s.Rewrites Segment.Any u := h.trans (fun _ _ _ _ _ => trivial) k

theorem State.Rewrites.any_of_volumes {s t : State} (h : t.volumes = s.volumes) : s.Rewrites Segment.Any t :=
  .of_volumes (fun _ => trivial) h

theorem startErase_rewrites (v n : Nat) (requester : Option (Nat × Nat)) (s : State) :
    s.Rewrites Segment.Any (startErase v n requester s) :=
  (State.Rewrites.put (fun _ => trivial) s v n trivial).any_trans (startErase_evolves v n requester s).rewrites.any

/-- Every command but SET VOLUME and SET ZONE leaves what is a volume's own, and keeps the state counts with the
descriptors it writes. -/
theorem exec_rewrites {c : Instr} {s t : State} (hv : c ≠ .setVolume) (hz : c ≠ .setZone) (h : exec c s = .next t) :
    s.Rewrites Segment.Any t := by
  by_cases hc : Instr.special c = false
  · exact (exec_calm hc h).rewrites.any
  have hend : ∀ u : State, s.Rewrites Segment.Any u → s.Rewrites Segment.Any u.endStep := fun u hu =>
    hu.any_trans (.any_of_volumes u.endStep_volumes)
  have htaken : ∀ rest, s.Rewrites Segment.Any (s.taken rest) := fun rest => .any_of_volumes rfl
  cases c
  all_goals injection h with h; subst h
  case beginFrame =>
    rcases frameEvent_calm_or 1 takeBegin s with hq | ⟨f, rest, -, hq⟩
    · exact hq.rewrites.any
    · rw [hq]
      rcases takeBegin_cases f (s.taken rest) with hb | ⟨c, -, -, hb⟩
      · exact hend _ ((htaken rest).any_trans hb.rewrites.any)
      · rw [hb]
        exact hend _ ((htaken rest).any_trans (admittedBegin_rewrites f c _))
  case eraseFrame =>
    rcases frameEvent_calm_or 5 takeErase s with hq | ⟨f, rest, -, hq⟩
    · exact hq.rewrites.any
    · rw [hq]
      rcases takeErase_cases f (s.taken rest) with he | ⟨-, he⟩
      · exact hend _ ((htaken rest).any_trans he.rewrites.any)
      · rw [he]
        exact hend _ ((htaken rest).any_trans (startErase_rewrites _ _ _ _))
  case placeHold =>
    rcases controlEvent_calm_or 6 actPlaceHold s with hq | ⟨f, rest, -, hq⟩
    · exact hq.rewrites.any
    · rw [hq]
      exact hend _ ((htaken rest).any_trans (.any_of_volumes (actPlaceHold_volumes f _)))
  case releaseHold =>
    rcases controlEvent_calm_or 7 actReleaseHold s with hq | ⟨f, rest, -, hq⟩
    · exact hq.rewrites.any
    · rw [hq]
      exact hend _ ((htaken rest).any_trans (.any_of_volumes (actReleaseHold_volumes f _)))
  case sweeperVisit =>
    rcases onEvent_cases s sweepVisit with hq | hq <;> rw [hq]
    · exact .any_of_volumes rfl
    · exact hend _ (sweepVisit_rewrites s).1.any
  case walkerVisit =>
    rcases onEvent_cases s walkVisit with hq | hq <;> rw [hq]
    · exact .any_of_volumes rfl
    · exact hend _ (walkVisit_rewrites s).any
  all_goals simp [Instr.special] at hc hv hz

/-- The soundness of a volume is one of its count, its state counts and its segments. -/
theorem Volume.Sound.withZones {x : Volume} (h : x.Sound) (zones : List Zone) :
    ({ x with zones := zones } : Volume).Sound := ⟨h.wf, h.below, h.tallied⟩

/-- One volume written, by a sound one, keeps the Map sound. -/
theorem State.mapSound_of_set1 {s t : State} {v : Nat} {x : Volume} (hs : s.mapSound) (hv : 1 ≤ v ∧ v ≤ 4)
    (h : t.volumes = Table.set1 s.volumes v x) (hx : x.Sound) : t.mapSound := by
  rw [State.mapSound_iff] at hs ⊢
  intro u
  rw [State.volume_of_set1 hv h]
  split
  · exact hx
  · exact hs u

theorem State.mapSound_congr {s t : State} (hs : s.mapSound) (h : t.volumes = s.volumes) : t.mapSound :=
  (State.Rewrites.any_of_volumes h).mapSound hs

/-- Every command keeps the Map sound (R23). -/
theorem exec_mapSound {c : Instr} {s t : State} (hs : s.mapSound) (h : exec c s = .next t) : t.mapSound := by
  by_cases hv : c = .setVolume
  · subst hv
    injection h with h
    subst h
    rcases controlEvent_calm_or 4 actSetVolume s with hq | ⟨f, rest, -, hq⟩
    · exact hq.rewrites.mapSound hs
    · rw [hq]
      refine State.mapSound_congr ?_ (State.endStep_volumes _)
      rcases actSetVolume_cases f (s.taken rest) with ha | ⟨y, hr, -, hy, ha⟩
      · exact ha.rewrites.mapSound hs
      · rw [ha]
        exact State.mapSound_of_set1 (s := s.taken rest) hs hr (writeVolume_fields _ _ _ _).1
          (hy (s.mapSound_iff.mp hs _))
  · by_cases hz : c = .setZone
    · subst hz
      injection h with h
      subst h
      rcases controlEvent_calm_or 5 actSetZone s with hq | ⟨f, rest, -, hq⟩
      · exact hq.rewrites.mapSound hs
      · rw [hq]
        refine State.mapSound_congr ?_ (State.endStep_volumes _)
        rcases actSetZone_cases f (s.taken rest) with ha | ⟨zones, hr, ha, -⟩
        · exact ha.rewrites.mapSound hs
        · exact State.mapSound_of_set1 (s := s.taken rest) hs hr ha ((s.mapSound_iff.mp hs _).withZones zones)
    · exact (exec_rewrites hv hz h).mapSound hs

/-- Settles O33: a write moves the state counts with the state it changes, and every command's changes of the Map are
such writes, but for SET VOLUME and SET ZONE. -/
theorem transitionMovesCounts : Obligations.TransitionMovesCounts := by
  refine ⟨fun s v n g hw _ hn => ?_, fun c s t hs h => exec_mapSound hs h, fun c s t v h hv hz => ?_⟩
  · have ht : (s.volume v).tallied → ((s.putSegment v n g).volume v).tallied := fun ht => by
      rw [s.putSegment_volume v n g hn]
      exact Volume.write_tallied g (hw v) hn ht
    refine ⟨s.putSegment_segment_same v n g hn (hw v), fun u m hum => ?_, ht, fun htal => ?_⟩
    · rw [State.putSegment_segment hw hn, if_neg hum]
    · rw [Volume.total_of_tallied (ht htal), (s.putSegment_count v n v g).1]
  · have hown := (exec_rewrites hv hz h v).own
    rw [hown]
    exact ⟨rfl, rfl, rfl, rfl, rfl⟩

end Sys2Proof.Machine
end

section
/-! SUPPORT. The holds: what each command does to the Hold Table and the walk queue, and how many holds have raised a
segment. -/

namespace Sys2Proof.Machine

/-! ### Reading the Hold Table -/

theorem State.hold_congr {s t : State} (h : t.holds = s.holds) (k : Nat) : t.hold k = s.hold k := by
  unfold State.hold
  rw [h]

theorem State.holdList_congr {s t : State} (h : t.holds = s.holds) : t.holdList = s.holdList := by
  unfold State.holdList
  rw [h]

/-- A slot that is in use is one of the 64. -/
theorem State.hold_range {s : State} {k : Nat} {h : Hold} (hk : s.hold k = some h) : 1 ≤ k ∧ k ≤ 64 := by
  by_contra hr
  have : s.hold k = none := by
    unfold State.hold Table.get1
    split
    · rfl
    · have : ¬ k - 1 < 64 := by omega
      simp [Table.get, this]
  rw [this] at hk
  cases hk

theorem State.hold_of_set1 {s t : State} {k : Nat} {x : Option Hold} (hk : 1 ≤ k ∧ k ≤ 64)
    (h : t.holds = Table.set1 s.holds k x) (j : Nat) : t.hold j = if j = k then x else s.hold j := by
  unfold State.hold
  rw [h]
  split
  · next hj => rw [hj]; exact Table.get1_set1_same _ _ _ _ hk
  · next hj => exact Table.get1_set1_other _ _ _ _ _ hj

/-- The slot that PLACE HOLD takes is Free. -/
theorem State.freeHold_spec {s : State} {k : Nat} (h : s.freeHold = some k) : s.hold k = none ∧ 1 ≤ k ∧ k ≤ 64 := by
  have hm := List.mem_of_find?_eq_some h
  have hp := List.find?_some h
  simp only [List.mem_range'_1] at hm
  exact ⟨by simpa using hp, by omega, by omega⟩

/-! ### The holds that have raised a segment -/

/-- The hold has raised the count of a segment of a class and not lowered it again (R24). -/
def Hold.raises (h : Hold) (v n : Nat) (cls : Option Nat) : Bool := h.covers v n cls && h.counts n

/-- The number of holds that have raised a segment of a class and not lowered it again (R24, R124). -/
def State.raisers (s : State) (v n : Nat) (cls : Option Nat) : Nat :=
  (s.holdList.filter (fun h => h.covers v n cls && h.counts n)).length

/-- The numbers of a run of optional values that a test picks, before and after one of them is changed. -/
theorem length_filter_set {α : Type} (p : α → Bool) (l : List (Option α)) {i : Nat} (hi : i < l.length) (x : Option α) :
    (((l.set i x).filterMap id).filter p).length + (l[i].any p).toNat =
      ((l.filterMap id).filter p).length + (x.any p).toNat := by
  induction l generalizing i with
  | nil => simp at hi
  | cons a rest ih =>
    have hcons : ∀ (y : Option α) (t : List (Option α)),
        (((y :: t).filterMap id).filter p).length = (y.any p).toNat + ((t.filterMap id).filter p).length := by
      intro y t
      cases y with
      | none => simp
      | some y => by_cases hy : p y <;> simp [hy, Nat.add_comm]
    cases i with
    | zero =>
      rw [List.set_cons_zero, hcons, hcons, List.getElem_cons_zero]
      omega
    | succ j =>
      rw [List.set_cons_succ, hcons, hcons, List.getElem_cons_succ]
      have := ih (i := j) (by simpa using hi)
      omega

/-- Changing one slot moves the number of raisers by that slot's part. -/
theorem State.raisers_set {s t : State} {k : Nat} {x : Option Hold} (hk : 1 ≤ k ∧ k ≤ 64)
    (h : t.holds = Table.set1 s.holds k x) (v n : Nat) (cls : Option Nat) :
    t.raisers v n cls + ((s.hold k).any (fun y => y.raises v n cls)).toNat =
      s.raisers v n cls + (x.any (fun y => y.raises v n cls)).toNat := by
  have h0 : k ≠ 0 := by omega
  have hlt : k - 1 < s.holds.toList.length := by simp; omega
  have hl : t.holds.toList = s.holds.toList.set (k - 1) x := by
    rw [h, Table.set1, if_neg h0]
    exact Array.toList_setIfInBounds
  have hg : s.hold k = s.holds.toList[k - 1] := by
    have : k - 1 < 64 := by omega
    simp [State.hold, Table.get1, h0, Table.get, this]
  unfold State.raisers State.holdList
  rw [hl, hg]
  exact length_filter_set (fun y => y.raises v n cls) s.holds.toList hlt x

/-- The hold count of a descriptor at a place is right: 0 when it is Blank, and otherwise the number of raisers. -/
def State.countRight (s : State) (v n : Nat) (g : Segment) : Prop :=
  g.holdCount = if g.state = .blank then 0 else s.raisers v n g.cls

theorem State.raisers_congr {s t : State} (h : t.holds = s.holds) (v n : Nat) (cls : Option Nat) :
    t.raisers v n cls = s.raisers v n cls := by
  unfold State.raisers
  rw [State.holdList_congr h]

/-- A change that moves no hold keeps the hold count right. -/
theorem State.countRight.holdKept {s t : State} {v n : Nat} {g g' : Segment} (h : s.countRight v n g)
    (hk : g.HoldKept g') (hr : ∀ cls, t.raisers v n cls = s.raisers v n cls) : t.countRight v n g' := by
  unfold State.countRight at h ⊢
  split
  · next hb =>
    rcases hk.blank hb with h0 | ⟨hg, hn⟩
    · exact h0
    · rw [hn, h, if_pos hg]
  · next hb =>
    obtain ⟨hg, hc, hn⟩ := hk.held hb
    rw [hn, h, if_neg hg, hc, hr]

/-- Where no hold changes and every descriptor moves no hold, the law of the holds is kept. -/
theorem State.holdLawful.of_rewrites {s t : State} (h : s.holdLawful) (hw : s.canonical)
    (hr : s.Rewrites Segment.HoldKept t) (hh : t.holds = s.holds) : t.holdLawful := by
  obtain ⟨hl, hc⟩ := h
  refine ⟨fun k x hx => hl k x (by rw [← State.hold_congr hh]; exact hx), fun v n hn => ?_⟩
  rw [hr.count] at hn
  exact State.countRight.holdKept (hc v n hn) (hr.segment hw v n) (State.raisers_congr hh v n)

/-! ### PLACE HOLD and RELEASE HOLD -/

/-- One slot of the Hold Table changes, and the walk queue; the Map stands. -/
structure State.Rehold (s t : State) (k : Nat) (x : Option Hold) (queue : List Nat) : Prop where
  slot : 1 ≤ k ∧ k ≤ 64
  holds : t.holds = Table.set1 s.holds k x
  walkQueue : t.walkQueue = queue

/-- A PLACE HOLD is refused, or takes a Free slot for a Placing hold and puts it at the tail of the walk queue (R116). -/
theorem actPlaceHold_cases (f : Frame) (s : State) :
    s.Evolves (actPlaceHold f s) ∨
      ∃ k h, s.hold k = none ∧ h.phase = .placing h.first ∧ h.first ≤ h.last ∧
        s.Rehold (actPlaceHold f s) k (some h) (s.walkQueue ++ [k]) := by
  unfold actPlaceHold
  split
  · exact .inl (State.Evolves.refl.refuseControl _ _ _)
  · next k hj hk =>
    obtain ⟨hnone, hr⟩ := State.freeHold_spec hk
    refine .inr ⟨k, freshHold s f, hnone, rfl, ?_, hr, by simp [answerControl], by simp [answerControl]⟩
    unfold judgePlaceHold at hj
    split_ifs at hj with h1 h2
    simp only [Bool.or_eq_true, decide_eq_true_eq, not_or] at h2
    exact Nat.not_lt.mp h2.1.1
  · exact .inl .refl

/-- What a RELEASE HOLD makes of a hold (R118): a Placing hold that has raised nothing goes, another turns round where
it stands, and an Active one starts to lower. -/
inductive Hold.Released (k : Nat) (q : List Nat) : Hold → Option Hold → List Nat → Prop where
  | dropped {h : Hold} (hp : h.phase = .placing h.first) : Released k q h none (q.filter (fun j => !decide (j = k)))
  | turned {h : Hold} {front : Nat} (hp : h.phase = .placing front) (hf : front ≠ h.first) :
      Released k q h (some { h with phase := .releasing h.first front }) q
  | started {h : Hold} (hp : h.phase = .active) :
      Released k q h (some { h with phase := .releasing h.first (h.last + 1) }) (q ++ [k])

/-- A RELEASE HOLD is refused or finds the hold Releasing, or releases it (R118). -/
theorem actReleaseHold_cases (f : Frame) (s : State) :
    s.Evolves (actReleaseHold f s) ∨
      ∃ k h x q, s.hold k = some h ∧ Hold.Released k s.walkQueue h x q ∧ s.Rehold (actReleaseHold f s) k x q := by
  unfold actReleaseHold
  split
  · exact .inl (State.Evolves.refl.refuseControl _ _ _)
  · split
    · exact .inl (State.Evolves.refl.refuseControl _ _ _)
    · next h hk =>
      have hr := State.hold_range hk
      unfold releaseHold
      split
      · exact .inl (State.Evolves.refl.answerControl _ _ _)
      · next front hp =>
        split
        · next hf =>
          subst hf
          exact .inr ⟨_, h, _, _, hk, .dropped hp, hr, by simp [answerControl], by simp [answerControl]⟩
        · next hf =>
          exact .inr ⟨_, h, _, _, hk, .turned hp hf, hr, by simp [answerControl], by simp [answerControl]⟩
      · next hp =>
        exact .inr ⟨_, h, _, _, hk, .started hp, hr, by simp [answerControl], by simp [answerControl]⟩

/-! ### The visits of the Walker -/

/-- What a visit of the Walker makes of the hold at the head of the walk queue (R120 to R123). -/
inductive Hold.Walked (k : Nat) (q : List Nat) : Hold → (Segment → Segment) → Nat → Option Hold → List Nat → Prop where
  | placing {h : Hold} {front : Nat} (hp : h.phase = .placing front) (hf : front < h.last) :
      Walked k q h Segment.raised front (some { h with phase := .placing (front + 1) }) (k :: q)
  | placed {h : Hold} {front : Nat} (hp : h.phase = .placing front) (hf : h.last ≤ front) :
      Walked k q h Segment.raised front (some { h with phase := .active }) q
  | releasing {h : Hold} {front raisedTo : Nat} (hp : h.phase = .releasing front raisedTo) (hf : front + 1 < raisedTo) :
      Walked k q h Segment.lowered front (some { h with phase := .releasing (front + 1) raisedTo }) (k :: q)
  | released {h : Hold} {front raisedTo : Nat} (hp : h.phase = .releasing front raisedTo) (hf : raisedTo ≤ front + 1) :
      Walked k q h Segment.lowered front none q

/-- The state after a visit of the Walker at a segment. -/
def State.walked (s : State) (k : Nat) (h : Hold) (f : Segment → Segment) (n : Nat) (x : Option Hold) (q : List Nat) :
    State :=
  { (visitSegment h n f s).setHold k x with walkQueue := q }

theorem visitSegment_fields (h : Hold) (n : Nat) (f : Segment → Segment) (s : State) :
    (visitSegment h n f s).holds = s.holds ∧ (visitSegment h n f s).walkQueue = s.walkQueue := by
  unfold visitSegment
  split
  · exact ⟨rfl, rfl⟩
  · exact ⟨rfl, rfl⟩

theorem State.walked_rehold {s : State} {k : Nat} {h : Hold} (hk : s.hold k = some h) (f : Segment → Segment) (n : Nat)
    (x : Option Hold) (q : List Nat) : s.Rehold (s.walked k h f n x q) k x q :=
  ⟨State.hold_range hk, by rw [State.walked, ← (visitSegment_fields h n f s).1]; rfl, rfl⟩

/-- A visit of the Walker for a walking hold (R120 to R123). -/
theorem visitHold_walked {s : State} {k : Nat} {q q' : List Nat} {h : Hold} {f : Segment → Segment} {n : Nat}
    {x : Option Hold} (hq : s.walkQueue = k :: q) (hx : Hold.Walked k q h f n x q') :
    visitHold k h s = s.walked k h f n x q' := by
  have hv : ∀ f m, (visitSegment h m f s).walkQueue = k :: q := fun f m => by
    rw [(visitSegment_fields h m f s).2, hq]
  unfold visitHold State.walked
  cases hx with
  | placing hp hf =>
    rw [hp]
    dsimp only
    rw [if_neg (by omega), ← hv Segment.raised n]
    rfl
  | placed hp hf =>
    rw [hp]
    dsimp only
    rw [if_pos (by omega), hv]
    rfl
  | releasing hp hf =>
    rw [hp]
    dsimp only
    rw [if_neg (by omega), ← hv Segment.lowered n]
    rfl
  | released hp hf =>
    rw [hp]
    dsimp only
    rw [if_pos (by omega), hv]
    rfl

/-- A visit of the Walker finds no walking hold at the head of its queue, or walks that hold on. -/
theorem walkVisit_cases (s : State) :
    walkVisit s = s ∨
      ∃ k q h f n x q', s.walkQueue = k :: q ∧ s.hold k = some h ∧ Hold.Walked k q h f n x q' ∧
        walkVisit s = s.walked k h f n x q' := by
  unfold walkVisit
  split
  · next k q hq =>
    split
    · next h hk =>
      have hmake : ∀ f n x q', Hold.Walked k q h f n x q' → _ := fun f n x q' hx =>
        (⟨k, q, h, f, n, x, q', hq, hk, hx, visitHold_walked hq hx⟩ :
          ∃ k q h' f n x q', s.walkQueue = k :: q ∧ s.hold k = some h' ∧ Hold.Walked k q h' f n x q' ∧
            visitHold _ h s = s.walked k h' f n x q')
      rcases hp : h.phase with front | _ | ⟨front, raisedTo⟩
      · rcases Nat.lt_or_ge front h.last with hf | hf
        · exact .inr (hmake _ _ _ _ (.placing hp hf))
        · exact .inr (hmake _ _ _ _ (.placed hp hf))
      · refine .inl ?_
        unfold visitHold
        rw [hp]
      · rcases Nat.lt_or_ge (front + 1) raisedTo with hf | hf
        · exact .inr (hmake _ _ _ _ (.releasing hp hf))
        · exact .inr (hmake _ _ _ _ (.released hp hf))
    · exact .inl rfl
  · exact .inl rfl

end Sys2Proof.Machine
end
section
/-! PROOFS. The Hold Walker: its visits, the walk queue and the hold counts over every command (R119 to R124). -/

namespace Sys2Proof.Machine

/-! ### The commands that leave the holds -/

/-- The commands that may change the Hold Table. -/
def Instr.rehold (c : Instr) : Prop := c = .placeHold ∨ c = .releaseHold ∨ c = .walkerVisit

/-- Every command but PLACE HOLD, RELEASE HOLD and a Walker visit leaves the Hold Table and the walk queue. -/
theorem exec_holds {c : Instr} {s t : State} (hr : ¬ Instr.rehold c) (h : exec c s = .next t) : t.holds = s.holds ∧ t.walkQueue = s.walkQueue := by
  have hcalm : ∀ u, s.Calm u → u.holds = s.holds ∧ u.walkQueue = s.walkQueue := fun u hu => ⟨hu.holds, hu.walkQueue⟩
  have hevolves : ∀ rest u, (s.taken rest).Evolves u → u.holds = s.holds ∧ u.walkQueue = s.walkQueue :=
    fun rest u hu => hcalm u ((State.Calm.taken s rest).trans (.of_evolves hu))
  by_cases hc : Instr.special c = false
  · exact hcalm t (exec_calm hc h)
  cases c
  all_goals injection h with h; subst h
  case beginFrame =>
    rcases frameEvent_calm_or 1 takeBegin s with hq | ⟨f, rest, -, hq⟩
    · exact hcalm _ hq
    · rw [hq, State.endStep_holds, State.endStep_walkQueue]
      rcases takeBegin_cases f (s.taken rest) with hb | ⟨c, -, -, hb⟩
      · exact hevolves rest _ hb
      · rw [hb]
        unfold admittedBegin reserveNext
        dsimp only
        rw [openNamed_eq]
        split
        · simp [State.taken]
        · simp [State.taken]
  case eraseFrame =>
    rcases frameEvent_calm_or 5 takeErase s with hq | ⟨f, rest, -, hq⟩
    · exact hcalm _ hq
    · rw [hq, State.endStep_holds, State.endStep_walkQueue]
      rcases takeErase_cases f (s.taken rest) with he | ⟨-, he⟩
      · exact hevolves rest _ he
      · rw [he]
        obtain ⟨-, -, h1, h2⟩ := (startErase_evolves f.volume
          (((s.taken rest).initiator f.initiator).relocate f.volume f.segment) (some (f.initiator, f.tag))
          (s.taken rest)).tables
        exact ⟨h1, h2⟩
  case setVolume =>
    rcases controlEvent_calm_or 4 actSetVolume s with hq | ⟨f, rest, -, hq⟩
    · exact hcalm _ hq
    · rw [hq, State.endStep_holds, State.endStep_walkQueue]
      rcases actSetVolume_cases f (s.taken rest) with hv | ⟨y, -, -, -, hv⟩
      · exact hevolves rest _ hv
      · rw [hv]
        exact (writeVolume_fields _ _ _ _).2
  case setZone =>
    rcases controlEvent_calm_or 5 actSetZone s with hq | ⟨f, rest, -, hq⟩
    · exact hcalm _ hq
    · rw [hq, State.endStep_holds, State.endStep_walkQueue]
      rcases actSetZone_cases f (s.taken rest) with hz | ⟨zones, -, -, hz⟩
      · exact hevolves rest _ hz
      · exact hz
  case sweeperVisit =>
    rcases onEvent_cases s sweepVisit with hq | hq <;> rw [hq]
    · exact ⟨rfl, rfl⟩
    · rw [State.endStep_holds, State.endStep_walkQueue]
      exact (sweepVisit_rewrites s).2
  all_goals simp [Instr.special, Instr.rehold] at hc hr

/-! ### The three commands that change a hold -/

/-- What PLACE HOLD and RELEASE HOLD may make of a hold slot and of the walk queue (R116, R118). -/
inductive State.HoldChange (s : State) : Nat → Option Hold → List Nat → Prop where
  | placed {k : Nat} {h : Hold} (hn : s.hold k = none) (hp : h.phase = .placing h.first) (hl : h.first ≤ h.last) :
      HoldChange s k (some h) (s.walkQueue ++ [k])
  | released {k : Nat} {h : Hold} {x : Option Hold} {q : List Nat} (hk : s.hold k = some h)
      (hx : Hold.Released k s.walkQueue h x q) : HoldChange s k x q

/-- What such a command does: a calm step, a change of a slot with the Map left, or a visit of the Walker. -/
theorem exec_holdChange {c : Instr} {s t : State} (hc : Instr.rehold c) (h : exec c s = .next t) :
    s.Calm t ∨
      (∃ k x q, s.HoldChange k x q ∧ s.Rehold t k x q ∧ t.volumes = s.volumes) ∨
      ∃ k q h f n x q', s.walkQueue = k :: q ∧ s.hold k = some h ∧ Hold.Walked k q h f n x q' ∧
        t = (s.walked k h f n x q').endStep := by
  have hend : ∀ u k x q, s.Rehold u k x q → s.Rehold u.endStep k x q := fun u k x q hu =>
    ⟨hu.slot, by rw [State.endStep_holds, hu.holds], by rw [State.endStep_walkQueue, hu.walkQueue]⟩
  rcases hc with rfl | rfl | rfl <;> injection h with h <;> subst h
  · rcases controlEvent_calm_or 6 actPlaceHold s with hq | ⟨f, rest, -, hq⟩
    · exact .inl hq
    · rw [hq]
      rcases actPlaceHold_cases f (s.taken rest) with ha | ⟨k, h, hn, hp, hl, ha⟩
      · exact .inl ((State.Calm.taken s rest).trans (.of_evolves ha)).endStep
      · exact .inr (.inl ⟨k, some h, _, .placed hn hp hl, hend _ _ _ _ ⟨ha.slot, ha.holds, ha.walkQueue⟩,
          by rw [State.endStep_volumes, actPlaceHold_volumes]; rfl⟩)
  · rcases controlEvent_calm_or 7 actReleaseHold s with hq | ⟨f, rest, -, hq⟩
    · exact .inl hq
    · rw [hq]
      rcases actReleaseHold_cases f (s.taken rest) with ha | ⟨k, h, x, q, hk, hx, ha⟩
      · exact .inl ((State.Calm.taken s rest).trans (.of_evolves ha)).endStep
      · exact .inr (.inl ⟨k, x, q, .released hk hx, hend _ _ _ _ ⟨ha.slot, ha.holds, ha.walkQueue⟩,
          by rw [State.endStep_volumes, actReleaseHold_volumes]; rfl⟩)
  · rcases onEvent_cases s walkVisit with hq | hq <;> rw [hq]
    · exact .inl (.refl s)
    · rcases walkVisit_cases s with ha | ⟨k, q, h, f, n, x, q', hq, hk, hx, ha⟩ <;> rw [ha]
      · exact .inl (State.Calm.refl s).endStep
      · exact .inr (.inr ⟨k, q, h, f, n, x, q', hq, hk, hx, rfl⟩)

/-! ### The walk queue (R119) -/

/-- A change of one slot keeps the law of the walk queue when the queue holds that slot exactly for a walking hold. -/
theorem State.walkLawful_of {s t : State} (hs : s.walkLawful) {k : Nat} {x : Option Hold} {q : List Nat}
    (ht : s.Rehold t k x q) (hnodup : q.Nodup) (hother : ∀ j, j ≠ k → (j ∈ q ↔ j ∈ s.walkQueue))
    (hown : k ∈ q ↔ ∃ h, x = some h ∧ h.walking = true) : t.walkLawful := by
  refine ⟨ht.walkQueue ▸ hnodup, fun j => ?_⟩
  rw [ht.walkQueue, State.hold_of_set1 ht.slot ht.holds]
  by_cases hj : j = k
  · rw [if_pos hj, hj]
    exact hown
  · rw [if_neg hj, hother j hj]
    exact hs.2 j

/-- Every change of a hold keeps the walk queue at exactly the walking holds (R119). -/
theorem State.HoldChange.walkLawful {s t : State} {k : Nat} {x : Option Hold} {q : List Nat} (hc : s.HoldChange k x q)
    (hs : s.walkLawful) (ht : s.Rehold t k x q) : t.walkLawful := by
  obtain ⟨hnodup, hmem⟩ := hs
  cases hc with
  | placed hn hp hl =>
    have hk : k ∉ s.walkQueue := fun hk => by
      obtain ⟨h, hh, -⟩ := (hmem k).mp hk
      rw [hn] at hh
      cases hh
    refine State.walkLawful_of ⟨hnodup, hmem⟩ ht ?_ (fun j hj => by simp [hj]) (by simp [Hold.walking, hp])
    rw [List.nodup_append]
    exact ⟨hnodup, List.nodup_singleton k, fun a ha b hb => by
      rw [List.mem_singleton.mp hb]; exact fun e => hk (e ▸ ha)⟩
  | released hk hx =>
    cases hx with
    | dropped hp =>
      exact State.walkLawful_of ⟨hnodup, hmem⟩ ht (hnodup.filter _) (fun j hj => by simp [hj]) (by simp)
    | turned hp hf =>
      refine State.walkLawful_of ⟨hnodup, hmem⟩ ht hnodup (fun j hj => Iff.rfl) ?_
      have : k ∈ s.walkQueue := (hmem k).mpr ⟨_, hk, by simp [Hold.walking, hp]⟩
      simp [this, Hold.walking]
    | started hp =>
      have hno : k ∉ s.walkQueue := fun hin => by
        obtain ⟨h, hh, hwalk⟩ := (hmem k).mp hin
        rw [hk] at hh
        cases hh
        simp [Hold.walking, hp] at hwalk
      refine State.walkLawful_of ⟨hnodup, hmem⟩ ht ?_ (fun j hj => by simp [hj]) (by simp [Hold.walking])
      rw [List.nodup_append]
      exact ⟨hnodup, List.nodup_singleton k, fun a ha b hb => by
        rw [List.mem_singleton.mp hb]; exact fun e => hno (e ▸ ha)⟩

/-- A visit of the Walker keeps the walk queue at exactly the walking holds (R119, R123). -/
theorem Hold.Walked.walkLawful {s t : State} {k n : Nat} {q q' : List Nat} {h : Hold} {f : Segment → Segment}
    {x : Option Hold} (hx : Hold.Walked k q h f n x q') (hs : s.walkLawful) (hq : s.walkQueue = k :: q)
    (ht : s.Rehold t k x q') : t.walkLawful := by
  have hnodup := hs.1
  rw [hq] at hnodup
  obtain ⟨hnot, hrest⟩ := List.nodup_cons.mp hnodup
  cases hx with
  | placing hp hf => exact State.walkLawful_of hs ht hnodup (fun j _ => by rw [hq]) (by simp [Hold.walking])
  | placed hp hf => exact State.walkLawful_of hs ht hrest (fun j hj => by simp [hq, hj]) (by simp [Hold.walking, hnot])
  | releasing hp hf => exact State.walkLawful_of hs ht hnodup (fun j _ => by rw [hq]) (by simp [Hold.walking])
  | released hp hf => exact State.walkLawful_of hs ht hrest (fun j hj => by simp [hq, hj]) (by simp [hnot])

/-- Every command keeps the walk queue lawful (R119). -/
theorem exec_walkLawful {c : Instr} {s t : State} (hs : s.walkLawful) (h : exec c s = .next t) : t.walkLawful := by
  have hsame : t.holds = s.holds ∧ t.walkQueue = s.walkQueue → t.walkLawful := fun ⟨hh, hw⟩ =>
    ⟨hw ▸ hs.1, fun k => by rw [hw, State.hold_congr hh]; exact hs.2 k⟩
  by_cases hr : Instr.rehold c
  · rcases exec_holdChange hr h with hq | ⟨k, x, q, hc, ht, -⟩ | ⟨k, q, h, f, n, x, q', hq, hk, hx, rfl⟩
    · exact hsame ⟨hq.holds, hq.walkQueue⟩
    · exact hc.walkLawful hs ht
    · have hw := s.walked_rehold hk f n x q'
      exact hx.walkLawful hs hq ⟨hw.slot, by rw [State.endStep_holds, hw.holds],
        by rw [State.endStep_walkQueue, hw.walkQueue]⟩
  · exact hsame (exec_holds hr h)

/-! ### The law of each hold (R114, R123) -/

/-- Every change of a hold keeps the holds lawful. -/
theorem State.HoldChange.lawful {s : State} {k : Nat} {x : Option Hold} {q : List Nat} (hc : s.HoldChange k x q)
    (hs : ∀ j h, s.hold j = some h → h.lawful) {h : Hold} (hx : x = some h) : h.lawful := by
  cases hc with
  | placed hn hp hl =>
    cases hx
    unfold Hold.lawful
    rw [hp]
    exact ⟨hl, le_rfl, hl⟩
  | released hk hr =>
    have hold := hs _ _ hk
    unfold Hold.lawful at hold
    cases hr with
    | dropped hp => cases hx
    | turned hp hf =>
      cases hx
      rw [hp] at hold
      obtain ⟨hl, h1, h2⟩ := hold
      exact ⟨hl, le_rfl, Nat.lt_of_le_of_ne h1 (Ne.symm hf), Nat.le_succ_of_le h2⟩
    | started hp =>
      cases hx
      exact ⟨hold.1, le_rfl, Nat.lt_succ_of_le hold.1, le_rfl⟩

/-- A visit of the Walker keeps its hold lawful. -/
theorem Hold.Walked.lawful {k n : Nat} {q q' : List Nat} {h y : Hold} {f : Segment → Segment} {x : Option Hold}
    (hw : Hold.Walked k q h f n x q') (hold : h.lawful) (hx : x = some y) : y.lawful := by
  unfold Hold.lawful at hold
  cases hw with
  | placing hp hf =>
    cases hx
    rw [hp] at hold
    obtain ⟨hl, h1, h2⟩ := hold
    exact ⟨hl, Nat.le_succ_of_le h1, hf⟩
  | placed hp hf =>
    cases hx
    exact ⟨hold.1, trivial⟩
  | releasing hp hf =>
    cases hx
    rw [hp] at hold
    obtain ⟨hl, h1, h2, h3⟩ := hold
    exact ⟨hl, Nat.le_succ_of_le h1, hf, h3⟩
  | released hp hf => cases hx

/-- A slot whose hold becomes lawful leaves every hold lawful. -/
theorem State.Rehold.lawful {s t : State} {k : Nat} {x : Option Hold} {q : List Nat} (ht : s.Rehold t k x q)
    (hs : ∀ j h, s.hold j = some h → h.lawful) (hx : ∀ h, x = some h → h.lawful) :
    ∀ j h, t.hold j = some h → h.lawful := by
  intro j h hj
  rw [State.hold_of_set1 ht.slot ht.holds] at hj
  split at hj
  · exact hx h hj
  · exact hs j h hj

/-! ### The hold counts (R24, R124) -/

/-- A hold that is placed has raised nothing, and one that is released has raised what it had raised before (R116, R118).
-/
theorem Hold.Released.any_raises {k : Nat} {q q' : List Nat} {h : Hold} {x : Option Hold}
    (hx : Hold.Released k q h x q') (v n : Nat) (cls : Option Nat) :
    x.any (fun y => y.raises v n cls) = h.raises v n cls := by
  cases hx with
  | dropped hp =>
    simp only [Option.any_none, Hold.raises, Hold.counts, hp, Hold.covers]
    rcases Nat.lt_or_ge n h.first with hn | hn <;> simp [hn]
  | turned hp hf =>
    simp only [Option.any_some, Hold.raises, Hold.counts, hp, Hold.covers]
    by_cases hn : h.first ≤ n <;> simp [hn]
  | started hp =>
    simp only [Option.any_some, Hold.raises, Hold.counts, hp, Hold.covers]
    by_cases hn : h.first ≤ n
    · by_cases hl : n ≤ h.last
      · simp [hn, hl, Nat.lt_succ_of_le hl]
      · simp [hl]
    · simp [hn]

/-- A walk stands inside the range of its hold. -/
theorem Hold.Walked.inside {k n : Nat} {q q' : List Nat} {h : Hold} {f : Segment → Segment} {x : Option Hold}
    (hx : Hold.Walked k q h f n x q') (hl : h.lawful) : h.first ≤ n ∧ n ≤ h.last := by
  unfold Hold.lawful at hl
  cases hx with
  | placing hp _ => rw [hp] at hl; exact hl.2
  | placed hp _ => rw [hp] at hl; exact hl.2
  | releasing hp _ => rw [hp] at hl; obtain ⟨-, h1, h2, h3⟩ := hl; omega
  | released hp _ => rw [hp] at hl; obtain ⟨-, h1, h2, h3⟩ := hl; omega

/-- A visit moves its hold's part in the count of no segment but the one at the walk front. -/
theorem Hold.Walked.any_raises {k n : Nat} {q q' : List Nat} {h : Hold} {f : Segment → Segment} {x : Option Hold}
    (hx : Hold.Walked k q h f n x q') (hl : h.lawful) {v m : Nat} {cls : Option Nat}
    (hm : m ≠ n ∨ h.covers v m cls = false) : x.any (fun y => y.raises v m cls) = h.raises v m cls := by
  have hin := hx.inside hl
  unfold Hold.lawful at hl
  by_cases hc : h.covers v m cls = true
  · have hm : m ≠ n := hm.resolve_right (by simp [hc])
    have hrange : h.first ≤ m ∧ m ≤ h.last := by
      simp only [Hold.covers, Bool.and_eq_true, decide_eq_true_eq] at hc
      obtain ⟨⟨⟨⟨-, h1⟩, h2⟩, -⟩, -⟩ := hc
      exact ⟨h1, h2⟩
    have hcov : ∀ p, ({ h with phase := p } : Hold).covers v m cls = true := fun _ => hc
    cases hx with
    | placing hp hf =>
      simp only [Option.any_some, Hold.raises, hcov, Hold.counts, hp, Bool.true_and, decide_eq_decide]
      omega
    | placed hp hf =>
      simp only [Option.any_some, Hold.raises, hcov, Hold.counts, hp, Bool.true_and]
      exact (decide_eq_true (by omega)).symm
    | releasing hp hf =>
      simp only [Option.any_some, Hold.raises, hcov, Hold.counts, hp, Bool.true_and]
      rw [← Bool.decide_and, ← Bool.decide_and, decide_eq_decide]
      omega
    | released hp hf =>
      simp only [Option.any_none, Hold.raises, hc, Hold.counts, hp, Bool.true_and]
      rw [← Bool.decide_and, eq_comm, decide_eq_false_iff_not]
      omega
  · have hc : h.covers v m cls = false := by simpa using hc
    have hcov : ∀ p, ({ h with phase := p } : Hold).covers v m cls = false := fun _ => hc
    cases hx with
    | placing _ _ => simp [Hold.raises, hcov]
    | placed _ _ => simp [Hold.raises, hcov]
    | releasing _ _ => simp [Hold.raises, hcov]
    | released _ _ => simp [Hold.raises, hc]

/-- A visit that changes the segment at the walk front moves its hold's part in that segment's count as it moves the
count (R121, R122). -/
theorem Hold.Walked.front {k n : Nat} {q q' : List Nat} {h : Hold} {f : Segment → Segment} {x : Option Hold}
    (hx : Hold.Walked k q h f n x q') (hl : h.lawful) {v : Nat} {cls : Option Nat} (hc : h.covers v n cls = true) :
    (f = Segment.raised ∧ h.raises v n cls = false ∧ x.any (fun y => y.raises v n cls) = true) ∨
      (f = Segment.lowered ∧ h.raises v n cls = true ∧ x.any (fun y => y.raises v n cls) = false) := by
  unfold Hold.lawful at hl
  have hcov : ∀ p, ({ h with phase := p } : Hold).covers v n cls = true := fun _ => hc
  cases hx with
  | placing hp hf => exact .inl ⟨rfl, by simp [Hold.raises, Hold.counts, hp], by simp [Hold.raises, hcov, Hold.counts]⟩
  | placed hp hf => exact .inl ⟨rfl, by simp [Hold.raises, Hold.counts, hp], by simp [Hold.raises, hcov, Hold.counts]⟩
  | releasing hp hf =>
    exact .inr ⟨rfl, by simp [Hold.raises, hc, Hold.counts, hp]; omega, by simp [Hold.raises, Hold.counts]⟩
  | released hp hf =>
    rw [hp] at hl
    obtain ⟨-, -, h2, -⟩ := hl
    exact .inr ⟨rfl, by simp [Hold.raises, hc, Hold.counts, hp, h2], by simp⟩

/-- A segment that a visit changes is in the scope of its hold (R11, R120). -/
theorem Hold.covers_of_visited {h : Hold} {n : Nat} {g : Segment} (hn : h.first ≤ n ∧ n ≤ h.last)
    (hp : h.passesOver g = false) : g.state ≠ .blank ∧ h.covers h.volume n g.cls = true := by
  simp only [Hold.passesOver, Bool.or_eq_false_iff, decide_eq_false_iff_not, Bool.and_eq_false_iff, Bool.not_eq_false',
    decide_eq_true_eq] at hp
  obtain ⟨⟨hb, h0⟩, hf⟩ := hp
  refine ⟨hb, ?_⟩
  simp only [Hold.covers, hn, h0, decide_true, decide_false, Bool.not_false, Bool.and_true, Bool.true_and,
    Bool.or_eq_true, decide_eq_true_eq]
  rcases hf with hf | hf
  · exact .inl hf
  · exact .inr (by simpa using hf)

/-- A segment that a visit passes over is Blank or out of the scope of its hold (R11, R120). -/
theorem Hold.not_covers_of_passed {h : Hold} {v n : Nat} {g : Segment} (hp : h.passesOver g = true)
    (hb : g.state ≠ .blank) : h.covers v n g.cls = false := by
  simp only [Hold.passesOver, hb, decide_false, Bool.false_or, Bool.or_eq_true, decide_eq_true_eq, Bool.and_eq_true,
    Bool.not_eq_true', decide_eq_false_iff_not] at hp
  unfold Hold.covers
  rcases hp with h0 | ⟨h1, h2⟩
  · simp [h0]
  · simp [h1, h2]

/-- What a visit makes of a descriptor. -/
theorem visitSegment_segment {s : State} (hw : s.canonical) (h : Hold) (n : Nat) (f : Segment → Segment) {v m : Nat}
    (hm : m < (s.volume v).count) :
    (visitSegment h n f s).segment v m =
      if v = h.volume ∧ m = n ∧ h.passesOver (s.segment v m) = false then f (s.segment v m) else s.segment v m := by
  unfold visitSegment
  split
  · next hp =>
    rw [if_neg]
    rintro ⟨rfl, rfl, hf⟩
    rw [hp] at hf
    cases hf
  · next hp =>
    by_cases hvm : v = h.volume ∧ m = n
    · obtain ⟨rfl, rfl⟩ := hvm
      rw [State.putSegment_segment hw hm, if_pos ⟨rfl, rfl⟩, if_pos ⟨rfl, rfl, by simpa using hp⟩]
    · rw [if_neg (fun hc => hvm ⟨hc.1, hc.2.1⟩)]
      by_cases hn : n < (s.volume h.volume).count
      · rw [State.putSegment_segment hw hn, if_neg hvm]
      · rw [s.putSegment_beyond _ _ _ (Nat.not_lt.mp hn)]

/-- A visit of the Walker keeps the hold counts right (R121, R122, R124). -/
theorem walked_countRight {s : State} (hw : s.canonical) {k n : Nat} {q q' : List Nat} {h : Hold}
    {f : Segment → Segment} {x : Option Hold} (hk : s.hold k = some h) (hl : h.lawful)
    (hx : Hold.Walked k q h f n x q') {v m : Nat} (hm : m < (s.volume v).count)
    (hc : s.countRight v m (s.segment v m)) :
    (s.walked k h f n x q').countRight v m ((s.walked k h f n x q').segment v m) := by
  have hset := fun cls => State.raisers_set (State.hold_range hk) (s.walked_rehold hk f n x q').holds v m cls
  simp only [hk, Option.any_some] at hset
  have hseg : (s.walked k h f n x q').segment v m = (visitSegment h n f s).segment v m := rfl
  rw [hseg, visitSegment_segment hw h n f hm]
  have hkeep : ((s.segment v m).state ≠ .blank → m ≠ n ∨ h.covers v m (s.segment v m).cls = false) →
      (s.walked k h f n x q').countRight v m (s.segment v m) := fun hne => by
    unfold State.countRight at hc ⊢
    rw [hc]
    split
    · rfl
    · next hb =>
      have := hset (s.segment v m).cls
      rw [hx.any_raises hl (hne hb)] at this
      omega
  by_cases hvm : v = h.volume ∧ m = n
  · obtain ⟨rfl, rfl⟩ := hvm
    by_cases hp : h.passesOver (s.segment h.volume m) = true
    · rw [if_neg (by simp [hp])]
      exact hkeep fun hb => .inr (Hold.not_covers_of_passed hp hb)
    · have hp : h.passesOver (s.segment h.volume m) = false := by simpa using hp
      rw [if_pos ⟨rfl, rfl, hp⟩]
      obtain ⟨hb, hcov⟩ := Hold.covers_of_visited (hx.inside hl) hp
      have hs := hset (s.segment h.volume m).cls
      unfold State.countRight at hc ⊢
      rw [if_neg hb] at hc
      rcases hx.front hl hcov with ⟨rfl, h1, h2⟩ | ⟨rfl, h1, h2⟩
      · rw [h1, h2] at hs
        have hb' : (s.segment h.volume m).raised.state ≠ .blank := by
          unfold Segment.raised
          dsimp only
          split
          · decide
          · exact hb
        rw [if_neg hb']
        change (s.segment h.volume m).holdCount + 1 = State.raisers _ h.volume m (s.segment h.volume m).cls
        rw [hc]
        simpa using hs.symm
      · rw [h1, h2] at hs
        have hb' : (s.segment h.volume m).lowered.state ≠ .blank := hb
        rw [if_neg hb']
        change (s.segment h.volume m).holdCount - 1 = State.raisers _ h.volume m (s.segment h.volume m).cls
        simp only [Bool.toNat_true, Bool.toNat_false] at hs
        omega
  · rw [if_neg (fun hcon => hvm ⟨hcon.1, hcon.2.1⟩)]
    refine hkeep fun _ => ?_
    by_cases hv : v = h.volume
    · exact .inl fun hmn => hvm ⟨hv, hmn⟩
    · exact .inr (by simp [Hold.covers, Ne.symm hv])

/-- PLACE HOLD and RELEASE HOLD change no number of raisers (R116, R118). -/
theorem State.HoldChange.raisers {s t : State} {k : Nat} {x : Option Hold} {q : List Nat} (hc : s.HoldChange k x q)
    (ht : s.Rehold t k x q) (v n : Nat) (cls : Option Nat) : t.raisers v n cls = s.raisers v n cls := by
  have hset := State.raisers_set ht.slot ht.holds v n cls
  have hsame : (s.hold k).any (fun y => y.raises v n cls) = x.any (fun y => y.raises v n cls) := by
    cases hc with
    | placed hn hp hl =>
      rw [hn]
      simp only [Option.any_none, Option.any_some, Hold.raises, Hold.counts, hp, Hold.covers]
      rename_i h
      rcases Nat.lt_or_ge n h.first with hlt | hge
      · simp [Nat.not_le.mpr hlt]
      · simp [Nat.not_lt.mpr hge]
    | released hk hx =>
      rw [hk, hx.any_raises]
      rfl
  rw [hsame] at hset
  exact Nat.add_right_cancel hset

/-- BEGIN gives a segment that it opens the number of its raisers (R11). -/
theorem begun_countRight {s : State} {f : Frame} {n c : Nat} (hw : s.canonical) (hn : n < (s.volume f.volume).count)
    (h8 : check8 s (s.initiator f.initiator) f n = none) {v m : Nat} (hc : s.countRight v m (s.segment v m)) :
    s.countRight v m ((s.begun f n c).segment v m) := by
  rw [begun_segment hw hn h8]
  have hopens : ∀ key cont, s.countRight v m (openedSegment s v m f.cls key cont c) := fun key cont => rfl
  split
  · next h =>
    obtain ⟨rfl, rfl⟩ := h
    unfold namedAfter
    split
    · exact hopens _ _
    · refine State.countRight.holdKept hc ?_ fun _ => rfl
      have hs : (s.segment f.volume m).Steady { s.segment f.volume m with writer := some c } :=
        .of_same rfl rfl rfl
      exact hs.holdKept
  · split
    · next h =>
      obtain ⟨rfl, rfl, -⟩ := h
      exact hopens _ _
    · exact hc

/-- Every command keeps the law of the holds, while the Map is sound (R24, R124). -/
theorem exec_holdLawful {c : Instr} {s t : State} (hm : s.mapSound) (hs : s.holdLawful) (h : exec c s = .next t) :
    t.holdLawful := by
  have hw := hm.1
  have hcalm : ∀ u, s.Calm u → u.holdLawful := fun u hu =>
    hs.of_rewrites hw (hu.rewrites.mono fun _ _ hg => hg.holdKept) hu.holds
  have hend : ∀ u : State, u.holdLawful → u.endStep.holdLawful := fun u hu => by
    refine ⟨fun k x hx => hu.1 k x ?_, fun v n hn => ?_⟩
    · rw [← State.hold_congr u.endStep_holds]; exact hx
    · rw [State.volume_congr u.endStep_volumes] at hn
      rw [State.segment_congr u.endStep_volumes]
      exact State.countRight.holdKept (hu.2 v n hn) (.refl _) (State.raisers_congr u.endStep_holds v n)
  have hsame : ∀ u : State, u.holds = s.holds →
      (∀ v n, n < (u.volume v).count → s.countRight v n (u.segment v n)) → u.holdLawful := fun u hh hc =>
    ⟨fun k x hx => hs.1 k x (by rw [← State.hold_congr hh]; exact hx), fun v n hn =>
      State.countRight.holdKept (hc v n hn) (.refl _) (State.raisers_congr hh v n)⟩
  by_cases hrehold : Instr.rehold c
  · rcases exec_holdChange hrehold h with hq | ⟨k, x, q, hc, ht, hv⟩ | ⟨k, q, y, f, n, x, q', hq, hk, hx, rfl⟩
    · exact hcalm t hq
    · refine ⟨ht.lawful hs.1 fun h hx => hc.lawful hs.1 hx, fun v n hn => ?_⟩
      rw [State.volume_congr hv] at hn
      rw [State.segment_congr hv]
      exact State.countRight.holdKept (hs.2 v n hn) (.refl _) (hc.raisers ht v n)
    · have hy := hs.1 k y hk
      refine hend _ ⟨(s.walked_rehold hk f n x q').lawful hs.1 fun z hz => hx.lawful hy hz, fun v m hm => ?_⟩
      have hcount : m < (s.volume v).count := by
        rw [← (visitSegment_rewrites (R := Segment.Any) (fun _ => trivial) y n (f := f) (fun _ => trivial) s).count v]
        exact hm
      exact walked_countRight hw hk hy hx hcount (hs.2 v m hcount)
  · obtain ⟨hh, -⟩ := exec_holds hrehold h
    by_cases hc : Instr.special c = false
    · exact hcalm t (exec_calm hc h)
    cases c
    all_goals injection h with h; subst h
    case beginFrame =>
      rcases frameEvent_calm_or 1 takeBegin s with hq | ⟨f, rest, -, hq⟩
      · exact hcalm _ hq
      · rw [hq] at hh ⊢
        rcases takeBegin_cases f (s.taken rest) with hb | ⟨c, hj, -, hb⟩
        · exact hend _ (hcalm _ ((State.Calm.taken s rest).trans (.of_evolves hb)))
        · obtain ⟨-, hn, -, h8⟩ := judgeBegin_none hj
          rw [State.endStep_holds] at hh
          refine hend _ (hsame _ hh fun v m hm => ?_)
          rw [hb] at hm ⊢
          rw [((admittedBegin_rewrites f c _).count v)] at hm
          rw [admittedBegin_eq (s := s.taken rest) hw hn, State.segment_congr (State.send_volumes _ _)]
          exact begun_countRight (s := s.taken rest) hw hn h8 (hs.2 v m hm)
    case eraseFrame =>
      refine hsame _ hh fun v n hn => ?_
      have hcount := (exec_rewrites (by decide) (by decide) (rfl : exec .eraseFrame s = _)).count v
      rw [hcount] at hn
      rcases eraseFrame_segment hw rfl v n with he | ⟨hchk, he⟩
      · exact State.countRight.holdKept (hs.2 v n hn) he.holdKept fun _ => rfl
      · have hexp := (checkEraseState_none hchk).1
        have hstart : (s.segment v n).HoldKept { s.segment v n with state := .erasing } :=
          .of_retained (by simp [hexp]) (by simp) rfl rfl
        exact State.countRight.holdKept (hs.2 v n hn) (hstart.trans he.holdKept) fun _ => rfl
    case setVolume =>
      rcases controlEvent_calm_or 4 actSetVolume s with hq | ⟨f, rest, -, hq⟩
      · exact hcalm _ hq
      · rw [hq] at hh ⊢
        rcases actSetVolume_cases f (s.taken rest) with hv | ⟨y, hr, hy, -, hv⟩
        · exact hend _ (hcalm _ ((State.Calm.taken s rest).trans (.of_evolves hv)))
        · rw [State.endStep_holds] at hh
          refine hend _ (hsame _ hh fun v n hn => ?_)
          rw [hv] at hn ⊢
          rw [State.volume_of_set1 hr (writeVolume_fields _ _ _ _).1] at hn
          rw [State.segment_of_set1 hr (writeVolume_fields _ _ _ _).1]
          split
          · next hvu =>
            subst hvu
            rw [if_pos rfl] at hn
            have hsound : ((s.taken rest).volume (f.param 0)).Sound := s.mapSound_iff.mp hm _
            rw [hy.get hsound.wf n, if_pos hn]
            rcases Nat.lt_or_ge n ((s.taken rest).volume (f.param 0)).count with hlt | hge
            · exact hs.2 _ n hlt
            · rw [hsound.get_beyond hge]
              rfl
          · next hvu =>
            rw [if_neg hvu] at hn
            exact hs.2 v n hn
    case setZone =>
      rcases controlEvent_calm_or 5 actSetZone s with hq | ⟨f, rest, -, hq⟩
      · exact hcalm _ hq
      · rw [hq] at hh ⊢
        rcases actSetZone_cases f (s.taken rest) with hz | ⟨zones, hr, hz, -⟩
        · exact hend _ (hcalm _ ((State.Calm.taken s rest).trans (.of_evolves hz)))
        · rw [State.endStep_holds] at hh
          refine hend _ (hsame _ hh fun v n hn => ?_)
          rw [State.volume_of_set1 hr hz] at hn
          rw [State.segment_of_set1 hr hz]
          split
          · next hvu =>
            subst hvu
            rw [if_pos rfl] at hn
            exact hs.2 _ n hn
          · next hvu =>
            rw [if_neg hvu] at hn
            exact hs.2 v n hn
    case sweeperVisit =>
      rcases onEvent_cases s sweepVisit with hq | hq <;> rw [hq]
      · exact hs
      · obtain ⟨hr, hh, -⟩ := sweepVisit_rewrites s
        exact hend _ (hs.of_rewrites hw (hr.mono fun _ _ hg => hg.1) hh)
    all_goals simp [Instr.special, Instr.rehold] at hc hrehold

end Sys2Proof.Machine
end

section
/-! SUPPORT. One visit of the Hold Walker as an equation (R120 to R123). -/

namespace Sys2Proof.Machine

theorem Hold.passesOver_iff (h : Hold) (g : Segment) :
    h.passesOver g = true ↔ g.state = .blank ∨ g.cls = some 0 ∨ (h.filter ≠ none ∧ h.filter ≠ g.cls) := by
  simp [Hold.passesOver, or_assoc]

theorem visitSegment_eq (h : Hold) (n : Nat) (f : Segment → Segment) (s : State) :
    visitSegment h n f s =
      if (s.segment h.volume n).state = .blank ∨ (s.segment h.volume n).cls = some 0 ∨
          (h.filter ≠ none ∧ h.filter ≠ (s.segment h.volume n).cls)
      then s else s.putSegment h.volume n (f (s.segment h.volume n)) := by
  unfold visitSegment
  simp only [Hold.passesOver_iff]

/-- The command walks the hold at the head of the queue on, and makes no notice of it. -/
theorem walkerVisit_head {s : State} {k : Nat} {q q' : List Nat} {h : Hold} {f : Segment → Segment} {n : Nat}
    {x : Option Hold} (ht : s.takesEvents = true) (hs : s.settled) (hq : s.walkQueue = k :: q)
    (hk : s.hold k = some h) (hx : Hold.Walked k q h f n x q') :
    exec .walkerVisit s =
      .next
        { visitSegment h n f s with holds := s.holds.setIfInBounds (k - 1) x, walkQueue := q' } := by
  have hw : walkVisit s = s.walked k h f n x q' := by
    simp only [walkVisit, hq, hk]
    exact visitHold_walked hq hx
  have hcauses : (s.walked k h f n x q').conditions.causes = [] := by
    unfold State.walked visitSegment
    split <;> exact hs
  have hset : (visitSegment h n f s).setHold k x =
      { visitSegment h n f s with holds := s.holds.setIfInBounds (k - 1) x } := by
    have hne : ¬ k = 0 := by have := State.hold_range hk; omega
    simp [State.setHold, Table.set1, Table.set, hne, (visitSegment_fields h n f s).1]
  calc exec .walkerVisit s = .next (onEvent s walkVisit) := rfl
    _ = .next (s.walked k h f n x q') := by rw [onEvent_quiet s _ ht (by rw [hw]; exact hcauses), hw]
    _ = _ := by rw [State.walked, hset]

end Sys2Proof.Machine

end

section
/-! PROOF. The visits of the Hold Walker. -/

namespace Sys2Proof.Machine

/-- Settles O50: a visit is that of the hold at the head of the queue, and the two laws are kept by every command, by
what it does to the Hold Table and to a segment. -/
theorem walkerVisits : Obligations.WalkerVisits := by
  refine ⟨fun s k queue h ht hs hq hk _ _ => ?_, fun c s t hl he => exec_walkLawful hl he,
    fun c s t hm _ hl he => exec_holdLawful hm hl he⟩
  have hqueue : ∀ f n, (visitSegment h n f s).walkQueue = k :: queue := fun f n =>
    (visitSegment_fields h n f s).2.trans hq
  refine ⟨fun n hp hn => ?_, fun hp => ?_, fun n m hp hn => ?_, fun n hp => ?_⟩
  · rw [walkerVisit_head ht hs hq hk (.placing hp hn), ← hqueue Segment.raised n, visitSegment_eq]
    rfl
  · rw [walkerVisit_head ht hs hq hk (.placed hp (Nat.le_refl _)), visitSegment_eq]
    rfl
  · rw [walkerVisit_head ht hs hq hk (.releasing hp hn), ← hqueue Segment.lowered n, visitSegment_eq]
    rfl
  · rw [walkerVisit_head ht hs hq hk (.released hp (Nat.le_refl _)), visitSegment_eq]
    rfl

end Sys2Proof.Machine

end

section
/-! SUPPORT. The notice at the end of a step, one condition raised in a step, and the requests that Admission refuses. -/

namespace Sys2Proof.Machine

/-! ### The notice at the end of a step (R178, R179) -/

/-- The NOTICE that the end of a step places in the transmit queue, if it makes one that is placed (R178, R184). -/
def State.notices (s : State) : List Frame :=
  if s.conditions.causes = [] then []
  else if s.present s.conditions.noticeInitiator && s.txRoom then [s.conditions.noticeFrame]
  else []

/-- The Condition Unit once its waiting causes have given their notice (R178, R179). -/
def Conditions.noticed (c : Conditions) : Conditions :=
  { c with
    noticeNumber := if c.causes = [] then c.noticeNumber else (c.noticeNumber + 1) % 65536
    causes := [] }

theorem State.sendNotice_eq (s : State) (f : Frame) :
    s.sendNotice f = { s with txQueue := s.txQueue ++ if s.present f.initiator && s.txRoom then [f] else [] } := by
  unfold State.sendNotice
  split
  · rfl
  · rw [List.append_nil]

/-- The end of a step in one equation: the frames it places and the Condition Unit it leaves. -/
theorem State.endStep_noticed (s : State) :
    s.endStep = { s with txQueue := s.txQueue ++ s.notices, conditions := s.conditions.noticed } := by
  unfold State.endStep State.notices Conditions.noticed
  split
  · next hc =>
    rw [List.append_nil]
    simp only [← hc]
  · rw [State.sendNotice_eq]
    rfl

theorem State.notices_eq_nil {s : State} (h : s.notices = []) :
    s.conditions.causes = [] ∨ s.present s.conditions.noticeInitiator = false ∨
      Config.transmitLimit ≤ s.txQueue.length := by
  unfold State.notices at h
  split at h
  · next hc => exact .inl hc
  · split at h
    · cases h
    · next hp =>
      right
      simpa [State.txRoom, Classical.or_iff_not_imp_left] using hp

theorem State.notices_ne_nil {s : State} (h : s.notices ≠ []) :
    s.conditions.causes ≠ [] ∧ s.present s.conditions.noticeInitiator = true := by
  unfold State.notices at h
  split at h
  · exact absurd rfl h
  · next hc =>
    split at h
    · next hp => exact ⟨hc, (Bool.and_eq_true _ _ ▸ hp).1⟩
    · exact absurd rfl h

theorem State.notices_length (s : State) : s.notices.length ≤ 1 := by
  unfold State.notices
  split
  · exact Nat.zero_le _
  · split
    · exact Nat.le_refl _
    · exact Nat.zero_le _

theorem State.mem_notices {s : State} {y : Frame} (h : y ∈ s.notices) :
    y.kind = 10 ∧ y.initiator = s.conditions.noticeInitiator := by
  unfold State.notices at h
  split at h
  · cases h
  · split at h
    · rw [List.mem_singleton.mp h]
      exact ⟨rfl, rfl⟩
    · cases h

/-! ### One condition raised in a step -/

theorem Cond.bit_ne_zero (c : Cond) : c.bit ≠ 0#18 := by cases c <;> decide

/-- A condition raised alone changes the Condition Unit alone: its flag, the Last Outcome record, and one cause when its
group goes from clear to set with its enable yes (R172 to R174, R178). -/
theorem State.raiseAlone_eq (s : State) (op : Operation) (c : Cond) :
    s.raiseAlone op c =
      { s with
        conditions :=
          { s.conditions with
            accrued := s.conditions.accrued ||| c.bit
            last := some { op := op, outcome := c.bit, time := s.now }
            causes :=
              if s.conditions.accrued.groupSet c.group = false ∧ s.conditions.enables.has c.group = true then
                s.conditions.causes ++ [.groupSet c.group c op]
              else s.conditions.causes } } := by
  unfold State.raiseAlone State.complete
  rw [if_neg c.bit_ne_zero]
  simp only [State.raise, Bool.and_eq_true, Bool.not_eq_true']
  rfl

/-- A step of a settled state that raises one condition alone and then places its frames makes at most one notice. -/
theorem State.raisesOne_endStep {s u : State} {op : Operation} {c : Cond} (hs : s.settled)
    (hc : u.conditions = (s.raiseAlone op c).conditions) (hi : u.initiators = s.initiators) :
    s.raisesOne u.endStep c (some { op := op, outcome := c.bit, time := s.now }) u.notices := by
  have hsettled : s.conditions.causes = [] := hs
  have hpresent : u.present u.conditions.noticeInitiator = s.present s.conditions.noticeInitiator := by
    rw [hc, State.raiseAlone_eq]
    unfold State.present State.initiator
    rw [hi]
  have hcauses : u.conditions.causes =
      if s.conditions.accrued.groupSet c.group = false ∧ s.conditions.enables.has c.group = true then
        [.groupSet c.group c op]
      else [] := by
    rw [hc, State.raiseAlone_eq, hsettled]
    rfl
  refine ⟨?_, u.notices_length, fun y hy => ?_, fun hn => ?_, fun hn hf hp => ?_⟩
  · have hnumber : u.conditions.noticeNumber = s.conditions.noticeNumber := by
      rw [hc, State.raiseAlone_eq]
    rw [State.endStep_noticed, Conditions.noticed, hcauses, hnumber, hc, State.raiseAlone_eq]
    split <;> simp [hsettled]
  · have hframe := State.mem_notices hy
    rw [hc, State.raiseAlone_eq] at hframe
    exact hframe
  · obtain ⟨hne, hp⟩ := State.notices_ne_nil hn
    rw [hpresent] at hp
    refine ⟨?_, by simpa [State.present] using hp⟩
    by_contra hf
    rw [hcauses, if_neg hf] at hne
    exact hne rfl
  · rw [State.endStep_noticed, hn, List.append_nil]
    have hthere : s.present s.conditions.noticeInitiator = true := by simpa [State.present] using hp
    rcases State.notices_eq_nil hn with hempty | habsent | hfull
    · rw [hcauses, if_pos hf] at hempty
      cases hempty
    · rw [hpresent, hthere] at habsent
      cases habsent
    · exact hfull

/-! ### Requests that Admission refuses (R73 to R75) -/

/-- A denial is one of check 1, or check 1 passed. -/
theorem firstDenial_check1 {x : Option Nat} {o : Option Code} {l : List (Option Denial)} {d : Denial}
    (h : firstDenial (deny 1 x o :: l) = some d) : d.check = 1 ∨ o = none := by
  cases o with
  | none => exact .inr rfl
  | some code =>
    left
    simp only [deny, Option.map_some, firstDenial, Option.some.injEq] at h
    rw [← h]

theorem present_of_check1 {e : InitiatorEntry} {k : RequestKind} (h : check1 e k = none) : e.state ≠ .absent := by
  intro ha
  simp [check1, ha] at h

/-- The report of a denial changes the Condition Unit alone. -/
theorem reportDenial_eq (f : Frame) (k : RequestKind) (d : Denial) (s : State) :
    reportDenial f k d s = { s with conditions := (reportDenial f k d s).conditions } := by
  unfold reportDenial
  split
  · rw [State.raiseAlone_eq]
  · rfl

/-- A refusal that its requester hears is placed after the report of its denial (R73, R75, R184). -/
theorem refuse_placed {s : State} {f : Frame} {k : RequestKind} {d : Denial} (hl : s.ingestLink = .ready)
    (hp : d.check = 1 ∨ (s.initiator f.initiator).state ≠ .absent) (hr : s.txQueue.length < Config.transmitLimit) :
    refuse f k d s =
      { s with conditions := (reportDenial f k d s).conditions, txQueue := s.txQueue ++ [denialFrame f d] } := by
  unfold refuse
  rw [reportDenial_eq]
  split
  · simp [State.sendAnyway, State.txRoom, State.enqueue, hl, hr]
  · next hne =>
    have hstate := hp.resolve_left hne
    exact State.send_placed _ _ hl hstate hr

/-- A request that Admission refuses is answered, reported and changes nothing else (R73 to R75). -/
theorem refusedBy_of_refuse {s : State} {f : Frame} {rest : List RxFrame} {c : Instr} {k : RequestKind} {d : Denial}
    (ha : s.awaits f rest) (hl : s.ingestLink = .ready)
    (hp : d.check = 1 ∨ (s.initiator f.initiator).state ≠ .absent) (hop : k.op = f.opKind)
    (h : exec c s = .next (refuse f k d (s.taken rest)).endStep) : s.refusedBy f rest c d := by
  obtain ⟨-, hs, -, hroom, -⟩ := ha
  have hlimit : Config.intakeLimit ≤ Config.transmitLimit := by decide
  rw [refuse_placed (s := s.taken rest) hl hp (Nat.lt_of_lt_of_le hroom hlimit)] at h
  refine ⟨_, _, h, by rw [State.endStep_noticed]; rfl, fun hn => ?_, fun cond hcond => ?_⟩
  · have hq : (reportDenial f k d (s.taken rest)).conditions = s.conditions := by
      simp only [reportDenial, hn]
      rfl
    have hcauses : (reportDenial f k d (s.taken rest)).conditions.causes = [] := by rw [hq]; exact hs
    refine ⟨?_, if_pos hcauses⟩
    rw [State.endStep_quiet]
    · exact hq
    · exact hcauses
  · refine State.raisesOne_endStep hs ?_ rfl
    simp only [reportDenial, hcond, hop, State.raiseAlone_eq]
    rfl

/-- A write-type control request that Admission refuses (R57, R73). -/
theorem writeControl_refusedBy {s : State} {f : Frame} {rest : List RxFrame} {c : Instr} {request : Nat}
    {act : Frame → Nat → State → State} {d : Denial} (ha : s.awaits f rest) (hk : f.kind = 6) (hc : f.code = request)
    (hl : s.ingestLink = .ready) (hj : judgeWriteControl s f (f.param 0) (f.param 1) = some d)
    (h : exec c s = .next (writeControlEvent request act s)) : s.refusedBy f rest c d := by
  have hjudge : judgeWriteControl (s.taken rest) f (f.param 0) (f.param 1) = some d := hj
  refine refusedBy_of_refuse (k := .control f.code) ha hl ?_ (by simp [Frame.opKind, hk, RequestKind.op]) ?_
  · exact (firstDenial_check1 hj).imp_right present_of_check1
  · rw [h, writeControlEvent, requestEvent_full request _ s f rest ha hk hc, hjudge]

end Sys2Proof.Machine

end

section
/-! PROOF. The control requests on zones and segments: SET ZONE, TRIGGER, EXTEND RETENTION and CLOSE. -/

namespace Sys2Proof.Machine

/-! ### A control request of an officer, carried out -/

/-- The Control Unit refuses a control request of an officer: the refusal is placed, and nothing else changes (R74). -/
theorem controlEvent_refused {s : State} {f : Frame} {rest : List RxFrame} {request : Nat}
    {act : Frame → State → State} {code : Code} {x : Option Nat} (h : s.officerAsks f rest request)
    (ha : act f (s.taken rest) = refuseControl f code x (s.taken rest)) :
    controlEvent request act s = s.answered rest (f.refusal code x) := by
  obtain ⟨⟨-, hs, -, hroom, -⟩, -, -, hl, hen, -, -⟩ := id h
  rw [refuseControl_answered s f rest code x hl hen hroom] at ha
  rw [controlEvent_taken request act s f rest h (by rw [ha]; exact hs), ha]

/-- The Control Unit refuses a write-type request on its real segment (R74). -/
theorem writeControlEvent_refused {s : State} {f : Frame} {rest : List RxFrame} {request n : Nat}
    {act : Frame → Nat → State → State} {code : Code} {x : Option Nat} (h : s.segmentAsked f rest request n)
    (ha : act f n (s.taken rest) = refuseControl f code x (s.taken rest)) :
    writeControlEvent request act s = s.answered rest (f.refusal code x) := by
  obtain ⟨⟨⟨-, hs, -, hroom, -⟩, -, -, hl, hen, -, -⟩, -⟩ := id h
  rw [refuseControl_answered s f rest code x hl hen hroom] at ha
  rw [writeControlEvent_taken request n act s f rest h (by rw [ha]; exact hs), ha]

/-- A reply joins the transmit queue of a state that differs from the taken one in its volumes and clock alone. -/
theorem answerControl_written {s : State} {f : Frame} {rest : List RxFrame} (volumes : Vector Volume 4) (clock : Clock)
    {status : Status} {words : List Nat} (hl : s.ingestLink = .ready)
    (hen : (s.initiator f.initiator).state = .enabled) (hroom : s.txQueue.length < Config.intakeLimit) :
    answerControl f status words { s.taken rest with volumes := volumes, clock := clock } =
      { s.answered rest (f.reply status words) with volumes := volumes, clock := clock } := by
  have hlimit : Config.intakeLimit ≤ Config.transmitLimit := by decide
  refine State.send_placed { s.taken rest with volumes := volumes, clock := clock }
    (controlReply f.initiator f.tag f.code status words) hl ?_ (Nat.lt_of_lt_of_le hroom hlimit)
  show (s.initiator f.initiator).state ≠ .absent
  rw [hen]
  decide

/-- A control request of an officer that is carried out and answered (R193). -/
theorem controlEvent_answered {s : State} {f : Frame} {rest : List RxFrame} {request : Nat}
    {act : Frame → State → State} (volumes : Vector Volume 4) (clock : Clock) {status : Status} {words : List Nat}
    (h : s.officerAsks f rest request)
    (ha : act f (s.taken rest) =
      answerControl f status words { s.taken rest with volumes := volumes, clock := clock }) :
    controlEvent request act s =
      { s.answered rest (f.reply status words) with volumes := volumes, clock := clock } := by
  obtain ⟨⟨-, hs, -, hroom, -⟩, -, -, hl, hen, -, -⟩ := id h
  rw [answerControl_written volumes clock hl hen hroom] at ha
  rw [controlEvent_taken request act s f rest h (by rw [ha]; exact hs), ha]

/-- A write-type request that is carried out and answered (R72, R193). -/
theorem writeControlEvent_answered {s : State} {f : Frame} {rest : List RxFrame} {request n : Nat}
    {act : Frame → Nat → State → State} (volumes : Vector Volume 4) (clock : Clock) {status : Status}
    {words : List Nat} (h : s.segmentAsked f rest request n)
    (ha : act f n (s.taken rest) =
      answerControl f status words { s.taken rest with volumes := volumes, clock := clock }) :
    writeControlEvent request act s =
      { s.answered rest (f.reply status words) with volumes := volumes, clock := clock } := by
  obtain ⟨⟨⟨-, hs, -, hroom, -⟩, -, -, hl, hen, -, -⟩, -⟩ := id h
  rw [answerControl_written volumes clock hl hen hroom] at ha
  rw [writeControlEvent_taken request n act s f rest h (by rw [ha]; exact hs), ha]

/-! ### SET ZONE (R26) -/

theorem badFlags_iff (a b : Nat) : (badFlag a || badFlag b) = true ↔ ¬ (a ≤ 1 ∧ b ≤ 1) := by
  simp only [badFlag, Bool.or_eq_true, decide_eq_true_eq]
  omega

theorem volumeNumber_iff (v : Nat) : (decide (v < 1) || decide (4 < v)) = true ↔ ¬ (1 ≤ v ∧ v ≤ 4) := by
  simp only [Bool.or_eq_true, decide_eq_true_eq]
  omega

/-- The judgement of a SET ZONE as a chain of its rows (R26). -/
theorem judgeSetZone_eq (s : State) (f : Frame) :
    judgeSetZone s f =
      if ¬ (f.param 2 ≤ 1 ∧ f.param 3 ≤ 1) then some .format
      else if ¬ (1 ≤ f.param 0 ∧ f.param 0 ≤ 4) then some .outOfRange
      else if (s.volume (f.param 0)).state = .absent then some .noVolume
      else if ceilDiv (s.volume (f.param 0)).count 4096 ≤ f.param 1 then some .outOfRange
      else none := by
  simp only [judgeSetZone, badFlags_iff, volumeNumber_iff, refuseWhen, decide_eq_true_eq]
  rfl

theorem actSetZone_refused {s : State} {f : Frame} {code : Code} (h : judgeSetZone s f = some code) :
    actSetZone f s = refuseControl f code none s := by
  simp only [actSetZone, h]

/-- A volume with the zone that a SET ZONE names written (R26). -/
def Volume.zoned (x : Volume) (f : Frame) : Volume :=
  { x with zones := x.zones.set (f.param 1) { writeInhibit := wordFlag (f.param 2), spanning := wordFlag (f.param 3) } }

theorem actSetZone_written {s : State} {f : Frame} (h : judgeSetZone s f = none) :
    actSetZone f s = answerControl f .done [] (s.setVolume (f.param 0) ((s.volume (f.param 0)).zoned f)) := by
  simp only [actSetZone, h]
  rfl

/-- Settles O28: each row of the judgement in turn, and the write of the one zone. -/
theorem setZoneWrites : Obligations.SetZoneWrites := by
  intro s f rest h
  have hrefused : ∀ code, judgeSetZone s f = some code →
      exec .setZone s = .next (s.answered rest (f.refusal code none)) := fun code hj =>
    congrArg Host.Outcome.next (controlEvent_refused h (actSetZone_refused (s := s.taken rest) hj))
  refine ⟨fun hf => ?_, fun hf hv => ?_, fun hf h1 h4 ha => ?_, fun hf h1 h4 ha hz => ?_, fun hf h1 h4 ha hz hlen => ?_⟩
  · exact hrefused _ (by rw [judgeSetZone_eq, if_pos hf])
  · exact hrefused _ (by rw [judgeSetZone_eq, if_neg (not_not.mpr hf), if_pos (by omega)])
  · exact hrefused _ (by rw [judgeSetZone_eq, if_neg (not_not.mpr hf), if_neg (not_not.mpr ⟨h1, h4⟩), if_pos ha])
  · exact hrefused _ (by
      rw [judgeSetZone_eq, if_neg (not_not.mpr hf), if_neg (not_not.mpr ⟨h1, h4⟩), if_neg ha, if_pos hz])
  · have hj : judgeSetZone s f = none := by
      rw [judgeSetZone_eq, if_neg (not_not.mpr hf), if_neg (not_not.mpr ⟨h1, h4⟩), if_neg ha,
        if_neg (Nat.not_le.mpr hz)]
    have hevent := controlEvent_answered _ s.clock h (actSetZone_written (s := s.taken rest) hj)
    refine ⟨_, congrArg Host.Outcome.next hevent, ?_⟩
    generalize hu : ({ s.answered rest (f.reply .done []) with volumes := _, clock := s.clock } : State) = t
    have hvolume : ∀ u, t.volume u = if u = f.param 0 then (s.volume (f.param 0)).zoned f else s.volume u := fun u =>
      State.volume_of_set1 ⟨h1, h4⟩ (by rw [← hu]; rfl) u
    have hzone : ∀ z, t.zone (f.param 0) z = ((s.volume (f.param 0)).zoned f).zones.getD z Zone.fresh := fun z => by
      rw [State.zone, hvolume, if_pos rfl]
    refine ⟨?_, fun z hz => ?_, fun u hu => ?_, ?_, ?_⟩
    · rw [hzone]
      simp [Volume.zoned, hlen, hz, wordFlag, List.getD]
    · rw [hzone]
      simp [Volume.zoned, State.zone, List.getD, Ne.symm hz]
    · rw [hvolume, if_neg hu]
    · rw [hvolume, if_pos rfl]
      rfl
    · rw [← hu]
      rfl

/-! ### TRIGGER (R45) -/

theorem State.running_iff (s : State) : s.running = true ↔ s.clock.state = .running := by simp [State.running]

/-- A TRIGGER of a segment in a state that takes one is judged by the segment's class entry (R45). -/
theorem actTrigger_of_entry {s : State} {f : Frame} {n : Nat} {e : ClassEntry} (hc : s.clock.state = .running)
    (hb : (s.segment (f.param 0) n).state ≠ .blank) (he : (s.segment (f.param 0) n).state ≠ .erasing)
    (hentry : s.entryOf (s.segment (f.param 0) n) = some e) :
    actTrigger f n s =
      if e.triggered = false then refuseControl f .classMismatch (some n) s
      else if (s.segment (f.param 0) n).triggerDay ≠ none then
        answerControl f .unchanged [optionWord (s.segment (f.param 0) n).expiry] s
      else recordTrigger f n e s := by
  simp [actTrigger, State.running, hc, hb, he, hentry, Option.isSome_iff_ne_none]

theorem stateAfterExpiry_eq (g : Segment) (expiry today : Nat) :
    stateAfterExpiry g expiry today = if g.state = .expired ∧ today < expiry then .closed else g.state := by
  simp [stateAfterExpiry]

theorem recordTrigger_opened {s : State} {f : Frame} {n : Nat} {e : ClassEntry}
    (hg : (s.segment (f.param 0) n).state = .opened) :
    recordTrigger f n e s =
      answerControl f (if s.today < f.param 2 then .clamped else .done) [4294967295]
        (s.putSegment (f.param 0) n
          { s.segment (f.param 0) n with triggerDay := some (min (f.param 2) s.today) }) := by
  simp only [recordTrigger, if_pos hg]
  rfl

/-- A TRIGGER recorded for a Closed or Expired segment moves its expiry to the later of the present one and R44's, and an
Expired one that is no longer due returns to Closed (R19, R45). -/
theorem recordTrigger_closed {s : State} {f : Frame} {n x : Nat} {e : ClassEntry}
    (hg : (s.segment (f.param 0) n).state = .closed ∨ (s.segment (f.param 0) n).state = .expired)
    (hx : e.expiry (s.segment (f.param 0) n).closeDay (some (min (f.param 2) s.today)) = some x) :
    recordTrigger f n e s =
      answerControl f (if s.today < f.param 2 then .clamped else .done)
        [max ((s.segment (f.param 0) n).expiry.getD 0) x]
        (s.putSegment (f.param 0) n
          { s.segment (f.param 0) n with
            triggerDay := some (min (f.param 2) s.today)
            expiry := some (max ((s.segment (f.param 0) n).expiry.getD 0) x)
            state :=
              if (s.segment (f.param 0) n).state = .expired ∧
                  s.today < max ((s.segment (f.param 0) n).expiry.getD 0) x
              then .closed else (s.segment (f.param 0) n).state }) := by
  have hopened : ¬ (s.segment (f.param 0) n).state = .opened := by rcases hg with hg | hg <;> simp [hg]
  simp only [recordTrigger, if_neg hopened, triggeredExpiry, hx, stateAfterExpiry_eq, Option.getD_some]

/-- Settles O30: each row of the table in turn, and a request that Admission refuses. -/
theorem triggerByRow : Obligations.TriggerByRow := by
  refine ⟨fun s f rest n h => ?_, fun s f rest d ha hk hc hl hj => writeControl_refusedBy ha hk hc hl hj rfl⟩
  have hrefused : ∀ code, actTrigger f n (s.taken rest) = refuseControl f code (some n) (s.taken rest) →
      exec .trigger s = .next (s.answered rest (f.refusal code (some n))) := fun code hact =>
    congrArg Host.Outcome.next (writeControlEvent_refused h hact)
  refine ⟨fun hc => hrefused _ ?_, fun hc hg => hrefused _ ?_, fun e hc hb he hentry => ?_⟩
  · exact if_pos (by simp [State.running, State.taken, hc])
  · have hg' : ((s.taken rest).segment (f.param 0) n).state = .blank ∨
        ((s.taken rest).segment (f.param 0) n).state = .erasing := hg
    have hc' : (s.taken rest).running = true := by simp [State.running, State.taken, hc]
    simp [actTrigger, hc', hg']
  · have hact := actTrigger_of_entry (s := s.taken rest) hc hb he hentry
    refine ⟨fun ht => hrefused _ ?_, fun ht hd => ?_, fun ht hd hg => ?_, fun x ht hd hg hx => ?_⟩
    · exact hact.trans (if_pos ht)
    · have hrow := (hact.trans (if_neg (Bool.not_eq_false _ ▸ ht))).trans (if_pos hd)
      exact congrArg Host.Outcome.next (writeControlEvent_answered s.volumes s.clock h hrow)
    · have hrow := (hact.trans (if_neg (Bool.not_eq_false _ ▸ ht))).trans (if_neg (not_not.mpr hd))
      have hwritten := hrow.trans (recordTrigger_opened (s := s.taken rest) hg)
      exact congrArg Host.Outcome.next (writeControlEvent_answered _ s.clock h hwritten)
    · have hrow := (hact.trans (if_neg (Bool.not_eq_false _ ▸ ht))).trans (if_neg (not_not.mpr hd))
      have hwritten := hrow.trans (recordTrigger_closed (s := s.taken rest) hg hx)
      exact congrArg Host.Outcome.next (writeControlEvent_answered _ s.clock h hwritten)

/-! ### EXTEND RETENTION (R46) -/

theorem extendTo_unchanged {s : State} {f : Frame} {n e : Nat} (h : f.param 2 ≤ e) :
    extendTo f n e s = answerControl f .unchanged [e, (s.segment (f.param 0) n).state.number] s := by
  simp only [extendTo, if_pos h]

theorem extendTo_later {s : State} {f : Frame} {n e : Nat} (h : e < f.param 2) :
    extendTo f n e s =
      answerControl f .done [f.param 2, (stateAfterExpiry (s.segment (f.param 0) n) (f.param 2) s.today).number]
        (s.putSegment (f.param 0) n
          { s.segment (f.param 0) n with
            expiry := some (f.param 2)
            state := stateAfterExpiry (s.segment (f.param 0) n) (f.param 2) s.today }) := by
  simp only [extendTo, if_neg (Nat.not_le.mpr h)]

/-- An EXTEND RETENTION within range is judged by the state of its segment, its expiry and the Clock (R46). -/
theorem actExtendRetention_of_expiry {s : State} {f : Frame} {n e : Nat} (hday : f.param 2 ≤ 1048575)
    (hg : (s.segment (f.param 0) n).state = .closed ∨ (s.segment (f.param 0) n).state = .expired)
    (he : (s.segment (f.param 0) n).expiry = some e) :
    actExtendRetention f n s =
      if (s.segment (f.param 0) n).state = .expired ∧ s.clock.state ≠ .running then
        refuseControl f .clockUnset (some n) s
      else extendTo f n e s := by
  rcases hg with hg | hg <;> simp [actExtendRetention, State.running, Nat.not_lt.mpr hday, hg, he]

/-- Settles O31: each row of the table in turn, and a request that Admission refuses. -/
theorem extendByRow : Obligations.ExtendByRow := by
  refine ⟨fun s f rest n h => ?_, fun s f rest d ha hk hc hl hj => writeControl_refusedBy ha hk hc hl hj rfl⟩
  have hrefused : ∀ code, actExtendRetention f n (s.taken rest) = refuseControl f code (some n) (s.taken rest) →
      exec .extendRetention s = .next (s.answered rest (f.refusal code (some n))) := fun code hact =>
    congrArg Host.Outcome.next (writeControlEvent_refused h hact)
  have hsame : (s.taken rest).segment (f.param 0) n = s.segment (f.param 0) n := rfl
  refine ⟨fun hday => hrefused _ ?_, fun hday hc he => hrefused _ ?_, fun hday hg he => hrefused _ ?_,
    fun e hday he => ?_⟩
  · exact if_pos hday
  · have hstate : (s.segment (f.param 0) n).state = .blank ∨ (s.segment (f.param 0) n).state = .opened ∨
        (s.segment (f.param 0) n).state = .erasing := by
      cases hx : (s.segment (f.param 0) n).state <;> simp_all
    rcases hstate with hx | hx | hx <;> simp [actExtendRetention, Nat.not_lt.mpr hday, hsame, hx]
  · rcases hg with hx | hx <;> simp [actExtendRetention, Nat.not_lt.mpr hday, hsame, hx, he]
  · have hact := fun hg => actExtendRetention_of_expiry (s := s.taken rest) hday hg he
    have hruns : (s.segment (f.param 0) n).state = .closed ∨
        ((s.segment (f.param 0) n).state = .expired ∧ s.clock.state = .running) →
        ¬ ((s.segment (f.param 0) n).state = .expired ∧ s.clock.state ≠ .running) := by
      rintro (hg | ⟨-, hc⟩) ⟨hx, hr⟩
      · exact SegmentState.noConfusion (hg.symm.trans hx)
      · exact hr hc
    refine ⟨fun hx hc => hrefused _ ?_, fun hg hle => ?_, fun hg hlt => ?_⟩
    · exact (hact (.inr hx)).trans (if_pos ⟨hx, fun hr => ClockState.noConfusion (hc.symm.trans hr)⟩)
    · have hrow := (hact (hg.imp_right And.left)).trans (if_neg (hruns hg))
      have hwritten := hrow.trans (extendTo_unchanged hle)
      exact congrArg Host.Outcome.next (writeControlEvent_answered s.volumes s.clock h hwritten)
    · have hrow := (hact (hg.imp_right And.left)).trans (if_neg (hruns hg))
      have hwritten := hrow.trans (extendTo_later hlt)
      rw [stateAfterExpiry_eq] at hwritten
      exact congrArg Host.Outcome.next (writeControlEvent_answered _ s.clock h hwritten)

/-! ### CLOSE (R17) -/

theorem State.closeSegment_opened {s : State} {v n : Nat} (g' : Segment → Segment)
    (h : (s.segment v n).state = .opened) :
    s.closeSegment v n g' =
      { s.putSegment v n (g' (s.closedSegment (s.segment v n))) with
        clock := { s.clock with mark := max s.clock.mark s.now } } := if_pos h

/-- A CLOSE as a chain of its rows (R17). -/
theorem actClose_eq (f : Frame) (n : Nat) (s : State) :
    actClose f n s =
      if (s.segment (f.param 0) n).state ≠ .opened then refuseControl f .stateDenied (some n) s
      else if (s.segment (f.param 0) n).writer ≠ none then refuseControl f .segmentBusy (some n) s
      else if (s.segment (f.param 0) n).cls = some 0 then refuseControl f .classMismatch (some n) s
      else if s.clock.state ≠ .running then refuseControl f .clockUnset (some n) s
      else
        answerControl f .done [s.today, secondOf s.now, optionWord (s.expiryAt (s.segment (f.param 0) n) s.today)]
          (s.closeSegment (f.param 0) n id) := by
  simp [actClose, State.running, Option.isSome_iff_ne_none]

/-- Settles O32: each row of the table in turn, and a request that Admission refuses. -/
theorem closeByRow : Obligations.CloseByRow := by
  refine ⟨fun s f rest n h => ?_, fun s f rest d ha hk hc hl hj => writeControl_refusedBy ha hk hc hl hj rfl⟩
  have hrefused : ∀ code, actClose f n (s.taken rest) = refuseControl f code (some n) (s.taken rest) →
      exec .closeSegment s = .next (s.answered rest (f.refusal code (some n))) := fun code hact =>
    congrArg Host.Outcome.next (writeControlEvent_refused h hact)
  have hact := actClose_eq f n (s.taken rest)
  refine ⟨fun hg => hrefused _ (hact.trans (if_pos hg)), fun hg hw => hrefused _ ?_, fun hg hw hcls => hrefused _ ?_,
    fun hg hw hcls hc => hrefused _ ?_, fun hg hw hcls hc => ?_⟩
  · exact (hact.trans (if_neg (not_not.mpr hg))).trans (if_pos hw)
  · exact ((hact.trans (if_neg (not_not.mpr hg))).trans (if_neg (not_not.mpr hw))).trans (if_pos hcls)
  · exact (((hact.trans (if_neg (not_not.mpr hg))).trans (if_neg (not_not.mpr hw))).trans (if_neg hcls)).trans
      (if_pos fun hr => ClockState.noConfusion (hc.symm.trans hr))
  · have hrow := (((hact.trans (if_neg (not_not.mpr hg))).trans (if_neg (not_not.mpr hw))).trans (if_neg hcls)).trans
      (if_neg (not_not.mpr hc))
    rw [State.closeSegment_opened (s := s.taken rest) id hg] at hrow
    have hevent := writeControlEvent_answered _ _ h hrow
    have hnow : (s.taken rest).now = s.clock.value := by
      show s.clock.now = _
      rw [Clock.now, hc]
    simp only [State.closedSegment, State.today, dayOf, hnow] at hevent
    exact congrArg Host.Outcome.next hevent

end Sys2Proof.Machine

end

section
/-! PROOF. One visit of the Expiry Sweeper. -/

namespace Sys2Proof.Machine

/-! ### The next volume of a pass (R127, R129) -/

theorem State.nextVolume_congr {s t : State} (h : ∀ u, (t.volume u).state = (s.volume u).state) (v : Nat) :
    t.nextVolume v = s.nextVolume v := by
  simp only [State.nextVolume, h]

theorem State.nextVolume_eq_none {s : State} {v : Nat}
    (h : ∀ u, v < u → 1 ≤ u → u ≤ 4 → (s.volume u).state = .absent) : s.nextVolume v = none := by
  refine List.find?_eq_none.mpr fun u hu => ?_
  have hrange : 1 ≤ u ∧ u ≤ 4 := by
    simp only [List.mem_cons, List.not_mem_nil, or_false] at hu
    omega
  by_cases hv : v < u
  · simp [h u hv hrange.1 hrange.2]
  · simp [hv]

/-- The volume found is the first above the present one that is not Absent. -/
theorem State.nextVolume_eq_some {s : State} {v u : Nat} (hv : v < u) (h1 : 1 ≤ u) (h4 : u ≤ 4)
    (hu : (s.volume u).state ≠ .absent)
    (hfirst : ∀ k, v < k → 1 ≤ k → k < u → (s.volume k).state = .absent) : s.nextVolume v = some u := by
  have hbelow : ∀ k, 1 ≤ k → k < u → (decide (v < k) && !decide ((s.volume k).state = .absent)) = false := by
    intro k hk hlt
    by_cases hvk : v < k
    · simp [hfirst k hvk hk hlt]
    · simp [hvk]
  have hhit : (decide (v < u) && !decide ((s.volume u).state = .absent)) = true := by simp [hv, hu]
  have hrange : u = 1 ∨ u = 2 ∨ u = 3 ∨ u = 4 := by omega
  unfold State.nextVolume
  rcases hrange with rfl | rfl | rfl | rfl
  · simp only [List.find?_cons, hhit]
  · simp only [List.find?_cons, hbelow 1 (by decide) (by decide), hhit]
  · simp only [List.find?_cons, hbelow 1 (by decide) (by decide), hbelow 2 (by decide) (by decide), hhit]
  · simp only [List.find?_cons, hbelow 1 (by decide) (by decide), hbelow 2 (by decide) (by decide),
      hbelow 3 (by decide) (by decide), hhit]

/-! ### A visit -/

theorem State.due_iff {s : State} {v n : Nat} (hc : s.clock.state = .running) :
    s.due v n = true ↔
      (s.segment v n).state = .closed ∧ (∃ e, (s.segment v n).expiry = some e ∧ e ≤ s.clock.value / 86400) ∧
        s.covered v n = false := by
  have htoday : s.today = s.clock.value / 86400 := by
    rw [State.today, State.now, Clock.now, hc]
    rfl
  unfold State.due
  dsimp only
  split
  · next e he => simp [he, htoday, and_assoc]
  · next he => simp [he]

/-- A visit keeps what the cursor's next place is read from. -/
theorem expireDue_passAfter (s : State) (v n : Nat) : (expireDue v n s).passAfter v n = s.passAfter v n := by
  have hrewrites : s.Rewrites Segment.Any (expireDue v n s) := by
    unfold expireDue
    split
    · exact .put (fun _ => trivial) s v n trivial
    · exact .of_volumes (fun _ => trivial) rfl
  have hstate : ∀ u, ((expireDue v n s).volume u).state = (s.volume u).state := fun u => by rw [(hrewrites u).own]
  rw [State.passAfter, State.passAfter, hrewrites.count v, State.passFrom, State.passFrom,
    State.nextVolume_congr hstate]

theorem sweepVisit_passing {s : State} {v n : Nat} (hs : s.sweeper.state = .passing v n)
    (hc : s.clock.state = .running) (hx : s.segmentExists v n = true) :
    sweepVisit s = (expireDue v n s).setSweep (s.passAfter v n) := by
  simp only [sweepVisit, hs, (s.running_iff).mpr hc, hx, expireDue_passAfter]
  rfl

theorem sweepVisit_leaving {s : State} {v n : Nat} (hc : s.clock.state = .running)
    (hs : s.sweeper.state = .leaving v ∨ (s.sweeper.state = .passing v n ∧ s.segmentExists v n = false)) :
    sweepVisit s = s.setSweep (s.passFrom v) := by
  have hr := (s.running_iff).mpr hc
  rcases hs with hs | ⟨hs, hx⟩
  · simp [sweepVisit, hs, hr]
  · simp [sweepVisit, hs, hr, hx]

/-- A Sweeper visit raises no condition, so its step makes no notice. -/
theorem sweeperVisit_quiet {s t : State} (ht : s.takesEvents = true) (hs : s.settled) (hv : sweepVisit s = t)
    (hc : t.conditions = s.conditions) : exec .sweeperVisit s = .next t := by
  have hq : (sweepVisit s).conditions.causes = [] := by
    rw [hv, hc]
    exact hs
  exact congrArg Host.Outcome.next ((onEvent_quiet s sweepVisit ht hq).trans hv)

/-- Settles O49: a visit by whether its segment is due, and a cursor that moves on to the next volume. -/
theorem sweeperVisits : Obligations.SweeperVisits := by
  refine ⟨fun s v n ht hs hp hc hx => ⟨fun hdue => ?_, fun hdue => ?_⟩,
    fun s v n ht hs hc hp => ⟨fun u hv h1 h4 hu hfirst => ?_, fun hnone => ?_⟩⟩
  · have hvisit := sweepVisit_passing hp hc hx
    rw [expireDue, if_pos ((State.due_iff hc).mpr hdue)] at hvisit
    exact sweeperVisit_quiet ht hs hvisit rfl
  · have hvisit := sweepVisit_passing hp hc hx
    rw [expireDue, if_neg fun h => hdue ((State.due_iff hc).mp h)] at hvisit
    exact sweeperVisit_quiet ht hs hvisit rfl
  · have hvisit := sweepVisit_leaving hc hp
    rw [State.passFrom, State.nextVolume_eq_some hv h1 h4 hu hfirst] at hvisit
    exact sweeperVisit_quiet ht hs hvisit rfl
  · have hvisit := sweepVisit_leaving hc hp
    rw [State.passFrom, State.nextVolume_eq_none hnone] at hvisit
    exact sweeperVisit_quiet ht hs hvisit rfl

end Sys2Proof.Machine

end

section
/-! PROOF. The values after reset. -/

namespace Sys2Proof.Machine

theorem Table.get_replicate {α : Type} (x : α) (n i : Nat) : Table.get x (Vector.replicate n x) i = x := by
  unfold Table.get
  by_cases h : i < n <;> simp [h]

theorem Table.get1_replicate {α : Type} (x : α) (n i : Nat) : Table.get1 x (Vector.replicate n x) i = x := by
  unfold Table.get1
  split
  · rfl
  · exact Table.get_replicate x n (i - 1)

theorem State.reset_initiator_zero : State.reset.initiator 0 = InitiatorEntry.first := rfl

theorem State.reset_initiator_other {i : Nat} (h : i ≠ 0) : (State.reset.initiator i).state = .absent := by
  by_cases hi : i < 32 <;> simp [State.initiator, State.reset, Table.get, hi, h.symm, InitiatorEntry.absent]

theorem State.reset_classEntry (c : Nat) :
    State.reset.classEntry c = if c < 2 then some ClassEntry.start else none := by
  have hcases : c = 0 ∨ c = 1 ∨ (2 ≤ c ∧ c < 64) ∨ 64 ≤ c := by omega
  rcases hcases with rfl | rfl | ⟨h2, h64⟩ | h64
  · rfl
  · rfl
  · have h0 : ¬ 0 = c := by omega
    have h1 : ¬ 1 = c := by omega
    simp [State.classEntry, State.reset, Table.get, h64, h0, h1, Nat.not_lt.mpr h2]
  · simp [State.classEntry, Table.get, Nat.not_lt.mpr h64]
    omega

/-- After reset every volatile block is at its start-up value. -/
theorem State.reset_startedFrom : State.reset.startedFrom State.reset :=
  ⟨⟨rfl, rfl, rfl, rfl, rfl⟩,
    ⟨fun c => Table.get_replicate _ 32 c, fun n => Table.get_replicate _ 16 n, fun r => Table.get1_replicate _ 4 r⟩,
    ⟨rfl, rfl, rfl, rfl⟩, ⟨rfl, rfl, rfl, rfl⟩, ⟨rfl, rfl, rfl, rfl, rfl, rfl, rfl, rfl⟩⟩

/-- Settles O3: each table read at every number, and the fields of the one reset state. -/
theorem resetValues : Obligations.ResetValues := by
  refine ⟨State.reset_initiator_zero, fun i hi => State.reset_initiator_other hi, fun v => ?_, State.reset_classEntry, rfl,
    fun h => Table.get1_replicate _ 64 h, rfl, rfl, rfl, rfl, rfl, rfl, State.reset_startedFrom, rfl, rfl, rfl, rfl, rfl,
    rfl, rfl, rfl, rfl, rfl, rfl, rfl⟩
  exact congrArg Volume.state (Table.get1_replicate Volume.absent 4 v)

end Sys2Proof.Machine

end

section
/-! PROOF. An admitted BEGIN. -/

namespace Sys2Proof.Machine

/-- Opening and reserving segments changes the volumes alone. -/
theorem State.begun_eq (s : State) (f : Frame) (n c : Nat) :
    s.begun f n c = { s with volumes := (s.begun f n c).volumes } := by
  unfold State.begun
  split <;> rfl

theorem State.freeContext_lt {s : State} {c : Nat} (h : s.freeContext = some c) : c < 32 :=
  List.mem_range.mp (List.mem_of_find?_eq_some h)

/-- The state of an admitted BEGIN before its start reply. -/
def State.writing (s : State) (f : Frame) (n c : Nat) : State :=
  (s.begun f n c).putWrite c (freshWrite s f n (startOffset s f n) (spans s f n))

theorem State.writing_eq (s : State) (f : Frame) (n c : Nat) :
    s.writing f n c =
      { s with volumes := (s.begun f n c).volumes, contexts := (s.writing f n c).contexts } := by
  unfold State.writing
  rw [State.begun_eq]
  rfl

/-- The event of an admitted BEGIN, with its start reply placed (R9, R10, R79). -/
theorem beginFrame_admitted {s : State} {f : Frame} {rest : List RxFrame} {c : Nat} (ha : s.awaits f rest)
    (hk : f.kind = 1) (hl : s.ingestLink = .ready) (hw : s.canonical) (hj : judgeBegin s f = none)
    (hc : s.freeContext = some c) :
    let n := (s.initiator f.initiator).relocate f.volume f.segment
    exec .beginFrame s =
      .next
        { (s.taken rest).writing f n c with
          txQueue := s.txQueue ++ [startFrame f n (startOffset s f n) (spans s f n)] } := by
  intro n
  obtain ⟨hen, hn, -, -⟩ := judgeBegin_none hj
  obtain ⟨-, hs, -, hroom, -⟩ := id ha
  have hlimit : Config.intakeLimit ≤ Config.transmitLimit := by decide
  have hjudge : judgeBegin (s.taken rest) f = none := hj
  have hfree : (s.taken rest).freeContext = some c := hc
  have hwriting := State.writing_eq (s.taken rest) f n c
  have hpresent : (((s.taken rest).writing f n c).initiator f.initiator).state ≠ .absent := by
    rw [hwriting]
    show (s.initiator f.initiator).state ≠ .absent
    rw [hen]
    decide
  have hact : takeBegin f (s.taken rest) =
      { (s.taken rest).writing f n c with
        txQueue := ((s.taken rest).writing f n c).txQueue ++ [startFrame f n (startOffset s f n) (spans s f n)] } := by
    simp only [takeBegin, hjudge, hfree]
    rw [admittedBegin_eq (s := s.taken rest) hw hn]
    exact State.send_placed ((s.taken rest).writing f n c) (startFrame f n (startOffset s f n) (spans s f n))
      (by rw [hwriting]; exact hl) hpresent (by rw [hwriting]; exact Nat.lt_of_lt_of_le hroom hlimit)
  have hq : (takeBegin f (s.taken rest)).conditions.causes = [] := by
    rw [hact, hwriting]
    exact hs
  have htx : ((s.taken rest).writing f n c).txQueue = s.txQueue := by rw [hwriting]; rfl
  rw [htx] at hact
  exact congrArg Host.Outcome.next ((frameEvent_taken 1 takeBegin s f rest ha hk hq).trans hact)

/-- Settles O17: the context of the transfer, and each descriptor of the Map once its segments are opened. -/
theorem beginOpensTransfer : Obligations.BeginOpensTransfer := by
  intro s f rest c ha hk hl hw hj hc e n g start spanned
  obtain ⟨-, hn, -, h8⟩ := judgeBegin_none hj
  have hsegment := begun_segment (s := s.taken rest) (c := c) hw hn h8
  have hnamed := hsegment f.volume n
  rw [if_pos ⟨rfl, rfl⟩] at hnamed
  have hnamed' : namedAfter (s.taken rest) f n c =
      if g.state = .blank then
        { Segment.fresh with
          state := .opened, cls := some f.cls, key := some e.key, generation := g.generation,
          holdCount := s.holdCountAt f.volume n f.cls, writer := some c }
      else { g with writer := some c } := rfl
  refine ⟨_, freshWrite s f n start spanned, beginFrame_admitted ha hk hl hw hj hc, ?_,
    ⟨rfl, rfl, rfl, rfl, rfl, rfl, rfl, rfl, rfl, rfl, rfl, rfl, rfl, rfl, rfl, rfl⟩, fun d hd => ?_, hnamed.trans hnamed',
    fun hsp => ?_, fun m hm hm' => ?_, fun v m hv => ?_, ?_⟩
  · exact State.setContext_context_same _ c _ (State.freeContext_lt hc)
  · refine (State.setContext_context_other _ c d _ hd).trans ?_
    rw [State.begun_eq]
    rfl
  · have hspans : spans (s.taken rest) f n = true := hsp
    have hnext := hsegment f.volume (n + 1)
    rw [if_neg fun h => Nat.succ_ne_self n h.2, if_pos ⟨rfl, rfl, hspans⟩, reservedAfter, ← hnamed] at hnext
    exact hnext
  · have hother : ¬ (f.volume = f.volume ∧ m = n + 1 ∧ spans (s.taken rest) f n = true) := fun h => hm' h.2.2 h.2.1
    refine (hsegment f.volume m).trans ?_
    rw [if_neg fun h => hm h.2, if_neg hother]
    rfl
  · refine (hsegment v m).trans ?_
    rw [if_neg fun h => hv h.1, if_neg fun h => hv h.1]
    rfl
  · rw [State.writing_eq]
    rfl

end Sys2Proof.Machine

end

section
/-! PROOF. The start-up of the engine: its conditions, its notice, and the Map and erase queue set right. -/

namespace Sys2Proof.Machine

/-! ### The conditions of a start-up (R181) -/

/-- The notice causes of a start-up: at most one for each of the two groups (R178, R181). -/
def startUpCauses (unset clamped discarded : Bool) (enables : GroupSet) : List Cause :=
  (if (unset || clamped) && enables.has .clock then
    [.groupSet .clock (if unset then .clockUnset else .clockClamped) (engineOp .startUp)]
  else []) ++
    (if discarded && enables.has .integrity then [.groupSet .integrity .faultDiscarded (engineOp .startUp)] else [])

/-- The Condition Unit once the start-up conditions are raised and their operation has completed (R174, R181). -/
def Conditions.started (c : Conditions) (unset clamped discarded : Bool) (time : Nat) : Conditions :=
  { c with
    accrued := startUpSet unset clamped discarded
    last :=
      if startUpSet unset clamped discarded = 0#18 then none
      else some { op := engineOp .startUp, outcome := startUpSet unset clamped discarded, time := time }
    noticeNumber := 0
    causes := startUpCauses unset clamped discarded c.enables }

theorem startUpConditions_set (unset clamped discarded : Bool) :
    (startUpConditions unset clamped discarded).foldl CondSet.insert 0#18 = startUpSet unset clamped discarded := by
  cases unset <;> cases clamped <;> cases discarded <;> rfl

theorem startUpSet_clock (unset clamped discarded : Bool) :
    decide (startUpSet unset clamped discarded &&& Group.clock.members ≠ 0#18) = (unset || clamped) := by
  cases unset <;> cases clamped <;> cases discarded <;> decide

/-- A condition raised changes its flag and, when its group goes from clear to set with its enable yes, the causes. -/
theorem State.raise_eq (s : State) (op : Operation) (c : Cond) :
    s.raise op c =
      { s with
        conditions :=
          { s.conditions with
            accrued := s.conditions.accrued ||| c.bit
            causes := s.conditions.causes ++
              if s.conditions.accrued.groupSet c.group = false ∧ s.conditions.enables.has c.group = true
              then [.groupSet c.group c op] else [] } } := by
  simp only [State.raise, Bool.and_eq_true, Bool.not_eq_true']
  split <;> simp

/-- A state with some of the start-up conditions raised, in a Condition Unit that has started again. -/
def State.raisedSome (s : State) (unset clamped discarded : Bool) : State :=
  { s with
    conditions :=
      { s.conditions with
        accrued := startUpSet unset clamped discarded
        causes := startUpCauses unset clamped discarded s.conditions.enables } }

theorem startUpSet_groupSet_clock (unset : Bool) : (startUpSet unset false false).groupSet .clock = unset := by
  cases unset <;> decide

theorem startUpSet_groupSet_integrity (unset clamped : Bool) :
    (startUpSet unset clamped false).groupSet .integrity = false := by
  cases unset <;> cases clamped <;> decide

theorem startUpSet_clamped (unset : Bool) :
    startUpSet unset false false ||| Cond.clockClamped.bit = startUpSet unset true false := by
  cases unset <;> rfl

theorem startUpSet_discarded (unset clamped : Bool) :
    startUpSet unset clamped false ||| Cond.faultDiscarded.bit = startUpSet unset clamped true := by
  cases unset <;> cases clamped <;> rfl

theorem State.raisedSome_unset (s : State) :
    (s.raisedSome false false false).raise (engineOp .startUp) .clockUnset = s.raisedSome true false false := by
  have ha : startUpSet false false false ||| Cond.clockUnset.bit = startUpSet true false false := rfl
  simp [State.raise_eq, State.raisedSome, startUpCauses, startUpSet_groupSet_clock, ha, Cond.group]

/-- CLOCK_CLAMPED after CLOCK_UNSET finds its group set, and is no cause of its own. -/
theorem State.raisedSome_clamped (s : State) (unset : Bool) :
    (s.raisedSome unset false false).raise (engineOp .startUp) .clockClamped = s.raisedSome unset true false := by
  have hg : (startUpSet unset false false).groupSet Cond.clockClamped.group = unset := startUpSet_groupSet_clock unset
  simp only [State.raise_eq, State.raisedSome, startUpSet_clamped, hg]
  cases unset <;> simp [startUpCauses, Cond.group]

theorem State.raisedSome_discarded (s : State) (unset clamped : Bool) :
    (s.raisedSome unset clamped false).raise (engineOp .startUp) .faultDiscarded = s.raisedSome unset clamped true := by
  simp [State.raise_eq, State.raisedSome, startUpSet_discarded, startUpSet_groupSet_integrity, startUpCauses, Cond.group]

/-- The start-up conditions raised one after the other. -/
theorem raiseAll_startUp (unset clamped discarded : Bool) (s : State) :
    (startUpConditions unset clamped discarded).foldl (fun s c => s.raise (engineOp .startUp) c)
      (s.raisedSome false false false) = s.raisedSome unset clamped discarded := by
  simp only [startUpConditions, List.foldl_append]
  have hunset : (if unset then [Cond.clockUnset] else []).foldl (fun s c => s.raise (engineOp .startUp) c)
      (s.raisedSome false false false) = s.raisedSome unset false false := by
    cases unset
    · rfl
    · exact s.raisedSome_unset
  have hclamped : (if clamped then [Cond.clockClamped] else []).foldl (fun s c => s.raise (engineOp .startUp) c)
      (s.raisedSome unset false false) = s.raisedSome unset clamped false := by
    cases clamped
    · rfl
    · exact s.raisedSome_clamped unset
  rw [hunset, hclamped]
  cases discarded
  · rfl
  · exact s.raisedSome_discarded unset clamped

/-- What raising the start-up conditions does to a Condition Unit that has started again. -/
theorem raiseStartUp_eq (unset clamped discarded : Bool) {s : State} {c : Conditions} (hc : s.conditions = c.restart) :
    raiseStartUp (startUpConditions unset clamped discarded) s =
      { s with conditions := c.started unset clamped discarded s.now } := by
  unfold raiseStartUp State.complete
  have hs : s = s.raisedSome false false false := by
    have hstart : s.conditions =
        { s.conditions with
          accrued := startUpSet false false false
          causes := startUpCauses false false false s.conditions.enables } := by
      rw [hc]
      rfl
    rw [State.raisedSome, ← hstart]
  rw [startUpConditions_set, hs, raiseAll_startUp unset clamped discarded, State.raisedSome, hc]
  unfold Conditions.started
  split <;> rfl

/-- The start-up in one equation: every block stands as it starts up, and the Condition Unit has made its notice. -/
theorem startUp_eq (clamped discarded : Bool) (s : State) :
    startUp clamped discarded s =
      { s.dropVolatile.rebuildErases with
        conditions := s.conditions.started (!s.running) clamped discarded s.now }.endStep := by
  unfold startUp
  rw [raiseStartUp_eq (!s.running) clamped discarded (c := s.conditions) rfl]
  rfl

theorem startUpCauses_eq_nil (unset clamped discarded : Bool) (enables : GroupSet) :
    startUpCauses unset clamped discarded enables = [] ↔
      (((unset || clamped) && enables.has .clock) || (discarded && enables.has .integrity)) = false := by
  unfold startUpCauses
  rw [List.append_eq_nil_iff]
  cases (unset || clamped) && enables.has .clock <;> cases discarded && enables.has .integrity <;> simp

theorem State.notices_of_empty {s : State} (h : s.txQueue = []) :
    s.notices.length =
      if s.conditions.causes = [] then 0 else if s.present s.conditions.noticeInitiator then 1 else 0 := by
  have hroom : s.txRoom = true := by
    rw [State.txRoom, h]
    rfl
  unfold State.notices
  rw [hroom, Bool.and_true]
  split
  · rfl
  · split <;> rfl

/-- What the Condition Unit holds after a start-up, and the one notice in the transmit queue (R178, R179, R181). -/
theorem startUp_reports (clamped discarded : Bool) (s : State) :
    let t := startUp clamped discarded s
    let set := startUpSet (!s.running) clamped discarded
    let fires := ((!s.running || clamped) && s.conditions.enables.has .clock) ||
      (discarded && s.conditions.enables.has .integrity)
    t.conditions.accrued = set ∧
    t.conditions.last =
      (if set = 0#18 then none
       else some { op := { initiator := none, tag := none, kind := .startUp }, outcome := set, time := s.now }) ∧
    t.conditions.noticeNumber = (if fires then 1 else 0) ∧
    t.txQueue.length = (if fires && s.present s.conditions.noticeInitiator then 1 else 0) := by
  intro t set fires
  have ht : t = _ := startUp_eq clamped discarded s
  have hcauses : startUpCauses (!s.running) clamped discarded s.conditions.enables = [] ↔ fires = false :=
    startUpCauses_eq_nil (!s.running) clamped discarded s.conditions.enables
  rw [State.endStep_noticed] at ht
  refine ⟨by rw [ht]; rfl, by rw [ht]; rfl, ?_, ?_⟩
  · have hnumber : t.conditions.noticeNumber =
        if startUpCauses (!s.running) clamped discarded s.conditions.enables = [] then 0 else 1 := by
      rw [ht]
      rfl
    rw [hnumber]
    simp only [hcauses]
    cases fires <;> rfl
  · have hqueue : t.txQueue.length =
        if startUpCauses (!s.running) clamped discarded s.conditions.enables = [] then 0
        else if s.present s.conditions.noticeInitiator then 1 else 0 := by
      rw [ht]
      show ([] ++ State.notices _).length = _
      exact State.notices_of_empty rfl
    rw [hqueue]
    simp only [hcauses]
    cases fires <;> rfl

theorem State.not_running (s : State) : (!s.running) = decide (s.clock.state = .unset) := by
  cases h : s.clock.state <;> simp [State.running, h]

/-- The values of a start-up, read from the state after it. -/
theorem startUp_values (clamped discarded : Bool) (s : State) :
    let t := startUp clamped discarded s
    let set := startUpSet (decide (t.clock.state = .unset)) clamped discarded
    let fires := (decide (set &&& Group.clock.members ≠ 0#18) && s.conditions.enables.has .clock) ||
      (discarded && s.conditions.enables.has .integrity)
    t.conditions.accrued = set ∧
    t.conditions.last =
      (if set = 0#18 then none
       else some { op := { initiator := none, tag := none, kind := .startUp }, outcome := set, time := t.now }) ∧
    t.conditions.noticeNumber = (if fires then 1 else 0) ∧
    t.txQueue.length = (if fires && s.present s.conditions.noticeInitiator then 1 else 0) := by
  intro t set fires
  have hclock : t.clock = s.clock := by
    show (startUp clamped discarded s).clock = _
    rw [startUp_eq, State.endStep_noticed]
    rfl
  have hset : set = startUpSet (!s.running) clamped discarded := by
    show startUpSet (decide (t.clock.state = .unset)) clamped discarded = _
    rw [hclock, State.not_running]
  have hfires : fires = (((!s.running || clamped) && s.conditions.enables.has .clock) ||
      (discarded && s.conditions.enables.has .integrity)) := by
    show ((decide (set &&& _ ≠ 0#18) && _) || _) = _
    rw [hset, startUpSet_clock]
  have hnow : t.now = s.now := by rw [State.now, hclock, State.now]
  rw [hset, hfires, hnow]
  exact startUp_reports clamped discarded s

/-! ### The Map set right and the erase queue rebuilt (R27, R134) -/

theorem startUp_volume (clamped discarded : Bool) (s : State) (v : Nat) :
    (startUp clamped discarded s).volume v = (s.volume v).setRight := by
  rw [startUp_eq, State.volume_congr (State.endStep_volumes _)]
  exact s.dropVolatile_volume v

theorem Volume.setRight_get {x : Volume} (hw : Sparse.wf Segment.fresh x.segments = true) (n : Nat) :
    Sparse.get Segment.fresh x.setRight.segments n = (Sparse.get Segment.fresh x.segments n).setRight :=
  Sparse.get_map Segment.fresh Segment.setRight x.segments n 0 rfl hw

theorem startUp_mapSetRight {s : State} (hw : s.canonical) (clamped discarded : Bool) :
    s.mapSetRight (startUp clamped discarded s) := by
  intro v
  have hv := startUp_volume clamped discarded s v
  refine ⟨by rw [hv]; exact ⟨rfl, rfl, rfl, rfl, rfl, rfl⟩, fun n => ?_⟩
  rw [State.segment, hv]
  exact Volume.setRight_get (hw v) n

/-- The numbers of a canonical table rise strictly. -/
theorem Sparse.pairwise_lt (d : Segment) {l : List (Nat × Segment)} {b : Nat} (h : Sparse.wfAbove d b l = true) :
    l.Pairwise (fun x y => x.1 < y.1) := by
  induction l generalizing b with
  | nil => exact .nil
  | cons e rest ih =>
    simp only [Sparse.wfAbove, Bool.and_eq_true] at h
    exact List.pairwise_cons.mpr ⟨fun y hy => Sparse.le_of_mem d h.2 hy, ih h.2⟩

/-- The erase entries of a volume name its Erasing segments, in ascending order. -/
theorem mem_erasesOf {s : State} (hw : s.canonical) {v : Nat} {e : EraseEntry} :
    e ∈ erasesOf s v ↔ ∃ n, e = waitingErase v n none ∧ (s.segment v n).state = .erasing := by
  simp only [erasesOf, List.mem_map, List.mem_filter, decide_eq_true_eq]
  constructor
  · rintro ⟨⟨n, g⟩, ⟨hmem, hg⟩, rfl⟩
    refine ⟨n, rfl, ?_⟩
    rw [State.segment, Sparse.get_of_mem Segment.fresh (hw v) hmem]
    exact hg
  · rintro ⟨n, rfl, hg⟩
    refine ⟨(n, s.segment v n), ⟨Sparse.mem_of_get_ne Segment.fresh fun h => ?_, hg⟩, rfl⟩
    rw [State.segment, h] at hg
    cases hg

theorem erasesOf_pairwise {s : State} (hw : s.canonical) (v : Nat) :
    (erasesOf s v).Pairwise (fun a b => a.volume = b.volume ∧ a.segment < b.segment) := by
  unfold erasesOf
  rw [List.pairwise_map]
  exact ((Sparse.pairwise_lt Segment.fresh (hw v)).filter _).imp fun h => ⟨rfl, h⟩

theorem startUp_erases (clamped discarded : Bool) (s : State) :
    (startUp clamped discarded s).eraseQueue = [1, 2, 3, 4].flatMap (erasesOf s.dropVolatile) ∧
      (startUp clamped discarded s).arbiter.erase =
        ([1, 2, 3, 4].flatMap (erasesOf s.dropVolatile)).map EraseEntry.request := by
  rw [startUp_eq, State.endStep_noticed]
  exact ⟨rfl, rfl⟩

theorem dropVolatile_canonical {s : State} (hw : s.canonical) : s.dropVolatile.canonical := fun v => by
  rw [s.dropVolatile_volume]
  exact Sparse.map_wf Segment.fresh Segment.setRight _ (hw v)

theorem dropVolatile_segment {s : State} (hw : s.canonical) (v n : Nat) :
    s.dropVolatile.segment v n = (s.segment v n).setRight := by
  rw [State.segment, s.dropVolatile_volume]
  exact Volume.setRight_get (hw v) n

/-- The rebuilt queue names exactly the Erasing segments, each once, by volume and then by number. -/
theorem startUp_erasesRebuilt {s : State} (hw : s.canonical) (clamped discarded : Bool) :
    s.erasesRebuilt (startUp clamped discarded s) := by
  obtain ⟨hqueue, hasks⟩ := startUp_erases clamped discarded s
  have hmem : ∀ e, e ∈ [1, 2, 3, 4].flatMap (erasesOf s.dropVolatile) ↔
      ∃ v n, (1 ≤ v ∧ v ≤ 4) ∧ e = waitingErase v n none ∧ (s.segment v n).state = .erasing := fun e => by
    have hvolumes : ∀ v : Nat, v ∈ [1, 2, 3, 4] ↔ 1 ≤ v ∧ v ≤ 4 := fun v => by
      simp only [List.mem_cons, List.not_mem_nil, or_false]
      omega
    simp only [List.mem_flatMap, hvolumes, mem_erasesOf (dropVolatile_canonical hw), dropVolatile_segment hw]
    constructor
    · rintro ⟨v, hv, n, he, hg⟩
      exact ⟨v, n, hv, he, hg⟩
    · rintro ⟨v, n, hv, he, hg⟩
      exact ⟨v, hv, n, he, hg⟩
  unfold State.erasesRebuilt
  rw [hqueue, hasks]
  refine ⟨rfl, fun e he => ?_, fun v n => ⟨?_, fun hg => ?_⟩, ?_⟩
  · obtain ⟨v, n, -, rfl, -⟩ := (hmem e).mp he
    exact ⟨rfl, rfl, rfl⟩
  · rintro ⟨e, he, rfl, rfl⟩
    obtain ⟨v, n, -, rfl, hg⟩ := (hmem e).mp he
    exact hg
  · have hv : 1 ≤ v ∧ v ≤ 4 := by
      by_contra hv
      rw [State.segment, State.volume_outside s hv] at hg
      cases hg
    exact ⟨waitingErase v n none, (hmem _).mpr ⟨v, n, hv, rfl, hg⟩, rfl, rfl⟩
  · rw [List.pairwise_flatMap]
    refine ⟨fun v _ => (erasesOf_pairwise (dropVolatile_canonical hw) v).imp Or.inr, ?_⟩
    have hvolume : ∀ {v e}, e ∈ erasesOf s.dropVolatile v → e.volume = v := fun he => by
      obtain ⟨n, rfl, -⟩ := (mem_erasesOf (dropVolatile_canonical hw)).mp he
      rfl
    have hrise : [1, 2, 3, 4].Pairwise (fun a b : Nat => a < b) := by decide
    exact hrise.imp fun hab x hx y hy => .inl (by rw [hvolume hx, hvolume hy]; exact hab)

/-- Settles O5: power-on, the release of the reset line and a RESTART are start-ups. -/
theorem startUpSetsRight : Obligations.StartUpSetsRight := by
  refine ⟨fun c s t h hc => ?_, fun c s t h hc hw => ?_, fun s f rest h => ?_⟩
  · rcases hc with rfl | ⟨rfl, hp⟩
    · injection h with h; subst h
      exact startUp_values s.clock.behind s.anyFaultPending
        { s with mainPower := true, backupSupply := true, clock := s.clock.powered }
    · injection h with h; subst h
      rw [if_pos hp]
      exact startUp_values false s.anyFaultPending { s with resetHeld := false }
  · rcases hc with rfl | ⟨rfl, hp⟩
    · injection h with h; subst h
      exact ⟨startUp_mapSetRight (s := { s with mainPower := true, backupSupply := true, clock := s.clock.powered }) hw _ _,
        startUp_erasesRebuilt (s := { s with mainPower := true, backupSupply := true, clock := s.clock.powered }) hw _ _⟩
    · injection h with h; subst h
      rw [if_pos hp]
      exact ⟨startUp_mapSetRight (s := { s with resetHeld := false }) hw _ _,
        startUp_erasesRebuilt (s := { s with resetHeld := false }) hw _ _⟩
  · obtain ⟨hawaits, hk, hc, -, hen, ho, htag⟩ := h
    have hj : judgeControl (s.taken rest) f none none = none := judgeControl_passes _ f none none hen ho htag
    have hact : takeRestart f (s.taken rest) = restart (s.taken rest) := by
      simp only [takeRestart, hj]
    have hquiet : (restart (s.taken rest)).conditions.causes = [] := by
      rw [restart, startUp_eq]
      exact State.endStep_causes _
    have hevent := requestEvent_taken 22 takeRestart s f rest hawaits hk hc (by rw [hact]; exact hquiet)
    have hreports := startUp_reports false (s.taken rest).anyFaultPending (s.taken rest)
    rw [State.not_running, Bool.or_false] at hreports
    refine ⟨_, congrArg Host.Outcome.next (hevent.trans hact), fun hw => ⟨?_, ?_⟩, hreports⟩
    · exact startUp_mapSetRight (s := s.taken rest) hw _ _
    · exact startUp_erasesRebuilt (s := s.taken rest) hw _ _

end Sys2Proof.Machine

end

section
/-! PROOF. The shelf's answer to an erase. -/

namespace Sys2Proof.Machine

/-! ### The end of an erase (R21, R22, R132) -/

/-- The state once an erase has left the queue with its segment rewritten and its requester answered. -/
def State.eraseEnded (u : State) (e : EraseEntry) (queue : List EraseEntry) (x : Segment) (frames : List Frame) :
    State :=
  { u.putSegment e.volume e.segment x with eraseQueue := queue, txQueue := u.txQueue ++ frames }

/-- The condition that the end of an erase raises, if any. -/
def State.raiseAny (s : State) (op : Operation) : Option Cond → State
  | some c => s.raiseAlone op c
  | none => s

/-- An entry of the erase queue that no other entry shares its segment with: without it the queue is the rest. -/
theorem removeErase_queue {before after : List EraseEntry} {e : EraseEntry}
    (h : ∀ x ∈ before ++ after, ¬ (x.volume = e.volume ∧ x.segment = e.segment)) :
    (before ++ e :: after).filter (fun x => !(decide (x.volume = e.volume) && decide (x.segment = e.segment))) =
      before ++ after := by
  have hkeep : ∀ l : List EraseEntry, (∀ x ∈ l, x ∈ before ++ after) →
      l.filter (fun x => !(decide (x.volume = e.volume) && decide (x.segment = e.segment))) = l := fun l hl =>
    List.filter_eq_self.mpr fun x hx => by
      simp only [Bool.not_eq_true', Bool.and_eq_false_iff, decide_eq_false_iff_not]
      exact not_and_or.mp (h x (hl x hx))
  rw [List.filter_append, List.filter_cons_of_neg (by simp), hkeep before fun x hx => List.mem_append_left _ hx,
    hkeep after fun x hx => List.mem_append_right _ hx]

theorem eraseOfTag_eq {s : State} {before after : List EraseEntry} {e : EraseEntry} {tag : Nat}
    (hq : s.eraseQueue = before ++ e :: after) (he : e.mediaTag = some tag)
    (h : ∀ x ∈ before ++ after, x.mediaTag ≠ some tag) : s.eraseOfTag tag = some e := by
  rw [State.eraseOfTag, hq, List.find?_append, List.find?_eq_none.mpr, Option.none_or,
    List.find?_cons_of_pos (by simpa using he)]
  intro x hx
  simpa using h x (List.mem_append_left _ hx)

/-- The answer to a requester that waits (R132). -/
def State.sendTo (s : State) (requester : Option (Nat × Nat)) (reply : Nat × Nat → Frame) : State :=
  match requester with
  | some p => s.send (reply p)
  | none => s

theorem State.sendTo_placed {s : State} {requester : Option (Nat × Nat)} {reply : Nat × Nat → Frame}
    (hinit : ∀ p, (reply p).initiator = p.1) (hl : s.ingestLink = .ready)
    (hp : ∀ p, requester = some p → (s.initiator p.1).state ≠ .absent) (hr : s.txQueue.length < 2048) :
    s.sendTo requester reply = { s with txQueue := s.txQueue ++ (requester.map reply).toList } := by
  cases requester with
  | none => simp [State.sendTo]
  | some p => exact State.send_placed s (reply p) hl (by rw [hinit]; exact hp p rfl) hr

theorem eraseDone_sendTo (e : EraseEntry) (soft : Bool) (s : State) :
    eraseDone e soft s =
      ((removeErase e (s.leaveErasing e Segment.erased)).sendTo e.requester
        (fun p => eraseDoneFrame e p.1 p.2 (s.segment e.volume e.segment).erased.generation)).raiseAny e.op
        (if soft then some .mediaSoft else none) := by
  unfold eraseDone State.sendTo
  cases soft <;> cases e.requester <;> rfl

theorem eraseFails_sendTo (e : EraseEntry) (s : State) :
    eraseFails e s =
      ((removeErase e (s.leaveErasing e (fun g => { g with state := .expired }))).sendTo e.requester
        (fun p => refusedFrame p.1 p.2 e.volume .eraseFailed false 0 (some e.segment) none)).raiseAny e.op
        (some .eraseFailed) := by
  unfold eraseFails State.sendTo
  cases e.requester <;> rfl

/-- An entry leaves the queue, its Erasing segment is rewritten by f, and its requester is answered. -/
theorem eraseEnded_eq {u : State} {before after : List EraseEntry} {e : EraseEntry} {f : Segment → Segment}
    {reply : Nat × Nat → Frame} (hq : u.eraseQueue = before ++ e :: after)
    (hother : ∀ x ∈ before ++ after, ¬ (x.volume = e.volume ∧ x.segment = e.segment))
    (hst : (u.segment e.volume e.segment).state = .erasing) (hinit : ∀ p, (reply p).initiator = p.1)
    (hl : u.ingestLink = .ready) (hp : ∀ p, e.requester = some p → (u.initiator p.1).state ≠ .absent)
    (hr : u.txQueue.length < 2048) :
    (removeErase e (u.leaveErasing e f)).sendTo e.requester reply =
      u.eraseEnded e (before ++ after) (f (u.segment e.volume e.segment)) (e.requester.map reply).toList := by
  have hremoved : removeErase e (u.leaveErasing e f) =
      { u.putSegment e.volume e.segment (f (u.segment e.volume e.segment)) with eraseQueue := before ++ after } := by
    rw [State.leaveErasing, if_pos hst, removeErase]
    simp only [State.putSegment_eraseQueue, hq, removeErase_queue hother]
  rw [hremoved]
  exact State.sendTo_placed hinit hl hp hr

/-- The Condition Unit after the end of an erase, and the frames in the transmit queue. -/
theorem raiseAny_endStep {u : State} (hs : u.settled) (op : Operation) (o : Option Cond) :
    let t := (u.raiseAny op o).endStep
    let raised := o.elim 0#18 Cond.bit
    t.conditions.accrued = u.conditions.accrued ||| raised ∧ u.reports t op raised ∧
      ∃ notices : List Frame, t.txQueue = u.txQueue ++ notices ∧ notices.length ≤ 1 ∧
        t = { u with txQueue := t.txQueue, conditions := t.conditions } := by
  intro t raised
  cases o with
  | none =>
    have ht : t = u := State.endStep_quiet u hs
    rw [ht]
    exact ⟨BitVec.or_zero.symm, rfl, [], (List.append_nil _).symm, Nat.zero_le _, rfl⟩
  | some c =>
    have ht : t = _ := State.endStep_noticed (u.raiseAlone op c)
    rw [State.raiseAlone_eq] at ht
    have hcauses : u.conditions.causes = [] := hs
    have hunit : t.conditions =
        { u.conditions with
          accrued := t.conditions.accrued
          last := some { op := op, outcome := c.bit, time := u.now }
          noticeNumber := t.conditions.noticeNumber } := by
      rw [ht]
      simp only [Conditions.noticed, hcauses]
    have hlast : (if raised = 0#18 then u.conditions.last
        else some { op := op, outcome := raised, time := u.now }) =
        some { op := op, outcome := c.bit, time := u.now } := if_neg c.bit_ne_zero
    refine ⟨by rw [ht]; rfl, ?_, _, by rw [ht], State.notices_length _, by rw [ht]⟩
    unfold State.reports
    rw [hlast]
    exact hunit

/-- A state as the answer of an erase finds it: the slot is taken from the command, and nothing else is changed. -/
def State.slotTaken (s u : State) : Prop :=
  ∃ (check : FrameCheck) (slots : Vector Slot 16), u = { s with mediaCheck := check, slots := slots }

/-- The premises on the entry whose erase ends (R131, R132). -/
structure State.EraseInHand (s : State) (before after : List EraseEntry) (e : EraseEntry) (tag : Nat) : Prop where
  queue : s.eraseQueue = before ++ e :: after
  tagged : e.mediaTag = some tag
  other : ∀ x ∈ before ++ after, x.mediaTag ≠ some tag ∧ ¬ (x.volume = e.volume ∧ x.segment = e.segment)
  canonical : s.canonical
  inside : e.segment < (s.volume e.volume).count
  erasing : (s.segment e.volume e.segment).state = .erasing
  ready : s.ingestLink = .ready
  heard : ∀ p, e.requester = some p → (s.initiator p.1).state ≠ .absent
  room : s.txQueue.length < 2048

theorem EraseEntry.op_eq (e : EraseEntry) :
    e.op = { initiator := e.requester.map Prod.fst, tag := e.requester.map Prod.snd, kind := .eraseSegment } := by
  unfold EraseEntry.op
  cases e.requester <;> rfl

/-- What the end of an erase leaves, whichever way it ended. -/
theorem State.EraseInHand.ended {s u : State} {before after : List EraseEntry} {e : EraseEntry} {tag : Nat}
    (h : s.EraseInHand before after e tag) (hu : s.slotTaken u) (hs : s.settled) (x : Segment)
    (reply : Nat × Nat → Frame) (o : Option Cond) :
    let op : Operation :=
      { initiator := e.requester.map Prod.fst, tag := e.requester.map Prod.snd, kind := .eraseSegment }
    let raised := o.elim 0#18 Cond.bit
    let t := ((u.eraseEnded e (before ++ after) x (e.requester.map reply).toList).raiseAny e.op o).endStep
    t.eraseQueue = before ++ after ∧ t.segment e.volume e.segment = x ∧
      (∀ v m, ¬ (v = e.volume ∧ m = e.segment) → t.segment v m = s.segment v m) ∧
      t.conditions.accrued = s.conditions.accrued ||| raised ∧ s.reports t op raised ∧
      (∃ notices : List Frame,
        t.txQueue = s.txQueue ++ (e.requester.map reply).toList ++ notices ∧ notices.length ≤ 1) ∧
      t = { u with
        volumes := t.volumes, eraseQueue := t.eraseQueue, txQueue := t.txQueue, conditions := t.conditions } := by
  intro op raised t
  obtain ⟨check, slots, rfl⟩ := hu
  have hsettled : (({ s with mediaCheck := check, slots := slots } : State).eraseEnded e (before ++ after) x
      (e.requester.map reply).toList).settled := hs
  obtain ⟨haccrued, hreports, notices, htx, hlen, ht⟩ := raiseAny_endStep hsettled e.op o
  have hop : op = e.op := e.op_eq.symm
  have hqueue : t.eraseQueue = before ++ after := (congrArg State.eraseQueue ht :)
  have hvolumes : t.volumes = (s.putSegment e.volume e.segment x).volumes :=
    (congrArg State.volumes ht :)
  have hsegment := fun v m =>
    (State.segment_congr hvolumes v m).trans (State.putSegment_segment h.canonical h.inside x v m)
  refine ⟨hqueue, ?_, fun v m hvm => ?_, haccrued, ?_, ⟨notices, htx, hlen⟩, ?_⟩
  · exact (hsegment e.volume e.segment).trans (if_pos ⟨rfl, rfl⟩)
  · exact (hsegment v m).trans (if_neg hvm)
  · rw [hop]
    exact hreports
  · rw [hvolumes, hqueue]
    exact ht

/-! ### The commands that end an erase (R140, R141) -/

/-- The entry whose tag is answered is found by that tag. -/
theorem State.EraseInHand.found {s u : State} {before after : List EraseEntry} {e : EraseEntry} {tag : Nat}
    (h : s.EraseInHand before after e tag) (hu : s.slotTaken u) : u.eraseOfTag tag = some e := by
  obtain ⟨check, slots, rfl⟩ := hu
  exact eraseOfTag_eq h.queue h.tagged fun x hx => (h.other x hx).1

/-- The MERASE of an entry is answered OK or SOFT. -/
theorem State.EraseInHand.done {s u : State} {before after : List EraseEntry} {e : EraseEntry} {tag : Nat}
    (h : s.EraseInHand before after e tag) (hu : s.slotTaken u) (soft : Bool) :
    handOver .erase tag (if soft then .soft else .ok) u =
      (u.eraseEnded e (before ++ after) (s.segment e.volume e.segment).erased
        (e.requester.map fun p =>
          eraseDoneFrame e p.1 p.2 (s.segment e.volume e.segment).erased.generation).toList).raiseAny e.op
        (if soft then some .mediaSoft else none) := by
  have hfind := h.found hu
  obtain ⟨check, slots, rfl⟩ := hu
  have hended := eraseEnded_eq (u := { s with mediaCheck := check, slots := slots }) (f := Segment.erased)
    (reply := fun p => eraseDoneFrame e p.1 p.2 (s.segment e.volume e.segment).erased.generation) h.queue
    (fun x hx => (h.other x hx).2) h.erasing (fun _ => rfl) h.ready h.heard h.room
  have hanswer : answerErase (if soft then .soft else .ok) e { s with mediaCheck := check, slots := slots } =
      eraseDone e soft { s with mediaCheck := check, slots := slots } := by
    cases soft <;> rfl
  simp only [handOver, hfind, hanswer, eraseDone_sendTo]
  exact congrArg (fun v : State => v.raiseAny e.op (if soft then some .mediaSoft else none)) hended

/-- The MERASE of an entry fails. -/
theorem State.EraseInHand.fails {s u : State} {before after : List EraseEntry} {e : EraseEntry} {tag : Nat}
    (h : s.EraseInHand before after e tag) (hu : s.slotTaken u) :
    eraseFails e u =
      (u.eraseEnded e (before ++ after) { s.segment e.volume e.segment with state := .expired }
        (e.requester.map fun p =>
          refusedFrame p.1 p.2 e.volume .eraseFailed false 0 (some e.segment) none).toList).raiseAny e.op
        (some .eraseFailed) := by
  obtain ⟨check, slots, rfl⟩ := hu
  have hended := eraseEnded_eq (u := { s with mediaCheck := check, slots := slots })
    (f := fun g => { g with state := .expired })
    (reply := fun p => refusedFrame p.1 p.2 e.volume .eraseFailed false 0 (some e.segment) none) h.queue
    (fun x hx => (h.other x hx).2) h.erasing (fun _ => rfl) h.ready h.heard h.room
  rw [eraseFails_sendTo]
  exact congrArg (fun v : State => v.raiseAny e.op (some .eraseFailed)) hended

/-- A response of good form to a Busy slot hands its answer to the owner (R140). -/
theorem responseArrives_owned {s : State} {bytes : List Byte} {f : Frame} {owner : Owner} {kind : Nat}
    (ha : s.answers bytes f kind) (hk : kind = 19 ∨ kind = 20) (ho : s.owned f.tag owner) :
    responseArrives bytes s = handOver owner f.tag (answerOf f) (s.slotFreed bytes f.tag) := by
  obtain ⟨-, -, hl, hpass, hbody, hkind, htag⟩ := ha
  obtain ⟨command, cls, timer, hslot⟩ := ho
  have hbusy : ({ s with mediaCheck := checkAfter bytes } : State).slot f.tag = .busy command cls (some owner) timer :=
    hslot
  have hform : ((decide (f.kind = 19) || decide (f.kind = 20)) && decide (f.tag < 16)) = true := by
    rw [hkind]
    rcases hk with rfl | rfl <;> simp [htag]
  simp only [responseArrives, if_pos hl, if_pos hpass, takeResponse, hbody, hform, if_true, answerSlot, hbusy]
  rfl

theorem exec_mstatus {s : State} {bytes : List Byte} (hon : s.takesEvents = true) (hb : bytesAreMdata bytes = false) :
    exec (.mstatus bytes) s = .next (responseArrives bytes s).endStep := by
  show Host.Outcome.next (onEvent s _) = _
  rw [onEvent_on s _ hon, hb]
  rfl

theorem exec_mdata {s : State} {bytes : List Byte} (hon : s.takesEvents = true) (hb : bytesAreMdata bytes = true) :
    exec (.mdata bytes) s = .next (responseArrives bytes s).endStep := by
  show Host.Outcome.next (onEvent s _) = _
  rw [onEvent_on s _ hon, hb]
  rfl

theorem exec_mediaTimeout {s : State} {tag : Nat} (hon : s.takesEvents = true) :
    exec (.mediaTimeout tag) s = .next (slotExpires tag s).endStep := by
  show Host.Outcome.next (onEvent s _) = _
  rw [onEvent_on s _ hon]

/-- Settles O46: the answers OK and SOFT, and the three ways in which an erase fails. -/
theorem eraseAnswered : Obligations.EraseAnswered := by
  intro s before after e tag hq htag hother hw hexists hst hl hp hr g generation op ended
  have hinside : e.segment < (s.volume e.volume).count := by
    simp only [State.segmentExists, Bool.and_eq_true, decide_eq_true_eq] at hexists
    exact hexists.2
  have h : s.EraseInHand before after e tag := ⟨hq, htag, hother, hw, hinside, hst, hl, hp, hr⟩
  have hfreed : ∀ bytes t, s.slotTaken (s.slotFreed bytes t) := fun bytes t => ⟨_, _, rfl⟩
  refine ⟨fun bytes f ha hb hf ho hstatus => ?_, fun u ev timeout hfails => ?_⟩
  · obtain ⟨hon, hs, -, -, -, hkind, -⟩ := id ha
    subst hf
    have hanswer : answerOf f = if decide (f.status = 17) then .soft else .ok := by
      rcases hstatus with hx | hx <;> simp [answerOf, hkind, hx]
    have hact := responseArrives_owned ha (.inl rfl) ho
    rw [hanswer, h.done (hfreed bytes f.tag)] at hact
    have hevent := exec_mstatus hon hb
    rw [hact] at hevent
    have hraised : softSet f = (if decide (f.status = 17) then some Cond.mediaSoft else none).elim 0#18 Cond.bit := by
      rcases hstatus with hx | hx <;> simp [softSet, hx]
    rw [hraised]
    exact ⟨_, hevent, h.ended (hfreed bytes f.tag) hs _ _ _⟩
  · have hfailed : exec ev s = .next (eraseFails e u).endStep ∧ s.slotTaken u ∧ s.settled := by
      rcases hfails with ⟨bytes, f, rfl, hb, ha, rfl, ho, hstatus, -, rfl⟩ | ⟨bytes, f, rfl, hb, ha, rfl, ho, -, -, rfl⟩ |
        ⟨rfl, hon, hs, -, ⟨command, cls, hslot⟩, -, rfl⟩
      · obtain ⟨hon, hs, -, -, -, hkind, -⟩ := id ha
        obtain ⟨hok, hsoft⟩ := hstatus rfl
        have hanswer : answerOf f = .fault := by simp [answerOf, hkind, hok, hsoft]
        have hact := responseArrives_owned ha (.inl rfl) ho
        simp only [handOver, h.found (hfreed bytes f.tag), hanswer] at hact
        exact ⟨(exec_mstatus hon hb).trans (by rw [hact]; rfl), hfreed bytes f.tag, hs⟩
      · obtain ⟨hon, hs, -, -, -, hkind, -⟩ := id ha
        have hanswer : answerOf f = .data f := by simp [answerOf, hkind]
        have hact := responseArrives_owned ha (.inr rfl) ho
        simp only [handOver, h.found (hfreed bytes f.tag), hanswer] at hact
        exact ⟨(exec_mdata hon hb).trans (by rw [hact]; rfl), hfreed bytes f.tag, hs⟩
      · have hu : s.slotTaken (s.setSlot tag .busyLate) := ⟨_, _, rfl⟩
        refine ⟨?_, hu, hs⟩
        rw [exec_mediaTimeout hon]
        simp only [slotExpires, hslot, timeoutOwner, h.found hu]
    obtain ⟨hevent, hu, hs⟩ := hfailed
    rw [h.fails hu] at hevent
    exact ⟨_, hevent, h.ended hu hs _ _ _⟩

end Sys2Proof.Machine

end

section
/-! SUPPORT. The writers that name a context cleared, and the state in which a write context is freed. -/

namespace Sys2Proof.Machine

/-! ### Clearing the writers that name a context (R12) -/

theorem Segment.without_of_ne {g : Segment} {c : Nat} (h : g.writer ≠ some c) : g.without c = g := if_neg h

theorem Segment.without_idem (g : Segment) (c : Nat) : (g.without c).without c = g.without c := by
  unfold Segment.without
  split
  · simp
  · rfl

/-- Clearing a writer when either of two conditions holds, one after the other. -/
theorem Segment.without_or (g : Segment) (c : Nat) (p q : Prop) [Decidable p] [Decidable q] :
    (if q then (if p then g.without c else g).without c else if p then g.without c else g) =
      if p ∨ q then g.without c else g := by
  by_cases hp : p <;> by_cases hq : q <;> simp [hp, hq, g.without_idem c]

theorem Segment.without_writer (g : Segment) (c : Nat) : (g.without c).writer ≠ some c := by
  unfold Segment.without
  split
  · simp
  · next h => exact h

theorem State.clearWriter_eq (s : State) (v n c : Nat) :
    s.clearWriter v n c = s.putSegment v n ((s.segment v n).without c) ∨ s.clearWriter v n c = s := by
  unfold State.clearWriter Segment.without
  dsimp only
  split
  · exact .inl rfl
  · exact .inr rfl

/-- Clearing the writer of a segment changes the volumes alone. -/
theorem State.clearWriter_volumes (s : State) (v n c : Nat) :
    s.clearWriter v n c = { s with volumes := (s.clearWriter v n c).volumes } := by
  rcases s.clearWriter_eq v n c with h | h <;> rw [h]
  rfl

theorem State.clearWriter_canonical {s : State} (hw : s.canonical) (v n c : Nat) : (s.clearWriter v n c).canonical := by
  rcases s.clearWriter_eq v n c with h | h <;> rw [h]
  · exact State.putSegment_canonical hw _ _ _
  · exact hw

theorem State.clearWriter_count (s : State) (v n c u : Nat) :
    ((s.clearWriter v n c).volume u).count = (s.volume u).count := by
  rcases s.clearWriter_eq v n c with h | h <;> rw [h]
  exact (s.putSegment_count v n u _).1

/-- Every descriptor once the writer of a segment is cleared. -/
theorem State.clearWriter_segment {s : State} (hw : s.canonical) (v n c u m : Nat) :
    (s.clearWriter v n c).segment u m =
      if (u = v ∧ m = n) ∧ m < (s.volume u).count then (s.segment u m).without c else s.segment u m := by
  unfold State.clearWriter
  dsimp only
  by_cases hc : (s.segment v n).writer = some c
  · rw [if_pos hc]
    by_cases hn : n < (s.volume v).count
    · rw [State.putSegment_segment hw hn]
      by_cases hum : u = v ∧ m = n
      · obtain ⟨rfl, rfl⟩ := hum
        rw [if_pos ⟨rfl, rfl⟩, if_pos ⟨⟨rfl, rfl⟩, hn⟩, Segment.without, if_pos hc]
      · rw [if_neg hum, if_neg fun h => hum h.1]
    · rw [s.putSegment_beyond v n _ (Nat.not_lt.mp hn), if_neg]
      rintro ⟨⟨rfl, rfl⟩, hm⟩
      exact hn hm
  · rw [if_neg hc]
    split
    · next h =>
      obtain ⟨⟨rfl, rfl⟩, -⟩ := h
      exact (Segment.without_of_ne hc).symm
    · rfl

/-- A list of segments of a volume whose writers are cleared one after the other. -/
def State.clearEach (s : State) (v c : Nat) : List Nat → State
  | [] => s
  | n :: rest => (s.clearWriter v n c).clearEach v c rest

theorem clearWriters_clearEach (w : WriteContext) (c : Nat) (s : State) :
    clearWriters w c s = s.clearEach w.volume c (w.startSegment :: w.current :: w.next.toList) := by
  unfold clearWriters
  cases w.next <;> rfl

theorem State.clearEach_volumes (s : State) (v c : Nat) (l : List Nat) :
    s.clearEach v c l = { s with volumes := (s.clearEach v c l).volumes } := by
  induction l generalizing s with
  | nil => rfl
  | cons n rest ih =>
    rw [State.clearEach, ih, s.clearWriter_volumes]

theorem State.clearEach_segment {s : State} (hw : s.canonical) (v c : Nat) (l : List Nat) (u m : Nat) :
    (s.clearEach v c l).segment u m =
      if (u = v ∧ m ∈ l) ∧ m < (s.volume u).count then (s.segment u m).without c else s.segment u m := by
  induction l generalizing s with
  | nil => simp [State.clearEach]
  | cons n rest ih =>
    rw [State.clearEach, ih (State.clearWriter_canonical hw v n c), s.clearWriter_segment hw, s.clearWriter_count]
    rw [Segment.without_or]
    have hiff : ((u = v ∧ m = n) ∧ m < (s.volume u).count ∨ (u = v ∧ m ∈ rest) ∧ m < (s.volume u).count) ↔
        (u = v ∧ m ∈ n :: rest) ∧ m < (s.volume u).count := by
      rw [List.mem_cons]
      tauto
    simp only [hiff]

theorem WriteContext.worksIn_iff (w : WriteContext) (v m : Nat) :
    w.worksIn v m ↔ v = w.volume ∧ m ∈ w.startSegment :: w.current :: w.next.toList := by
  simp [WriteContext.worksIn, Option.mem_toList]

/-- Freeing a context clears the writers that name it, of the segments it works in (R12, R95). -/
theorem clearWriters_clears {s : State} (hw : s.canonical) (w : WriteContext) (c : Nat) :
    s.clears (clearWriters w c s) c w := by
  rw [clearWriters_clearEach]
  refine ⟨fun v m h => ?_, fun v m h => ?_⟩ <;> rw [w.worksIn_iff] at h <;> rw [State.clearEach_segment hw]
  · exact if_pos h
  · exact if_neg h

theorem clearWriters_volumes (w : WriteContext) (c : Nat) (s : State) :
    clearWriters w c s = { s with volumes := (clearWriters w c s).volumes } := by
  rw [clearWriters_clearEach]
  exact s.clearEach_volumes _ _ _

/-! ### A freed write context (R78) -/

theorem State.complete_eq (s : State) (op : Operation) (outcome : CondSet) :
    s.complete op outcome =
      { s with
        conditions :=
          { s.conditions with
            last := if outcome = 0#18 then s.conditions.last
              else some { op := op, outcome := outcome, time := s.now } } } := by
  unfold State.complete
  split <;> rfl

/-- A context that is freed: its writers cleared, the context Free and its end reported, and nothing else changed. -/
theorem freeWrite_eq (c : Nat) (w : WriteContext) (s : State) :
    freeWrite c w s =
      { s with
        volumes := (clearWriters w c s).volumes
        contexts := Table.set s.contexts c .free
        conditions :=
          { s.conditions with
            last := if w.outcome = 0#18 then s.conditions.last
              else some { op := w.op, outcome := w.outcome, time := s.now } } } := by
  rw [freeWrite, clearWriters_volumes, State.complete_eq]
  rfl

/-- A context that is in use is one of the 32. -/
theorem State.context_lt {s : State} {c : Nat} (h : s.context c ≠ .free) : c < 32 := by
  by_contra hc
  exact h (by simp [State.context, Table.get, hc])

end Sys2Proof.Machine

end

section
/-! PROOF. A RESUME with disposition Abandon. -/

namespace Sys2Proof.Machine

/-! ### The segment of an abandoned record (R16) -/

/-- The descriptor of the segment that an Abandon disposes of: closed truncated, or for classes 0 and 1 left Open. -/
def State.disposed (s : State) (g : Segment) : Segment :=
  if closesByItself g.cls then { s.closedSegment g with truncated := true, faultPending := false }
  else { g with faultPending := false }

/-- The Clock once a segment of a class has closed by itself (R38). -/
def State.markedFor (s : State) (cls : Option Nat) : Clock :=
  if closesByItself cls then { s.clock with mark := max s.clock.mark s.now } else s.clock

theorem abandonSegment_eq {s : State} {p : FaultPlace} (h : (s.segment p.volume p.segment).state = .opened) :
    abandonSegment p s =
      { s.putSegment p.volume p.segment (s.disposed (s.segment p.volume p.segment)) with
        clock := s.markedFor (s.segment p.volume p.segment).cls } := by
  unfold abandonSegment State.disposed State.markedFor
  split
  · rw [State.closeSegment_opened _ h]
  · rfl

/-- Raising the mark to the present time leaves the time the Clock gives (R29, R33). -/
theorem State.markedFor_now (s : State) (cls : Option Nat) : (s.markedFor cls).now = s.now := by
  unfold State.markedFor
  split
  · unfold State.now Clock.now
    cases s.clock.state <;> simp
  · rfl

/-- The state once an Abandon has freed its context (R12, R155). -/
theorem abandoned_eq {s : State} {p : FaultPlace} (h : (s.segment p.volume p.segment).state = .opened) (c : Nat)
    (w : WriteContext) :
    freeWrite c w (abandonSegment p s) =
      { s with
        volumes := (clearWriters w c (abandonSegment p s)).volumes
        clock := s.markedFor (s.segment p.volume p.segment).cls
        contexts := Table.set s.contexts c .free
        conditions :=
          { s.conditions with
            last := if w.outcome = 0#18 then s.conditions.last
              else some { op := w.op, outcome := w.outcome, time := s.now } } } := by
  have hnow : (abandonSegment p s).now = s.now := by
    rw [abandonSegment_eq h]
    exact s.markedFor_now _
  rw [freeWrite_eq, hnow]
  generalize (clearWriters w c (abandonSegment p s)).volumes = volumes
  rw [abandonSegment_eq h]
  rfl

/-- Every descriptor once an Abandon has freed its context: the segment's own is disposed of, and the writers that name
the context are cleared. -/
theorem abandoned_segment {s : State} (hw : s.canonical) {p : FaultPlace}
    (h : (s.segment p.volume p.segment).state = .opened) (hn : p.segment < (s.volume p.volume).count) (c : Nat)
    (w : WriteContext) (v m : Nat) :
    let g := if v = p.volume ∧ m = p.segment then s.disposed (s.segment p.volume p.segment) else s.segment v m
    (w.worksIn v m ∧ m < (s.volume v).count →
      (freeWrite c w (abandonSegment p s)).segment v m = g.without c) ∧
    (¬ (w.worksIn v m ∧ m < (s.volume v).count) → (freeWrite c w (abandonSegment p s)).segment v m = g) := by
  intro g
  have hvolumes : (abandonSegment p s).volumes =
      (s.putSegment p.volume p.segment (s.disposed (s.segment p.volume p.segment))).volumes := by
    rw [abandonSegment_eq h]
  have hcanonical : (abandonSegment p s).canonical := fun u => by
    rw [State.volume_congr hvolumes]
    exact State.putSegment_canonical hw _ _ _ u
  have hcount : ((abandonSegment p s).volume v).count = (s.volume v).count := by
    rw [State.volume_congr hvolumes]
    exact (s.putSegment_count _ _ _ _).1
  have hsegment : (abandonSegment p s).segment v m = g :=
    (State.segment_congr hvolumes v m).trans (State.putSegment_segment hw hn _ v m)
  have hfreed : (freeWrite c w (abandonSegment p s)).segment v m = (clearWriters w c (abandonSegment p s)).segment v m :=
    State.segment_congr (by rw [freeWrite_eq]) v m
  obtain ⟨hin, hout⟩ := clearWriters_clears hcanonical w c
  rw [hfreed, ← hsegment, ← hcount]
  exact ⟨hin v m, hout v m⟩

/-- The segment of the record once its context is freed. -/
theorem abandoned_own {s : State} (hw : s.canonical) {p : FaultPlace}
    (h : (s.segment p.volume p.segment).state = .opened) (hn : p.segment < (s.volume p.volume).count) (c : Nat)
    (w : WriteContext) :
    let own := s.disposed (s.segment p.volume p.segment)
    (w.worksIn p.volume p.segment →
      (freeWrite c w (abandonSegment p s)).segment p.volume p.segment = own.without c) ∧
    (¬ w.worksIn p.volume p.segment → (freeWrite c w (abandonSegment p s)).segment p.volume p.segment = own) := by
  have hboth := abandoned_segment hw h hn c w p.volume p.segment
  simp only [and_self, if_true, hn, and_true] at hboth
  exact hboth

/-- Another segment once the context is freed. -/
theorem abandoned_other {s : State} (hw : s.canonical) {p : FaultPlace}
    (h : (s.segment p.volume p.segment).state = .opened) (hn : p.segment < (s.volume p.volume).count) (c : Nat)
    (w : WriteContext) {v m : Nat} (hne : ¬ (v = p.volume ∧ m = p.segment)) :
    (w.worksIn v m ∧ m < (s.volume v).count →
      (freeWrite c w (abandonSegment p s)).segment v m = (s.segment v m).without c) ∧
    (¬ (w.worksIn v m ∧ m < (s.volume v).count) →
      (freeWrite c w (abandonSegment p s)).segment v m = s.segment v m) := by
  have hboth := abandoned_segment hw h hn c w v m
  simp only [if_neg hne] at hboth
  exact hboth

theorem State.disposed_closes (s : State) {g : Segment} (h : closesByItself g.cls = true) (c : Nat) :
    s.disposed g = { s.closedSegment g with truncated := true, faultPending := false } ∧
      (s.disposed g).without c = s.disposed g := by
  have hd : s.disposed g = { s.closedSegment g with truncated := true, faultPending := false } := if_pos h
  refine ⟨hd, Segment.without_of_ne ?_⟩
  rw [hd]
  simp [State.closedSegment]

theorem Segment.without_of_eq {g : Segment} {c : Nat} (h : g.writer = some c) : g.without c = { g with writer := none } :=
  if_pos h

theorem State.disposed_writer (s : State) {g : Segment} {c : Nat} (h : g.writer ≠ some c) :
    (s.disposed g).writer ≠ some c := by
  unfold State.disposed
  split
  · simp [State.closedSegment]
  · exact h

theorem State.disposed_stays (s : State) {g : Segment} (h : ¬ closesByItself g.cls = true) :
    s.disposed g = { g with faultPending := false } := if_neg h

theorem State.disposed_appendPoint (s : State) (g : Segment) : (s.disposed g).appendPoint = g.appendPoint := by
  unfold State.disposed
  split <;> rfl

theorem State.disposed_faultPending (s : State) (g : Segment) : (s.disposed g).faultPending = false := by
  unfold State.disposed
  split <;> rfl

theorem Segment.without_faultPending (g : Segment) (c : Nat) : (g.without c).faultPending = g.faultPending := by
  unfold Segment.without
  split <;> rfl

theorem closesByItself_iff (cls : Option Nat) : closesByItself cls = true ↔ cls ≠ some 0 ∧ cls ≠ some 1 := by
  simp [closesByItself]

theorem Segment.without_appendPoint (g : Segment) (c : Nat) : (g.without c).appendPoint = g.appendPoint := by
  unfold Segment.without
  split <;> rfl

/-! ### The request (R151, R155) -/

/-- An Abandon of a settled record that its initiators hear: the freed state with the two replies and the record gone. -/
theorem abandonRecord_eq {s : State} {f : Frame} {r : Nat} {x : FaultRecord} {w : WriteContext} {p : FaultPlace}
    (hctx : s.context x.context = .write w) (hplace : x.place = some p) (hears : s.hears w)
    (hp : (s.initiator f.initiator).state ≠ .absent) (hroom : s.txQueue.length < Config.intakeLimit)
    (hopen : (s.segment p.volume p.segment).state = .opened) (a : Nat)
    (ha : ((freeWrite x.context w (abandonSegment p s)).segment p.volume p.segment).appendPoint = a) :
    abandonRecord f r x s =
      { freeWrite x.context w (abandonSegment p s) with
        txQueue := s.txQueue ++ [terminatedFrame w .mediaFault, f.reply .done [r, p.segment, a]]
        records := Table.set1 s.records r none } := by
  obtain ⟨hl, hpw, hremoved, -⟩ := hears
  have hfreed := abandoned_eq hopen x.context w
  have hlimit : Config.intakeLimit + 1 ≤ Config.transmitLimit := by decide
  unfold abandonRecord
  rw [hctx, hplace]
  dsimp only
  generalize freeWrite x.context w (abandonSegment p s) = u at ha hfreed ⊢
  have hsent : u.sendFor w (terminatedFrame w .mediaFault) =
      { u with txQueue := u.txQueue ++ [terminatedFrame w .mediaFault] } := by
    rw [State.sendFor, hremoved]
    exact State.send_placed u (terminatedFrame w .mediaFault) (by rw [hfreed]; exact hl) (by rw [hfreed]; exact hpw)
      (by rw [hfreed]; show s.txQueue.length < _; omega)
  rw [hsent]
  have hfound : (State.setRecord { u with txQueue := u.txQueue ++ [terminatedFrame w .mediaFault] } r none).segment
      p.volume p.segment = u.segment p.volume p.segment := State.segment_congr rfl _ _
  rw [hfound, ha]
  have hrecords : u.records = s.records := by rw [hfreed]
  have htx : u.txQueue = s.txQueue := by rw [hfreed]
  have hanswered := State.send_placed
    (State.setRecord { u with txQueue := u.txQueue ++ [terminatedFrame w .mediaFault] } r none)
    (f.reply .done [r, p.segment, a]) (by rw [hfreed]; exact hl) (by rw [hfreed]; exact hp)
    (by
      show (u.txQueue ++ [terminatedFrame w .mediaFault]).length < _
      rw [htx, List.length_append, List.length_singleton]
      omega)
  refine hanswered.trans ?_
  rw [← hrecords, ← htx]
  simp only [State.setRecord, List.append_assoc, List.singleton_append]

theorem judgeResume_abandon {s : State} {f : Frame} {x : FaultRecord} (h1 : 1 ≤ f.param 0) (h4 : f.param 0 ≤ 4)
    (hd : f.param 1 = 1) (hx : s.record (f.param 0) = some x) (hheld : x.state = .held) (hset : x.settled = true) :
    judgeResume s f = none := by
  simp [judgeResume, Nat.not_lt.mpr h1, Nat.not_lt.mpr h4, hd, hx, hheld, hset, refuseWhen]

/-- The event of a RESUME with disposition Abandon, of an Enabled officer, for a settled record. -/
theorem resumeAbandon_taken {s : State} {f : Frame} {rest : List RxFrame} {x : FaultRecord}
    (h : s.officerAsks f rest 17) (h1 : 1 ≤ f.param 0) (h4 : f.param 0 ≤ 4) (hd : f.param 1 = 1)
    (hx : s.record (f.param 0) = some x) (hheld : x.state = .held) (hset : x.settled = true)
    (hq : (abandonRecord f (f.param 0) x (s.taken rest)).conditions.causes = []) :
    exec .resumeAbandon s = .next (abandonRecord f (f.param 0) x (s.taken rest)) := by
  obtain ⟨⟨hon, -, hrx, hroom, hform⟩, hk, hc, -, hen, ho, htag⟩ := h
  have hj : judgeControl (s.taken rest) f none none = none := judgeControl_passes _ f none none hen ho htag
  have hpick : isAbandon (.whole f) = true := by simp [isAbandon, isRequest, hform, hk, hc, hd]
  have hjudge := judgeResume_abandon (s := s.taken rest) h1 h4 hd hx hheld hset
  have hrecord : (s.taken rest).record (f.param 0) = some x := hx
  have hact : takeFrame isAbandon (onFrame takeResume) s = abandonRecord f (f.param 0) x (s.taken rest) := by
    rw [takeFrame_taken isAbandon _ s _ rest hrx hpick hroom]
    show takeResume f (s.taken rest) = _
    simp only [takeResume, hj, actResume, hjudge, hrecord, hd]
    rfl
  refine congrArg Host.Outcome.next ((onEvent_quiet s _ hon ?_).trans hact)
  rw [hact]
  exact hq

/-- Settles O41: the segment closed or left Open, the writers that name the context cleared, and the two replies. -/
theorem abandonDisposes : Obligations.AbandonDisposes := by
  intro s f rest x w p h h1 h4 hd hx hheld hset hplace hctx hears hw hexists hv hopen g worked cleared
  obtain ⟨⟨hon, hs, hrx, hroom, hform⟩, hk, hc, hl, hen, ho, htag⟩ := id h
  have hn : p.segment < (s.volume p.volume).count := by
    simp only [State.segmentExists, Bool.and_eq_true, decide_eq_true_eq] at hexists
    exact hexists.2
  have hp : (s.initiator f.initiator).state ≠ .absent := by
    rw [hen]
    decide
  have howned : ∀ v m, worked v m ↔ w.worksIn v m ∧ m < (s.volume v).count := fun v m => by
    simp only [worked, WriteContext.worksIn, and_assoc]
  have hcontext : x.context < 32 := State.context_lt (s := s) (by rw [hctx]; simp)
  obtain ⟨hin, hout⟩ := abandoned_own (s := s.taken rest) hw hopen hn x.context w
  have hothers := fun v m (hne : ¬ (v = p.volume ∧ m = p.segment)) =>
    abandoned_other (s := s.taken rest) hw hopen hn x.context w hne
  have happend : ((freeWrite x.context w (abandonSegment p (s.taken rest))).segment p.volume p.segment).appendPoint =
      g.appendPoint := by
    by_cases hx : w.worksIn p.volume p.segment
    · rw [hin hx, Segment.without_appendPoint, State.disposed_appendPoint]
      rfl
    · rw [hout hx, State.disposed_appendPoint]
      rfl
  have hpending : ((freeWrite x.context w (abandonSegment p (s.taken rest))).segment p.volume p.segment).faultPending =
      false := by
    by_cases hx : w.worksIn p.volume p.segment
    · rw [hin hx, Segment.without_faultPending, State.disposed_faultPending]
    · rw [hout hx, State.disposed_faultPending]
  have hact := abandonRecord_eq (s := s.taken rest) (r := f.param 0) hctx hplace hears hp hroom hopen g.appendPoint happend
  have hfreed := abandoned_eq (s := s.taken rest) hopen x.context w
  have hevent := resumeAbandon_taken h h1 h4 hd hx hheld hset (by rw [hact, hfreed]; exact hs)
  rw [hact] at hevent
  generalize freeWrite x.context w (abandonSegment p (s.taken rest)) = u at hin hout hothers hpending hfreed hevent
  have hworksIn : w.worksIn p.volume p.segment ↔ worked p.volume p.segment :=
    ⟨fun hx => (howned _ _).mpr ⟨hx, hn⟩, fun hx => ((howned _ _).mp hx).1⟩
  have hother : ∀ v m, ¬ (v = p.volume ∧ m = p.segment) →
      (worked v m → u.segment v m = (s.segment v m).without x.context) ∧
      (¬ worked v m → u.segment v m = s.segment v m) := fun v m hne => by
    rw [howned]
    exact hothers v m hne
  rw [hworksIn] at hin hout
  refine ⟨_, hevent, ?_, fun r hr => ?_, ?_, fun d hd => ?_, hpending, fun hc0 hc1 => ?_, fun hcls => ?_, rfl,
    fun v m hne => ⟨fun hx => ?_, fun hx => ?_⟩, fun hall v m => ?_, ?_, ?_, ?_⟩
  · exact Table.get1_set1_same none s.records (f.param 0) none ⟨h1, h4⟩
  · exact Table.get1_set1_other none s.records (f.param 0) r none hr
  · show Table.get Context.free u.contexts x.context = .free
    rw [hfreed]
    exact Table.get_set_same _ _ _ _ hcontext
  · show Table.get Context.free u.contexts d = s.context d
    rw [hfreed]
    exact Table.get_set_other _ _ _ _ _ hd
  · have hcloses := (closesByItself_iff g.cls).mpr ⟨hc0, hc1⟩
    obtain ⟨hd, hwithout⟩ := (s.taken rest).disposed_closes hcloses x.context
    refine ⟨?_, ?_⟩
    · by_cases hx : worked p.volume p.segment
      · exact (hin hx).trans (hwithout.trans hd)
      · exact (hout hx).trans hd
    · show u.clock = _
      rw [hfreed]
      exact if_pos hcloses
  · have hcloses : ¬ closesByItself g.cls = true := by
      rw [closesByItself_iff]
      tauto
    have hd := (s.taken rest).disposed_stays hcloses
    refine ⟨fun hx => ?_, fun hx => ?_, ?_⟩
    · exact (hin hx.1).trans ((congrArg (Segment.without · x.context) hd).trans (Segment.without_of_eq hx.2))
    · by_cases hk' : worked p.volume p.segment
      · exact (hin hk').trans ((congrArg (Segment.without · x.context) hd).trans
          (Segment.without_of_ne fun hw' => hx ⟨hk', hw'⟩))
      · exact (hout hk').trans hd
    · show u.clock = _
      rw [hfreed]
      exact if_neg hcloses
  · exact ((hother v m hne).1 hx.1).trans (Segment.without_of_eq hx.2)
  · by_cases hk' : worked v m
    · exact ((hother v m hne).1 hk').trans (Segment.without_of_ne fun hw' => hx ⟨hk', hw'⟩)
    · exact (hother v m hne).2 hk'
  · show (u.segment v m).writer ≠ some x.context
    by_cases hne : v = p.volume ∧ m = p.segment
    · obtain ⟨rfl, rfl⟩ := hne
      by_cases hk' : worked p.volume p.segment
      · rw [hin hk']
        exact Segment.without_writer _ _
      · rw [hout hk']
        exact (s.taken rest).disposed_writer fun hw' => hk' (hall _ _ hw')
    · by_cases hk' : worked v m
      · rw [(hother v m hne).1 hk']
        exact Segment.without_writer _ _
      · rw [(hother v m hne).2 hk']
        exact fun hw' => hk' (hall v m hw')
  · show u.conditions = { s.conditions with
      accrued := u.conditions.accrued
      last := if w.outcome = 0#18 then s.conditions.last else some { op := w.op, outcome := w.outcome, time := s.now }
      noticeNumber := u.conditions.noticeNumber }
    rw [hfreed]
    rfl
  · rw [hfreed]
    rfl
  · show u.conditions.accrued = _
    rw [hfreed]
    rfl

end Sys2Proof.Machine

end

section
/-! SUPPORT. Slots that lose their owners, and the reads of a segment that stop when its erase begins. -/

namespace Sys2Proof.Machine

/-! ### Slots that lose their owners (R142) -/

theorem Slot.orphan_idem (x : Slot) : x.orphan.orphan = x.orphan := by cases x <;> rfl

theorem Slot.orphan_of_idle {x : Slot} (h : x = .free ∨ x = .busyLate) : x.orphan = x := by
  rcases h with rfl | rfl <;> rfl

theorem State.orphanAll_eq (s : State) (l : List Nat) : s.orphanAll l = { s with slots := (s.orphanAll l).slots } := by
  induction l generalizing s with
  | nil => rfl
  | cons t rest ih =>
    rw [State.orphanAll, ih]
    rfl

/-- A number outside the table is no slot, and stays Free. -/
theorem State.setSlot_orphan_slot (s : State) (t k : Nat) :
    (s.setSlot t (s.slot t).orphan).slot k = if k = t then (s.slot k).orphan else s.slot k := by
  split
  · next h =>
    subst h
    by_cases hk : k < 16
    · exact s.setSlot_slot_same k _ hk
    · have hfree : ∀ u : State, u.slot k = .free := fun u => by simp [State.slot, Table.get, hk]
      rw [hfree, hfree]
      rfl
  · next h => exact s.setSlot_slot_other t k _ h

/-- Every slot once those of a list of tags have lost their owners. -/
theorem State.orphanAll_slot (s : State) (l : List Nat) (k : Nat) :
    (s.orphanAll l).slot k = if k ∈ l then (s.slot k).orphan else s.slot k := by
  induction l generalizing s with
  | nil => rfl
  | cons t rest ih =>
    rw [State.orphanAll, ih, State.setSlot_orphan_slot]
    by_cases hk : k = t <;> by_cases hr : k ∈ rest <;> simp [hk, hr, Slot.orphan_idem]

/-! ### The reads of a segment that becomes Erasing (R105, R107) -/

/-- A read has an entry that waits. -/
def ReadContext.asks (r : ReadContext) : Prop := ∃ e ∈ r.list, e.progress = .waiting

/-- A read whose waiting entries have left its list. -/
def ReadContext.stopped (r : ReadContext) : ReadContext :=
  { r with
    list := r.list.filter (fun e => decide (e.progress ≠ .waiting))
    ending := some (r.ending.getD .short) }

/-- The read of the segment in a context that has an entry waiting. -/
def State.stopsRead (s : State) (v n c : Nat) (r : ReadContext) : Prop :=
  s.context c = .read r ∧ r.volume = v ∧ r.segment = n ∧ r.asks

/-- A context once the segment under its read is Erasing. -/
def ReadContext.settled (r : ReadContext) : Context := if r.stopped.list = [] then .free else .read r.stopped

theorem ReadContext.kept_iff (r : ReadContext) :
    (r.list.filter (fun e => !decide (e.progress = .waiting))).length = r.list.length ↔ ¬ r.asks := by
  rw [List.length_filter_eq_length_iff]
  simp [ReadContext.asks]

theorem readErased_same {c : Nat} {r : ReadContext} {s : State} (h : ¬ r.asks) : readErased c r s = s := by
  unfold readErased
  exact if_pos (r.kept_iff.mpr h)

theorem readErased_stopped {c : Nat} {r : ReadContext} {s : State} (h : r.asks) :
    readErased c r s = settleRead c r.stopped (s.withdrawReads c) := by
  unfold readErased
  dsimp only
  rw [if_neg fun hk => r.kept_iff.mp hk h]
  unfold ReadContext.stopped
  cases h : r.ending <;> simp only [decide_not, Option.getD_none, Option.getD_some]

/-- A read that completes: its context is Free, its final reply is placed or discarded, and its end is reported. -/
theorem completeRead_eq (c : Nat) (r : ReadContext) (s : State) :
    completeRead c r s =
      { s with
        contexts := Table.set s.contexts c .free
        txQueue := s.txQueue ++
          (if s.ingestLink = .ready && s.present r.initiator && s.txRoom then [finalReadFrame r] else [])
        conditions :=
          { s.conditions with
            last := if r.outcome = 0#18 then s.conditions.last
              else some { op := r.op, outcome := r.outcome, time := s.now } } } := by
  have hinit : (finalReadFrame r).initiator = r.initiator := rfl
  have hsend : ∀ u : State, u.send (finalReadFrame r) =
      { u with txQueue := u.txQueue ++
          (if u.ingestLink = .ready && u.present r.initiator && u.txRoom then [finalReadFrame r] else []) } := fun u => by
    unfold State.send
    rw [hinit]
    split
    · rfl
    · rw [List.append_nil]
  rw [completeRead, hsend, State.complete_eq]
  rfl

/-- Between s and t the reads of a segment, in the contexts of a list, stop: what is left of each context and of the
requests that waited, and the final replies of the reads that end (R105, R107). -/
structure State.StopsReads (s t : State) (v n : Nat) (l : List Nat) (replies : List Frame) : Prop where
  frame : t = { s with
    txQueue := s.txQueue ++ replies, contexts := t.contexts
    arbiter := { s.arbiter with read := t.arbiter.read }
    conditions := { s.conditions with last := t.conditions.last } }
  kept : ∀ c, (∀ r, c ∈ l → ¬ s.stopsRead v n c r) → t.context c = s.context c
  stopped : ∀ c r, c ∈ l → s.stopsRead v n c r → t.context c = r.settled
  asked : ∀ q, q ∈ t.arbiter.read ↔ q ∈ s.arbiter.read ∧ ¬ ∃ c r, c ∈ l ∧ q.owner = .read c ∧ s.stopsRead v n c r
  kinds : ∀ y ∈ replies, y.kind = 7
  few : replies.length ≤ l.length
  heard : s.txQueue.length + l.length ≤ Config.transmitLimit → ∀ c r, c ∈ l → s.stopsRead v n c r → r.stopped.list = [] →
    s.ingestLink = .ready → (s.initiator r.initiator).state ≠ .absent → finalReadFrame r.stopped ∈ replies
  quiet : (∀ c r, c ∈ l → s.stopsRead v n c r → r.outcome = 0#18) → t.conditions = s.conditions

theorem State.StopsReads.refl (s : State) (v n : Nat) : s.StopsReads s v n [] [] :=
  ⟨by rw [List.append_nil], fun _ _ => rfl, by simp, by simp, by simp, Nat.le_refl _, by simp, fun _ => rfl⟩

/-- A context whose read does not stop is passed over. -/
theorem State.StopsReads.pass {s : State} {v n c : Nat} (h : ∀ r, ¬ s.stopsRead v n c r) : s.StopsReads s v n [c] [] := by
  have hnone : ∀ {d r}, d ∈ [c] → ¬ s.stopsRead v n d r := fun hd => by
    rw [List.mem_singleton.mp hd]
    exact h _
  exact ⟨by rw [List.append_nil], fun _ _ => rfl, fun d r hd hr => absurd hr (hnone hd),
    fun q => ⟨fun hq => ⟨hq, fun ⟨d, r, hd, _, hr⟩ => hnone hd hr⟩, And.left⟩, by simp, Nat.zero_le _,
    fun _ d r hd hr => absurd hr (hnone hd), fun _ => rfl⟩

/-- The read of one context stops. -/
theorem State.StopsReads.one {s : State} {v n c : Nat} {r : ReadContext} (h : s.stopsRead v n c r) :
    ∃ replies, s.StopsReads (readErased c r s) v n [c] replies := by
  obtain ⟨hc, hv, hn, hasks⟩ := id h
  have hlt : c < 32 := State.context_lt (s := s) (by rw [hc]; simp)
  have honly : ∀ {d q}, d ∈ [c] → s.stopsRead v n d q → d = c ∧ q = r := fun hd hq => by
    rw [List.mem_singleton.mp hd] at hq ⊢
    exact ⟨rfl, by have := hq.1.symm.trans hc; injection this⟩
  have hwithdrawn : ∀ q, q ∈ (s.withdrawReads c).arbiter.read ↔
      q ∈ s.arbiter.read ∧ ¬ ∃ d p, d ∈ [c] ∧ q.owner = .read d ∧ s.stopsRead v n d p := fun q => by
    show q ∈ s.arbiter.read.filter _ ↔ _
    simp only [List.mem_filter, Bool.not_eq_true', decide_eq_false_iff_not]
    refine and_congr_right fun _ => not_congr ⟨fun hq => ⟨c, r, List.mem_singleton.mpr rfl, hq, h⟩, ?_⟩
    rintro ⟨d, p, hd, hq, -⟩
    rw [hq, List.mem_singleton.mp hd]
  have hcontext : ∀ (u : State) (x : Context), u.contexts = Table.set s.contexts c x →
      (∀ d, (∀ p, d ∈ [c] → ¬ s.stopsRead v n d p) → u.context d = s.context d) ∧ u.context c = x := fun u x hu => by
    refine ⟨fun d hd => ?_, ?_⟩
    · have hne : d ≠ c := fun hdc => hd r (List.mem_singleton.mpr hdc) (hdc ▸ h)
      show Table.get Context.free u.contexts d = _
      rw [hu]
      exact Table.get_set_other _ _ _ _ _ hne
    · show Table.get Context.free u.contexts c = x
      rw [hu]
      exact Table.get_set_same _ _ _ _ hlt
  rw [readErased_stopped hasks, settleRead]
  split
  · next hempty =>
    obtain ⟨hkept, hown⟩ := hcontext (completeRead c r.stopped (s.withdrawReads c)) .free
      (by rw [completeRead_eq]; rfl)
    rw [completeRead_eq] at hkept hown ⊢
    refine ⟨_, rfl, hkept, fun d p hd hp => ?_, hwithdrawn, fun y hy => ?_, ?_, fun hroom d p hd hp _ hl hpres => ?_,
      fun hq => ?_⟩
    · obtain ⟨rfl, rfl⟩ := honly hd hp
      rw [ReadContext.settled, if_pos hempty]
      exact hown
    · split at hy
      · rw [List.mem_singleton.mp hy]
        rfl
      · cases hy
    · split
      · exact Nat.le_refl _
      · exact Nat.zero_le _
    · obtain ⟨rfl, rfl⟩ := honly hd hp
      have hsent : (decide ((s.withdrawReads d).ingestLink = .ready) &&
          (s.withdrawReads d).present p.stopped.initiator && (s.withdrawReads d).txRoom) = true := by
        simp only [Bool.and_eq_true, decide_eq_true_eq]
        have hpresent : s.present p.initiator = true := by simpa [State.present] using hpres
        have hspace : s.txRoom = true := by simpa [State.txRoom] using Nat.lt_of_succ_le hroom
        exact ⟨⟨hl, hpresent⟩, hspace⟩
      rw [if_pos hsent]
      exact List.mem_singleton.mpr rfl
    · have hout : r.stopped.outcome = 0#18 := hq c r (List.mem_singleton.mpr rfl) h
      show ({ s.conditions with last := _ } : Conditions) = _
      rw [if_pos hout]
      rfl
  · next hsome =>
    obtain ⟨hkept, hown⟩ := hcontext ((s.withdrawReads c).setContext c (.read r.stopped)) _ rfl
    refine ⟨[], by rw [List.append_nil]; rfl, hkept, fun d p hd hp => ?_, hwithdrawn, by simp, Nat.zero_le _,
      fun _ d p hd hp hempty => ?_, fun _ => rfl⟩
    · obtain ⟨rfl, rfl⟩ := honly hd hp
      rw [ReadContext.settled, if_neg hsome]
      exact hown
    · obtain ⟨rfl, rfl⟩ := honly hd hp
      exact absurd hempty hsome

/-- The reads of further contexts stop after those of one. -/
theorem State.StopsReads.cons {s t u : State} {v n c : Nat} {l : List Nat} {a b : List Frame} (hc : c ∉ l)
    (h : s.StopsReads t v n [c] a) (k : t.StopsReads u v n l b) : s.StopsReads u v n (c :: l) (a ++ b) := by
  have hsame : ∀ d, d ∈ l → t.context d = s.context d := fun d hd => h.kept d fun r hdc => by
    rw [List.mem_singleton.mp hdc] at hd
    exact absurd hd hc
  have hstops : ∀ d r, d ∈ l → (t.stopsRead v n d r ↔ s.stopsRead v n d r) := fun d r hd => by
    rw [State.stopsRead, State.stopsRead, hsame d hd]
  have hhead : c ∈ [c] := List.mem_singleton.mpr rfl
  have htx : t.txQueue = s.txQueue ++ a := by rw [h.frame]
  have hconditions : t.conditions = { s.conditions with last := t.conditions.last } := by
    conv_lhs => rw [h.frame]
  refine ⟨?_, fun d hd => ?_, fun d r hd hr => ?_, fun q => ?_, fun y hy => ?_, ?_, fun hroom d r hd hr hempty hl hp => ?_,
    fun hq => ?_⟩
  · rw [k.frame, h.frame, List.append_assoc]
  · have hhead' : t.context d = s.context d := h.kept d fun r hdc => hd r (List.mem_cons.mpr (.inl (List.mem_singleton.mp hdc)))
    rw [← hhead']
    refine k.kept d fun r hdl hr => hd r (List.mem_cons.mpr (.inr hdl)) ((hstops d r hdl).mp hr)
  · rcases List.mem_cons.mp hd with rfl | hdl
    · rw [k.kept d fun _ hdl => absurd hdl hc]
      exact h.stopped d r hhead hr
    · exact k.stopped d r hdl ((hstops d r hdl).mpr hr)
  · rw [k.asked, h.asked, and_assoc]
    refine and_congr_right fun _ => ?_
    rw [← not_or]
    refine not_congr ⟨?_, ?_⟩
    · rintro (⟨d, r, hd, hq, hr⟩ | ⟨d, r, hd, hq, hr⟩)
      · exact ⟨d, r, List.mem_cons.mpr (.inl (List.mem_singleton.mp hd)), hq, hr⟩
      · exact ⟨d, r, List.mem_cons.mpr (.inr hd), hq, (hstops d r hd).mp hr⟩
    · rintro ⟨d, r, hd, hq, hr⟩
      rcases List.mem_cons.mp hd with rfl | hdl
      · exact .inl ⟨d, r, hhead, hq, hr⟩
      · exact .inr ⟨d, r, hdl, hq, (hstops d r hdl).mpr hr⟩
  · rcases List.mem_append.mp hy with hy | hy
    · exact h.kinds y hy
    · exact k.kinds y hy
  · have ha := h.few
    have hb := k.few
    simp only [List.length_append, List.length_cons, List.length_nil] at *
    omega
  · have ha := h.few
    simp only [List.length_cons, List.length_nil] at hroom ha
    rcases List.mem_cons.mp hd with rfl | hdl
    · exact List.mem_append_left _ (h.heard (by simp only [List.length_singleton]; omega) d r hhead hr hempty hl hp)
    · refine List.mem_append_right _ (k.heard ?_ d r hdl ((hstops d r hdl).mpr hr) hempty ?_ ?_)
      · rw [htx, List.length_append]
        omega
      · rw [h.frame]
        exact hl
      · rw [h.frame]
        exact hp
  · rw [k.quiet fun d r hdl hr => hq d r (List.mem_cons.mpr (.inr hdl)) ((hstops d r hdl).mp hr)]
    exact h.quiet fun d r hdc hr => hq d r (List.mem_cons.mpr (.inl (List.mem_singleton.mp hdc))) hr

/-- The reads of a segment stop, context after context (R20, R107). -/
theorem stopReads_stops (v n : Nat) {l : List Nat} (hl : l.Nodup) (s : State) :
    ∃ replies, s.StopsReads (stopReads v n l s) v n l replies := by
  induction l generalizing s with
  | nil => exact ⟨[], .refl s v n⟩
  | cons c rest ih =>
    obtain ⟨hc, hrest⟩ := List.nodup_cons.mp hl
    have hstep : ∃ u a, stopReads v n (c :: rest) s = stopReads v n rest u ∧ s.StopsReads u v n [c] a := by
      rw [stopReads]
      split
      · next r hr =>
        split
        · next hvn =>
          simp only [Bool.and_eq_true, decide_eq_true_eq] at hvn
          by_cases hasks : r.asks
          · obtain ⟨a, ha⟩ := State.StopsReads.one ⟨hr, hvn.1, hvn.2, hasks⟩
            exact ⟨_, a, rfl, ha⟩
          · rw [readErased_same hasks]
            refine ⟨_, [], rfl, .pass fun p hp => hasks ?_⟩
            obtain ⟨hp, -, -, hpa⟩ := hp
            injection hr.symm.trans hp with hrp
            exact hrp ▸ hpa
        · next hvn =>
          refine ⟨_, [], rfl, .pass fun p hp => hvn ?_⟩
          obtain ⟨hp, hv, hn, -⟩ := hp
          injection hr.symm.trans hp with hrp
          subst hrp
          simp [hv, hn]
      · next w hw => exact ⟨_, [], rfl, .pass fun p hp => by have := hw.symm.trans hp.1; cases this⟩
      · next hf => exact ⟨_, [], rfl, .pass fun p hp => by have := hf.symm.trans hp.1; cases this⟩
    obtain ⟨u, a, hu, ha⟩ := hstep
    obtain ⟨b, hb⟩ := ih hrest u
    rw [hu]
    exact ⟨_, ha.cons hc hb⟩

end Sys2Proof.Machine

end

section
/-! PROOF. An admitted ERASE: the segment, the queue, the reads and the Active scan. -/

namespace Sys2Proof.Machine

/-! ### The Active scan of a segment that becomes Erasing (R169) -/

/-- The Active scan reads a segment at its cursor. -/
def State.scansAt (s : State) (v n : Nat) (x : Scan) (cur : ScanCursor) : Prop :=
  s.scanActive = some x ∧ x.phase = .running ∧ x.segmentRead ≠ none ∧ x.cursor = some cur ∧ 1 ≤ cur.entry ∧
    cur.segment = n ∧ ∃ range, x.ranges[cur.entry - 1]? = some range ∧ range.volume = v

theorem Scan.place_eq_some {x : Scan} {v : Nat} {cur : ScanCursor} :
    x.place = some (v, cur) ↔
      x.cursor = some cur ∧ 1 ≤ cur.entry ∧ ∃ range, x.ranges[cur.entry - 1]? = some range ∧ range.volume = v := by
  unfold Scan.place Scan.rangeAt
  cases x.cursor with
  | none => simp
  | some c =>
    by_cases h0 : c.entry = 0
    · simp only [h0, if_true, Option.map_none, reduceCtorEq, false_iff, Option.some.injEq]
      rintro ⟨rfl, h1, -⟩
      omega
    · simp only [h0, if_false, Option.map_eq_some_iff, Prod.mk.injEq, Option.some.injEq]
      constructor
      · rintro ⟨range, hr, hv, rfl⟩
        exact ⟨rfl, by omega, range, hr, hv⟩
      · rintro ⟨rfl, -, range, hr, hv⟩
        exact ⟨range, hr, hv, rfl⟩

theorem scanErased_none {s : State} {v n : Nat} (h : ∀ x cur, ¬ s.scansAt v n x cur) : scanErased v n s = s := by
  unfold scanErased
  split
  · next x hx =>
    split
    · next sv cur hp =>
      split
      · next hc =>
        simp only [Bool.and_eq_true, decide_eq_true_eq, Option.isSome_iff_ne_none] at hc
        obtain ⟨⟨⟨hrun, hread⟩, rfl⟩, hn⟩ := hc
        obtain ⟨hcur, h1, hrange⟩ := Scan.place_eq_some.mp hp
        exact absurd ⟨hx, hrun, hread, hcur, h1, hn, hrange⟩ (h x cur)
      · rfl
    · rfl
  · rfl

/-- The state once the scan's read has lost its waiting requests and the owners of its sent ones. -/
def State.scanDropped (s : State) (x : Scan) : State := s.withdrawScan.orphanAll (x.list.filterMap ReadEntry.mediaTag)

theorem scanErased_some {s : State} {v n : Nat} {x : Scan} {cur : ScanCursor} (h : s.scansAt v n x cur) :
    scanErased v n s =
      if x.cancelRequested then endScan (.stopped .cancel) x (s.scanDropped x) else skipScan x cur (s.scanDropped x) := by
  obtain ⟨hx, hrun, hread, hcur, h1, hn, hrange⟩ := h
  have hp : x.place = some (v, cur) := Scan.place_eq_some.mpr ⟨hcur, h1, hrange⟩
  simp only [scanErased, hx, hp]
  rw [if_pos]
  · rfl
  · simp [hrun, Option.isSome_iff_ne_none, hread, hn]

/-- The cursor that follows is the one the statement names (R165). -/
theorem Scan.nextCursor_eq {x : Scan} {cur : ScanCursor} (h1 : 1 ≤ cur.entry)
    (hrange : x.ranges[cur.entry - 1]? ≠ none) :
    x.nextCursor cur =
      match x.after cur with
      | some next => (next, false)
      | none => ({ cur with segment := cur.segment + 1 }, true) := by
  have h0 : ¬ cur.entry = 0 := by omega
  have hat : x.rangeAt cur.entry = x.ranges[cur.entry - 1]? := if_neg h0
  have hnext : x.rangeAt (cur.entry + 1) = x.ranges[cur.entry]? := if_neg (Nat.succ_ne_zero _)
  unfold Scan.nextCursor Scan.after
  rw [hat, hnext]
  cases hr : x.ranges[cur.entry - 1]? with
  | none => exact absurd hr hrange
  | some r =>
    dsimp only
    split
    · rfl
    · cases x.ranges[cur.entry]? <;> rfl

theorem skipScan_next {x : Scan} {cur next : ScanCursor} (s : State) (h1 : 1 ≤ cur.entry)
    (hrange : x.ranges[cur.entry - 1]? ≠ none) (ha : x.after cur = some next) :
    skipScan x cur s =
      s.putScan { x with skipped := x.skipped + 1, cursor := some next, segmentRead := none, list := [] } := by
  have hn : ({ x with skipped := x.skipped + 1 } : Scan).nextCursor cur = (next, false) := by
    have := Scan.nextCursor_eq h1 hrange
    rw [ha] at this
    exact this
  simp [skipScan, advanceScan, hn]

theorem skipScan_done {x : Scan} {cur : ScanCursor} (s : State) (h1 : 1 ≤ cur.entry)
    (hrange : x.ranges[cur.entry - 1]? ≠ none) (ha : x.after cur = none) :
    skipScan x cur s =
      endScan .done
        { x with
          skipped := x.skipped + 1, cursor := some { cur with segment := cur.segment + 1 }, segmentRead := none
          list := [] } s := by
  have hn : ({ x with skipped := x.skipped + 1 } : Scan).nextCursor cur =
      ({ cur with segment := cur.segment + 1 }, true) := by
    have := Scan.nextCursor_eq h1 hrange
    rw [ha] at this
    exact this
  simp [skipScan, advanceScan, hn]

/-- The end of a scan: its descriptor, its report and its notice cause (R170). -/
theorem endScan_eq (phase : ScanPhase) (x : Scan) (s : State) :
    endScan phase x s =
      { s with
        scanActive := some { x with phase := phase, segmentRead := none, list := [], cancelRequested := false }
        conditions :=
          { s.conditions with
            last := if x.outcome = 0#18 then s.conditions.last
              else some { op := scanOp, outcome := x.outcome, time := s.now }
            causes := s.conditions.causes ++ [.scanEnd phase] } } := by
  rw [endScan, State.complete_eq]
  rfl

/-- What an erase that begins does to the Active scan of its segment. -/
structure State.SkipsScan (s t : State) (x : Scan) (cur : ScanCursor) : Prop where
  frame : t = { s with
    scanActive := t.scanActive, slots := t.slots
    arbiter := { s.arbiter with verify := t.arbiter.verify }
    conditions := { s.conditions with last := t.conditions.last, causes := t.conditions.causes } }
  verify : ∀ q, q ∈ t.arbiter.verify ↔ q ∈ s.arbiter.verify ∧ q.owner ≠ .scan
  slot : ∀ k, t.slot k = if k ∈ x.list.filterMap ReadEntry.mediaTag then (s.slot k).orphan else s.slot k
  cancelled : x.cancelRequested = true →
    t.scanActive = some { x with phase := .stopped .cancel, segmentRead := none, list := [], cancelRequested := false }
  advanced : x.cancelRequested = false → ∀ next, x.after cur = some next →
    t.scanActive = some { x with skipped := x.skipped + 1, cursor := some next, segmentRead := none, list := [] }
  done : x.cancelRequested = false → x.after cur = none →
    t.scanActive = some { x with
      skipped := x.skipped + 1, cursor := some { cur with segment := cur.segment + 1 }, segmentRead := none, list := []
      phase := .done, cancelRequested := false }
  reported : (x.cancelRequested = true ∨ x.after cur = none) → x.outcome ≠ 0#18 →
    t.conditions.last = some { op := scanOp, outcome := x.outcome, time := s.now }

theorem scanErased_skips {s : State} {v n : Nat} {x : Scan} {cur : ScanCursor} (h : s.scansAt v n x cur) :
    s.SkipsScan (scanErased v n s) x cur := by
  obtain ⟨-, -, -, -, h1, -, range, hrange, -⟩ := id h
  have hsome : x.ranges[cur.entry - 1]? ≠ none := by rw [hrange]; simp
  have hdropped : s.scanDropped x =
      { s with
        slots := (s.scanDropped x).slots
        arbiter := { s.arbiter with verify := (s.withdrawScan).arbiter.verify } } := by
    unfold State.scanDropped
    rw [State.orphanAll_eq]
    rfl
  have hslot : ∀ k, (s.scanDropped x).slot k =
      if k ∈ x.list.filterMap ReadEntry.mediaTag then (s.slot k).orphan else s.slot k := fun k =>
    State.orphanAll_slot s.withdrawScan _ k
  have hverify : ∀ q, q ∈ (s.withdrawScan).arbiter.verify ↔ q ∈ s.arbiter.verify ∧ q.owner ≠ .scan := fun q => by
    show q ∈ s.arbiter.verify.filter _ ↔ _
    simp
  rw [scanErased_some h]
  generalize (s.scanDropped x).slots = slots at hdropped
  generalize (s.withdrawScan).arbiter.verify = verify at hdropped hverify
  rw [hdropped] at hslot ⊢
  cases hc : x.cancelRequested with
  | true =>
    rw [if_pos rfl, endScan_eq]
    exact ⟨rfl, hverify, hslot, fun _ => rfl, fun hf => absurd (hc.symm.trans hf) (by decide),
      fun hf => absurd (hc.symm.trans hf) (by decide), fun _ ho => if_neg ho⟩
  | false =>
    rw [if_neg (by decide)]
    cases ha : x.after cur with
    | some next =>
      rw [skipScan_next _ h1 hsome ha]
      refine ⟨rfl, hverify, hslot, fun hf => absurd (hc.symm.trans hf) (by decide), fun _ y hy => ?_,
        fun _ hf => ?_, fun hor => ?_⟩
      · rw [ha] at hy
        injection hy with hy
        rw [← hy]
        rfl
      · rw [ha] at hf
        cases hf
      · rcases hor with hf | hf
        · exact absurd (hc.symm.trans hf) (by decide)
        · rw [ha] at hf
          cases hf
    | none =>
      rw [skipScan_done _ h1 hsome ha, endScan_eq]
      refine ⟨rfl, hverify, hslot, fun hf => absurd (hc.symm.trans hf) (by decide), fun _ y hy => ?_, fun _ _ => rfl,
        fun _ ho => if_neg ho⟩
      rw [ha] at hy
      cases hy

/-! ### The whole step -/

/-- The reads and the scan of a segment, from the state in which its erase begins, and the state after the step. -/
theorem eraseFrame_admitted {s : State} {f : Frame} {rest : List RxFrame} (ha : s.awaits f rest) (hk : f.kind = 5)
    (hj : judgeErase s f = none) :
    let n := (s.initiator f.initiator).relocate f.volume f.segment
    let u := stopReads f.volume n (List.range 32) ((s.taken rest).erasing f.volume n (some (f.initiator, f.tag)))
    exec .eraseFrame s = .next (scanErased f.volume n u).endStep := by
  intro n u
  have hjudge : judgeErase (s.taken rest) f = none := hj
  refine congrArg Host.Outcome.next ((frameEvent_full 5 takeErase s f rest ha hk).trans ?_)
  simp only [takeErase, hjudge]
  rfl

/-- The final reply of a read whose waiting entries have left (R105, R107). -/
theorem finalReadFrame_stopped (r : ReadContext) :
    finalReadFrame r.stopped =
      { replyFrame r.initiator r.tag r.volume
            (if r.ending = some ReadEnding.faulted then Status.faulted else Status.short) with
          segment := r.segment, offset := r.firstOffset, count := r.delivered
        }.withPayload (wordsBytes [r.outcome.toNat]) := by
  unfold finalReadFrame ReadContext.stopped
  cases h : r.ending with
  | none => rfl
  | some x => cases x <;> rfl

/-- What the scan's part of the step keeps, whether the scan reads the segment or not. -/
theorem scanErased_frame (v n : Nat) (s : State) :
    scanErased v n s =
      { s with
        scanActive := (scanErased v n s).scanActive, slots := (scanErased v n s).slots
        arbiter := { s.arbiter with verify := (scanErased v n s).arbiter.verify }
        conditions := { s.conditions with
          last := (scanErased v n s).conditions.last, causes := (scanErased v n s).conditions.causes } } := by
  by_cases h : ∃ x cur, s.scansAt v n x cur
  · obtain ⟨x, cur, h⟩ := h
    exact (scanErased_skips h).frame
  · rw [scanErased_none fun x cur hx => h ⟨x, cur, hx⟩]

/-- The state once the reads and the scan of the segment have stopped, before the end of the step. -/
theorem scanErased_stopReads {s u : State} {v n : Nat} {requester : Option (Nat × Nat)} {l : List Nat}
    {replies : List Frame} (h : (s.erasing v n requester).StopsReads u v n l replies) :
    scanErased v n u = { s.erasing v n requester with
      txQueue := s.txQueue ++ replies, contexts := u.contexts
      slots := (scanErased v n u).slots, scanActive := (scanErased v n u).scanActive
      arbiter :=
        { s.arbiter with
          read := u.arbiter.read, erase := s.arbiter.erase ++ [(waitingErase v n requester).request]
          verify := (scanErased v n u).arbiter.verify }
      conditions := { s.conditions with
        last := (scanErased v n u).conditions.last, causes := (scanErased v n u).conditions.causes } } := by
  refine (scanErased_frame v n u).trans ?_
  generalize scanErased v n u = t
  rw [h.frame]
  rfl

/-- The state after the step, with its notice. -/
theorem endStep_erased {s u t : State} {v n : Nat} {requester : Option (Nat × Nat)} {replies : List Frame}
    (ht : t = { s.erasing v n requester with
      txQueue := s.txQueue ++ replies, contexts := u.contexts, slots := t.slots, scanActive := t.scanActive
      arbiter :=
        { s.arbiter with
          read := u.arbiter.read, erase := s.arbiter.erase ++ [(waitingErase v n requester).request]
          verify := t.arbiter.verify }
      conditions := { s.conditions with last := t.conditions.last, causes := t.conditions.causes } }) :
    t.endStep = { s with
      txQueue := s.txQueue ++ (replies ++ t.notices)
      volumes := (s.putSegment v n { s.segment v n with state := .erasing }).volumes
      contexts := u.contexts, eraseQueue := s.eraseQueue ++ [waitingErase v n requester]
      slots := t.slots, scanActive := t.scanActive
      arbiter :=
        { s.arbiter with
          read := u.arbiter.read, erase := s.arbiter.erase ++ [(waitingErase v n requester).request]
          verify := t.arbiter.verify }
      conditions := t.conditions.noticed } := by
  rw [State.endStep_noticed, ← List.append_assoc]
  generalize t.notices = notices
  generalize t.conditions.noticed = conditions
  rw [ht]
  rfl

/-- A step of a settled Condition Unit in which no condition is raised moves its Last Outcome record and number alone. -/
theorem Conditions.noticed_of_unraised {c d : Conditions} (hs : c.causes = [])
    (h : d = { c with last := d.last, causes := d.causes }) :
    d.noticed = { c with last := d.last, noticeNumber := d.noticed.noticeNumber } := by
  unfold Conditions.noticed
  dsimp only
  generalize (if d.causes = [] then _ else _) = number
  rw [h, ← hs]

/-- Settles O22: the reads of the segment stop first, then the Active scan of it, and a notice follows. -/
theorem eraseStarts : Obligations.EraseStarts := by
  intro s f rest ha hk hw hj n entry reader scanned
  obtain ⟨hon, hs, hrx, hroom, hform⟩ := id ha
  obtain ⟨hen, hn, hstate⟩ := judgeErase_none hj
  have hlimit : Config.intakeLimit + 32 ≤ Config.transmitLimit := by decide
  refine ⟨(checkEraseState_none hstate).1, ?_⟩
  have hevent := eraseFrame_admitted ha hk hj
  dsimp only at hevent
  obtain ⟨replies, hreads⟩ := stopReads_stops f.volume n List.nodup_range
    ((s.taken rest).erasing f.volume n (some (f.initiator, f.tag)))
  generalize stopReads f.volume n (List.range 32) _ = u at hreads hevent
  have ht := scanErased_stopReads hreads
  have hskips := fun x cur (hx : u.scansAt f.volume n x cur) => scanErased_skips hx
  have hskips' := fun (hx : ∀ x cur, ¬ u.scansAt f.volume n x cur) => scanErased_none hx
  generalize scanErased f.volume n u = t at ht hskips hskips' hevent
  have hactive : u.scanActive = s.scanActive := by rw [hreads.frame]; rfl
  have hscanned : ∀ x cur, u.scansAt f.volume n x cur ↔ scanned x cur := fun x cur => by
    rw [State.scansAt, hactive]
  have hreader : ∀ c r, s.stopsRead f.volume n c r ↔ reader c r ∧ r.asks := fun c r => by
    simp only [State.stopsRead, reader, and_assoc]
  have hunit := Conditions.noticed_of_unraised hs (congrArg State.conditions ht :)
  have hsegment := fun v m => (State.putSegment_segment hw hn { s.segment f.volume n with state := .erasing } v m)
  have hlt : ∀ c r, reader c r → c ∈ List.range 32 := fun c r hr =>
    List.mem_range.mpr (State.context_lt (s := s) (by rw [hr.1]; simp))
  have hstopped : ∀ c r, reader c r → r.asks → u.context c = r.settled := fun c r hr hq =>
    hreads.stopped c r (hlt c r hr) ((hreader c r).mpr ⟨hr, hq⟩)
  have hlen : s.txQueue.length + (List.range 32).length ≤ Config.transmitLimit := by
    rw [List.length_range]
    omega
  have hslot : ∀ k, u.slot k = s.slot k := fun k => by
    rw [hreads.frame]
    rfl
  have hnow : u.now = s.now := by
    rw [hreads.frame]
    rfl
  rw [endStep_erased ht] at hevent
  refine ⟨_, replies ++ t.notices, hevent, ?_, fun v m hvm => ?_, rfl, rfl, fun c hc => ?_, fun c r hr =>
    ⟨fun hq => ?_, fun hq => ⟨fun hkept => ?_, fun hkept => ⟨?_, fun hl hp => ?_⟩⟩⟩, fun q => ?_,
    fun x cur hx => ⟨?_, ?_, ?_, ?_, ?_⟩, fun hx => ⟨?_, ?_, ?_, ?_⟩, hunit, fun y hy => ?_, rfl⟩
  · exact (hsegment f.volume n).trans (if_pos ⟨rfl, rfl⟩)
  · exact (hsegment v m).trans (if_neg hvm)
  · exact hreads.kept c fun r _ hr => hc r ((hreader c r).mp hr).1
  · refine (hreads.kept c fun p _ hp => ?_).trans hr.1
    obtain ⟨⟨hp, -⟩, e, he, hwait⟩ := (hreader c p).mp hp
    injection hr.1.symm.trans hp with hrp
    exact hq e (hrp ▸ he) hwait
  · exact (hstopped c r hr hq).trans (if_neg hkept)
  · exact (hstopped c r hr hq).trans (if_pos hkept)
  · have hreply := hreads.heard hlen c r (hlt c r hr) ((hreader c r).mpr ⟨hr, hq⟩) hkept hl hp
    rw [finalReadFrame_stopped, hr.2.2] at hreply
    exact List.mem_append_left _ hreply
  · refine (hreads.asked q).trans (and_congr_right fun _ => not_congr ?_)
    constructor
    · rintro ⟨c, r, -, ho, hr⟩
      exact ⟨c, r, ho, (hreader c r).mp hr⟩
    · rintro ⟨c, r, ho, hr⟩
      exact ⟨c, r, hlt c r hr.1, ho, (hreader c r).mpr hr⟩
  · intro q
    refine ((hskips x cur ((hscanned x cur).mpr hx)).verify q).trans ?_
    rw [hreads.frame]
    rfl
  · intro e he k command cls owner timer htag hbusy
    have hmem : k ∈ x.list.filterMap ReadEntry.mediaTag := List.mem_filterMap.mpr ⟨e, he, htag⟩
    refine ((hskips x cur ((hscanned x cur).mpr hx)).slot k).trans ((if_pos hmem).trans ?_)
    rw [hslot, hbusy]
    rfl
  · intro k hk
    refine ((hskips x cur ((hscanned x cur).mpr hx)).slot k).trans ((if_neg fun hmem => ?_).trans (hslot k))
    obtain ⟨e, he, htag⟩ := List.mem_filterMap.mp hmem
    exact hk e he htag
  · intro hc
    have hskip := hskips x cur ((hscanned x cur).mpr hx)
    exact ⟨hskip.cancelled hc, fun ho => hnow ▸ hskip.reported (.inl hc) ho⟩
  · intro hc
    have hskip := hskips x cur ((hscanned x cur).mpr hx)
    exact ⟨fun next hnext => hskip.advanced hc next hnext, fun hnext =>
      ⟨hskip.done hc hnext, fun ho => hnow ▸ hskip.reported (.inr hnext) ho⟩⟩
  · rw [hskips' fun x cur h => hx x cur ((hscanned x cur).mp h)]
    exact hactive
  · rw [hskips' fun x cur h => hx x cur ((hscanned x cur).mp h), hreads.frame]
    rfl
  · rw [hskips' fun x cur h => hx x cur ((hscanned x cur).mp h), hreads.frame]
    rfl
  · intro hquiet
    have hsame : t.conditions = s.conditions := by
      rw [hskips' fun x cur h => hx x cur ((hscanned x cur).mp h)]
      exact hreads.quiet fun c r _ hr => hquiet c r ((hreader c r).mp hr).1
    show t.conditions.noticed = s.conditions
    rw [hsame, Conditions.noticed, if_pos hs, ← hs]
  · rcases List.mem_append.mp hy with hy | hy
    · exact .inl (hreads.kinds y hy)
    · exact .inr (State.mem_notices hy).1

end Sys2Proof.Machine

end

section
/-! SUPPORT. The work of an initiator that is removed: what is left of its contexts, of their slots and requests, and of
the writers that named them. -/

namespace Sys2Proof.Machine

/-- What the removal of initiator i leaves of a context (R54, R97, R108). -/
def Context.removedBy (i : Nat) : Context → Context
  | .write w =>
    if w.initiator = i then
      match w.state with
      | .streaming => { w with removed := true }.silenced
      | .draining => { w with removed := true }.silenced
      | .aborting => .write { w with silent := true, removed := true }
      | .faulted => .write { w with removed := true }
      | .reissuing => .write { w with removed := true }
    else .write w
  | .read r => if r.initiator = i then .free else .read r
  | .free => .free

/-- A write context that the removal of initiator i frees. -/
def State.freesWrite (s : State) (i c : Nat) (w : WriteContext) : Prop :=
  s.context c = .write w ∧ w.initiator = i ∧ (w.state = .streaming ∨ w.state = .draining) ∧ w.pending = []

/-- A read context that the removal of initiator i frees. -/
def State.dropsRead (s : State) (i c : Nat) (r : ReadContext) : Prop := s.context c = .read r ∧ r.initiator = i

/-- Between s and t the work of initiator i in the contexts of a list ends. -/
structure State.Removes (s t : State) (i : Nat) (l : List Nat) : Prop where
  frame : t = { s with
    contexts := t.contexts, volumes := t.volumes, slots := t.slots
    arbiter := { s.arbiter with read := t.arbiter.read }
    conditions := { s.conditions with last := t.conditions.last } }
  context : ∀ c, t.context c = if c ∈ l then (s.context c).removedBy i else s.context c
  orphaned : ∀ c r k, c ∈ l → s.dropsRead i c r → k ∈ r.list.filterMap ReadEntry.mediaTag → t.slot k = (s.slot k).orphan
  owned : ∀ k, (∀ c r, c ∈ l → s.dropsRead i c r → k ∉ r.list.filterMap ReadEntry.mediaTag) → t.slot k = s.slot k
  asked : ∀ q, q ∈ t.arbiter.read ↔ q ∈ s.arbiter.read ∧ ¬ ∃ c r, c ∈ l ∧ q.owner = .read c ∧ s.dropsRead i c r
  canonical : s.canonical → t.canonical
  count : ∀ v, (t.volume v).count = (s.volume v).count
  cleared : s.canonical → ∀ c w v m, c ∈ l → s.freesWrite i c w → w.worksIn v m → m < (s.volume v).count →
    (s.segment v m).writer = some c → t.segment v m = { s.segment v m with writer := none }
  uncleared : s.canonical → ∀ v m, (∀ c w, c ∈ l → s.freesWrite i c w → w.worksIn v m → m < (s.volume v).count →
    (s.segment v m).writer ≠ some c) → t.segment v m = s.segment v m
  quiet : (∀ c w, c ∈ l → s.freesWrite i c w → w.outcome = 0#18) → (∀ c r, c ∈ l → s.dropsRead i c r → r.outcome = 0#18) →
    t.conditions = s.conditions

theorem State.Removes.refl (s : State) (i : Nat) : s.Removes s i [] where
  frame := rfl
  context _ := rfl
  orphaned := by simp
  owned _ _ := rfl
  asked := by simp
  canonical := id
  count _ := rfl
  cleared := by simp
  uncleared _ _ _ _ := rfl
  quiet _ _ := rfl

/-- One context is given what the removal leaves of it, and no other part of the state changes. -/
theorem State.Removes.stored {s t : State} {i c : Nat} (hw : ∀ w, ¬ s.freesWrite i c w) (hr : ∀ r, ¬ s.dropsRead i c r)
    (hc : ∀ d, t.context d = if d ∈ [c] then (s.context d).removedBy i else s.context d)
    (ht : t = { s with contexts := t.contexts }) : s.Removes t i [c] := by
  have hone : ∀ {d}, d ∈ [c] → d = c := fun hd => List.mem_singleton.mp hd
  have hvolumes : t.volumes = s.volumes := by rw [ht]
  refine ⟨ht.trans ?_, hc, fun d r k hd h => absurd (hone hd ▸ h) (hr r), fun k _ => ?_, fun q => ?_, fun h v => ?_,
    fun v => ?_, fun _ d w v m hd h => absurd (hone hd ▸ h) (hw w), fun _ v m _ => State.segment_congr hvolumes v m,
    fun _ _ => ?_⟩
  · rw [ht]
  · rw [ht]; rfl
  · rw [ht]
    exact ⟨fun hq => ⟨hq, fun ⟨d, r, hd, _, h⟩ => hr r (hone hd ▸ h)⟩, And.left⟩
  · rw [State.volume_congr hvolumes]
    exact h v
  · rw [State.volume_congr hvolumes]
  · rw [ht]

/-- The contexts of a state in which one context has been given what the removal leaves of it. -/
theorem context_set_removed {s t : State} {i c : Nat} {x : Context} (hc : s.context c ≠ .free)
    (hx : (s.context c).removedBy i = x) (ht : t.contexts = Table.set s.contexts c x) (d : Nat) :
    t.context d = if d ∈ [c] then (s.context d).removedBy i else s.context d := by
  show Table.get Context.free t.contexts d = _
  rw [ht]
  by_cases hd : d = c
  · rw [if_pos (List.mem_singleton.mpr hd), hd, hx]
    exact Table.get_set_same _ _ _ _ (State.context_lt hc)
  · rw [if_neg fun h => hd (List.mem_singleton.mp h)]
    exact Table.get_set_other _ _ _ _ _ hd

/-- A context of which the removal leaves everything. -/
theorem State.Removes.pass {s : State} {i c : Nat} (hw : ∀ w, ¬ s.freesWrite i c w) (hr : ∀ r, ¬ s.dropsRead i c r)
    (hc : (s.context c).removedBy i = s.context c) : s.Removes s i [c] := by
  refine .stored hw hr (fun d => ?_) rfl
  split
  · next hd => rw [List.mem_singleton.mp hd, hc]
  · rfl

/-- A write context that goes on without its initiator. -/
theorem State.Removes.put {s : State} {i c : Nat} {w x : WriteContext} (hc : s.context c = .write w)
    (hx : (Context.write w).removedBy i = .write x)
    (hkept : w.initiator = i → ¬ ((w.state = .streaming ∨ w.state = .draining) ∧ w.pending = [])) :
    s.Removes (s.putWrite c x) i [c] := by
  have hne : s.context c ≠ .free := by
    rw [hc]
    simp
  refine .stored (fun y hy => ?_) (fun r hr => ?_) (context_set_removed hne (by rw [hc, hx]) rfl) rfl
  · obtain ⟨hy, hi, hstate, hp⟩ := hy
    injection hc.symm.trans hy with hwy
    subst hwy
    exact hkept hi ⟨hstate, hp⟩
  · have := hc.symm.trans hr.1
    cases this

theorem State.clearEach_canonical {s : State} (hw : s.canonical) (v c : Nat) (l : List Nat) :
    (s.clearEach v c l).canonical := by
  induction l generalizing s with
  | nil => exact hw
  | cons n rest ih => exact ih (State.clearWriter_canonical hw v n c)

theorem State.clearEach_count (s : State) (v c : Nat) (l : List Nat) (u : Nat) :
    ((s.clearEach v c l).volume u).count = (s.volume u).count := by
  induction l generalizing s with
  | nil => rfl
  | cons n rest ih => rw [State.clearEach, ih, s.clearWriter_count]

/-- A write context with nothing pending is freed (R94, R95, R97). -/
theorem State.Removes.freed {s : State} {i c : Nat} {w x : WriteContext} (h : s.freesWrite i c w)
    (hx : x.outcome = w.outcome ∧ x.volume = w.volume ∧ x.startSegment = w.startSegment ∧ x.current = w.current ∧
      x.next = w.next) : s.Removes (freeWrite c x s) i [c] := by
  obtain ⟨hc, hi, hstate, hp⟩ := id h
  have hone : ∀ {d}, d ∈ [c] → d = c := fun hd => List.mem_singleton.mp hd
  have hne : s.context c ≠ .free := by
    rw [hc]
    simp
  have hsame : ∀ {y}, s.freesWrite i c y → y = w := fun hy => by
    have := hy.1.symm.trans hc
    injection this
  have hno : ∀ {d r}, d ∈ [c] → ¬ s.dropsRead i d r := fun hd hr => by
    rw [hone hd] at hr
    have := hc.symm.trans hr.1
    cases this
  have hfree : (s.context c).removedBy i = .free := by
    rw [hc, Context.removedBy, if_pos hi]
    rcases hstate with hx | hx <;> simp [hx, WriteContext.silenced, hp]
  have hworks : ∀ v m, x.worksIn v m ↔ w.worksIn v m := fun v m => by
    obtain ⟨-, hv, hs, hcur, hnext⟩ := hx
    rw [WriteContext.worksIn, WriteContext.worksIn, hv, hs, hcur, hnext]
  have heq := freeWrite_eq c x s
  have hvolumes : (freeWrite c x s).volumes = (clearWriters x c s).volumes := by rw [heq]
  refine ⟨?_, context_set_removed hne hfree (by rw [heq]), fun d r k hd hr => absurd hr (hno hd), fun k _ => ?_, fun q => ?_,
    fun hw v => ?_, fun v => ?_, fun hw d y v m hd hy hin hm hwr => ?_, fun hw v m hall => ?_, fun hq _ => ?_⟩
  · rw [heq]
  · rw [heq]; rfl
  · rw [heq]
    exact ⟨fun hq => ⟨hq, fun ⟨d, r, hd, _, hr⟩ => hno hd hr⟩, And.left⟩
  · rw [State.volume_congr hvolumes, clearWriters_clearEach]
    exact State.clearEach_canonical hw _ _ _ v
  · rw [State.volume_congr hvolumes, clearWriters_clearEach, State.clearEach_count]
  · rw [State.segment_congr hvolumes]
    obtain ⟨hin', -⟩ := clearWriters_clears hw x c
    rw [hone hd] at hy hwr
    rw [hsame hy] at hin
    rw [hin' v m ⟨(hworks v m).mpr hin, hm⟩]
    exact Segment.without_of_eq hwr
  · rw [State.segment_congr hvolumes]
    obtain ⟨hin', hout'⟩ := clearWriters_clears hw x c
    by_cases hcase : x.worksIn v m ∧ m < (s.volume v).count
    · rw [hin' v m hcase]
      exact Segment.without_of_ne (hall c w (List.mem_singleton.mpr rfl) h ((hworks v m).mp hcase.1) hcase.2)
    · exact hout' v m hcase
  · rw [heq]
    have hout : x.outcome = 0#18 := hx.1.trans (hq c w (List.mem_singleton.mpr rfl) h)
    simp only [hout, if_true]

/-- A read that is dropped: its requests withdrawn, its slots without an owner, its context Free and its end reported. -/
theorem dropRead_eq (c : Nat) (r : ReadContext) (s : State) :
    dropRead c r s =
      { s with
        contexts := Table.set s.contexts c .free
        slots := (s.orphanAll (r.list.filterMap ReadEntry.mediaTag)).slots
        arbiter := { s.arbiter with read := s.arbiter.read.filter (fun q => !decide (q.owner = .read c)) }
        conditions :=
          { s.conditions with
            last := if r.outcome = 0#18 then s.conditions.last
              else some { op := r.op, outcome := r.outcome, time := s.now } } } := by
  have hslots : ∀ (l : List Nat) (u v : State), u.slots = v.slots → (u.orphanAll l).slots = (v.orphanAll l).slots := by
    intro l
    induction l with
    | nil => exact fun _ _ h => h
    | cons t rest ih =>
      intro u v h
      refine ih _ _ ?_
      show Table.set u.slots t (Table.get Slot.free u.slots t).orphan = Table.set v.slots t (Table.get Slot.free v.slots t).orphan
      rw [h]
  rw [dropRead, State.complete_eq, State.orphanAll_eq,
    hslots (r.list.filterMap ReadEntry.mediaTag) (s.withdrawReads c) s rfl]
  rfl

/-- A read of the initiator is freed (R108, R142). -/
theorem State.Removes.dropped {s : State} {i c : Nat} {r : ReadContext} (h : s.dropsRead i c r) :
    s.Removes (dropRead c r s) i [c] := by
  obtain ⟨hc, hi⟩ := id h
  have hone : ∀ {d}, d ∈ [c] → d = c := fun hd => List.mem_singleton.mp hd
  have hne : s.context c ≠ .free := by
    rw [hc]
    simp
  have hsame : ∀ {d p}, d ∈ [c] → s.dropsRead i d p → p = r := fun hd hp => by
    rw [hone hd] at hp
    have := hp.1.symm.trans hc
    injection this
  have hno : ∀ {d w}, d ∈ [c] → ¬ s.freesWrite i d w := fun hd hw => by
    rw [hone hd] at hw
    have := hc.symm.trans hw.1
    cases this
  have hfree : (s.context c).removedBy i = .free := by rw [hc, Context.removedBy, if_pos hi]
  have heq := dropRead_eq c r s
  have hslot : ∀ k, (dropRead c r s).slot k =
      if k ∈ r.list.filterMap ReadEntry.mediaTag then (s.slot k).orphan else s.slot k := fun k => by
    rw [heq]
    exact s.orphanAll_slot _ k
  have hvolumes : (dropRead c r s).volumes = s.volumes := by rw [heq]
  refine ⟨?_, context_set_removed hne hfree (by rw [heq]), fun d p k hd hp hk => ?_, fun k hk => ?_, fun q => ?_,
    fun hw v => ?_, fun v => ?_, fun _ d w v m hd hw => absurd hw (hno hd), fun _ v m _ => State.segment_congr hvolumes v m,
    fun _ hq => ?_⟩
  · rw [heq]
  · rw [hsame hd hp] at hk
    exact (hslot k).trans (if_pos hk)
  · exact (hslot k).trans (if_neg (hk c r (List.mem_singleton.mpr rfl) h))
  · rw [heq]
    simp only [List.mem_filter, Bool.not_eq_true', decide_eq_false_iff_not]
    refine and_congr_right fun _ => not_congr ⟨fun hq => ⟨c, r, List.mem_singleton.mpr rfl, hq, h⟩, ?_⟩
    rintro ⟨d, p, hd, hq, -⟩
    rw [hq, hone hd]
  · rw [State.volume_congr hvolumes]
    exact hw v
  · rw [State.volume_congr hvolumes]
  · rw [heq]
    have hout : r.outcome = 0#18 := hq c r (List.mem_singleton.mpr rfl) h
    simp only [hout, if_true]

/-- The removal of an initiator ends its work in one context. -/
theorem removeContext_removes (i c : Nat) (s : State) : s.Removes (removeContext i c s) i [c] := by
  unfold removeContext
  split
  · next w hc =>
    split
    · next hi =>
      have hput : ∀ {x : WriteContext}, (Context.write w).removedBy i = .write x →
          (w.state ≠ .streaming ∧ w.state ≠ .draining) ∨ w.pending ≠ [] → s.Removes (s.putWrite c x) i [c] :=
        fun hx hk => .put hc hx fun _ h => by
          rcases hk with ⟨h1, h2⟩ | hp
          · rcases h.1 with h' | h'
            · exact h1 h'
            · exact h2 h'
          · exact hp h.2
      have hends : ∀ x : WriteContext, w.state = .streaming ∨ w.state = .draining →
          x = { w with silent := true, removed := true } → s.Removes (abortWrite c x s) i [c] := by
        rintro x hstate rfl
        unfold abortWrite settleAborting
        split
        · next hp => exact .freed ⟨hc, hi, hstate, hp⟩ ⟨rfl, rfl, rfl, rfl, rfl⟩
        · next hp =>
          refine hput ?_ (.inr hp)
          rcases hstate with hx | hx <;>
            · have hp' : ¬ w.pending = [] := hp
              simp [Context.removedBy, hi, hx, WriteContext.silenced, hp']
      split
      · next hx => exact hends _ (.inl hx) rfl
      · next hx => exact hends _ (.inr hx) rfl
      · next hx => exact hput (by simp [Context.removedBy, hi, hx]) (.inl (by simp [hx]))
      · next hx => exact hput (by simp [Context.removedBy, hi, hx]) (.inl (by simp [hx]))
      · next hx => exact hput (by simp [Context.removedBy, hi, hx]) (.inl (by simp [hx]))
    · next hi =>
      refine .pass (fun x hx => ?_) (fun r hr => ?_) (by rw [hc, Context.removedBy, if_neg hi])
      · have := hc.symm.trans hx.1
        injection this with hwx
        exact hi (hwx ▸ hx.2.1)
      · have := hc.symm.trans hr.1
        cases this
  · next r hc =>
    split
    · next hi => exact .dropped ⟨hc, hi⟩
    · next hi =>
      refine .pass (fun x hx => ?_) (fun p hp => ?_) (by rw [hc, Context.removedBy, if_neg hi])
      · have := hc.symm.trans hx.1
        cases this
      · have := hc.symm.trans hp.1
        injection this with hrp
        exact hi (hrp ▸ hp.2)
  · next hc =>
    refine .pass (fun x hx => ?_) (fun p hp => ?_) (by rw [hc]; rfl)
    · have := hc.symm.trans hx.1
      cases this
    · have := hc.symm.trans hp.1
      cases this

/-- The work in further contexts ends after that in one. -/
theorem State.Removes.cons {s t u : State} {i c : Nat} {l : List Nat} (hc : c ∉ l) (h : s.Removes t i [c])
    (k : t.Removes u i l) : s.Removes u i (c :: l) := by
  have hhead : c ∈ [c] := List.mem_singleton.mpr rfl
  have hone : ∀ {d}, d ∈ [c] → d = c := fun hd => List.mem_singleton.mp hd
  have hsame : ∀ d, d ∈ l → t.context d = s.context d := fun d hd => by
    rw [h.context d, if_neg fun hdc => hc (hone hdc ▸ hd)]
  have hdrops : ∀ d r, d ∈ l → (t.dropsRead i d r ↔ s.dropsRead i d r) := fun d r hd => by
    rw [State.dropsRead, State.dropsRead, hsame d hd]
  have hfrees : ∀ d w, d ∈ l → (t.freesWrite i d w ↔ s.freesWrite i d w) := fun d w hd => by
    rw [State.freesWrite, State.freesWrite, hsame d hd]
  refine ⟨?_, fun d => ?_, fun d r n hd hr hn => ?_, fun n hn => ?_, fun q => ?_, fun hw => k.canonical (h.canonical hw),
    fun v => (k.count v).trans (h.count v), fun hw d w v m hd hy hin hm hwr => ?_, fun hw v m hall => ?_, fun hq hr => ?_⟩
  · rw [k.frame, h.frame]
  · rw [k.context d]
    by_cases hd : d ∈ l
    · rw [if_pos hd, hsame d hd, if_pos (List.mem_cons.mpr (.inr hd))]
    · rw [if_neg hd, h.context d]
      by_cases hdc : d = c
      · rw [if_pos (List.mem_singleton.mpr hdc), if_pos (List.mem_cons.mpr (.inl hdc))]
      · rw [if_neg fun hx => hdc (hone hx), if_neg fun hx => (List.mem_cons.mp hx).elim hdc hd]
  · by_cases hlater : ∃ d p, d ∈ l ∧ s.dropsRead i d p ∧ n ∈ p.list.filterMap ReadEntry.mediaTag
    · obtain ⟨e, p, he, hp, hnp⟩ := hlater
      rw [k.orphaned e p n he ((hdrops e p he).mpr hp) hnp]
      by_cases hfirst : ∃ d p, d ∈ [c] ∧ s.dropsRead i d p ∧ n ∈ p.list.filterMap ReadEntry.mediaTag
      · obtain ⟨e', p', he', hp', hnp'⟩ := hfirst
        rw [h.orphaned e' p' n he' hp' hnp', Slot.orphan_idem]
      · rw [h.owned n fun e' p' he' hp' hnp' => hfirst ⟨e', p', he', hp', hnp'⟩]
    · rw [k.owned n fun e p he hp hnp => hlater ⟨e, p, he, (hdrops e p he).mp hp, hnp⟩]
      rcases List.mem_cons.mp hd with rfl | hdl
      · exact h.orphaned d r n hhead hr hn
      · exact absurd ⟨d, r, hdl, hr, hn⟩ hlater
  · rw [k.owned n fun e p he hp => hn e p (List.mem_cons.mpr (.inr he)) ((hdrops e p he).mp hp)]
    exact h.owned n fun e p he hp => hn e p (List.mem_cons.mpr (.inl (hone he))) hp
  · rw [k.asked, h.asked, and_assoc]
    refine and_congr_right fun _ => ?_
    rw [← not_or]
    refine not_congr ⟨?_, ?_⟩
    · rintro (⟨d, r, hd, hq, hr⟩ | ⟨d, r, hd, hq, hr⟩)
      · exact ⟨d, r, List.mem_cons.mpr (.inl (hone hd)), hq, hr⟩
      · exact ⟨d, r, List.mem_cons.mpr (.inr hd), hq, (hdrops d r hd).mp hr⟩
    · rintro ⟨d, r, hd, hq, hr⟩
      rcases List.mem_cons.mp hd with rfl | hdl
      · exact .inl ⟨d, r, hhead, hq, hr⟩
      · exact .inr ⟨d, r, hdl, hq, (hdrops d r hdl).mpr hr⟩
  · rcases List.mem_cons.mp hd with rfl | hdl
    · have hfirst := h.cleared hw d w v m hhead hy hin hm hwr
      rw [← hfirst]
      refine k.uncleared (h.canonical hw) v m fun e y _ _ _ _ hwe => ?_
      rw [hfirst] at hwe
      cases hwe
    · have hfirst : t.segment v m = s.segment v m := h.uncleared hw v m fun e y he _ _ _ hwe => by
        have := hwr.symm.trans hwe
        injection this with hde
        exact hc (hone he ▸ hde ▸ hdl)
      rw [← hfirst] at hwr ⊢
      exact k.cleared (h.canonical hw) d w v m hdl ((hfrees d w hdl).mpr hy) hin (by rw [h.count]; exact hm) hwr
  · have hfirst : t.segment v m = s.segment v m := h.uncleared hw v m fun e y he =>
      hall e y (List.mem_cons.mpr (.inl (hone he)))
    rw [← hfirst]
    refine k.uncleared (h.canonical hw) v m fun e y he hy hin hm => ?_
    rw [hfirst]
    rw [h.count] at hm
    exact hall e y (List.mem_cons.mpr (.inr he)) ((hfrees e y he).mp hy) hin hm
  · rw [k.quiet (fun e y he hy => hq e y (List.mem_cons.mpr (.inr he)) ((hfrees e y he).mp hy))
      fun e p he hp => hr e p (List.mem_cons.mpr (.inr he)) ((hdrops e p he).mp hp)]
    exact h.quiet (fun e y he hy => hq e y (List.mem_cons.mpr (.inl (hone he))) hy)
      fun e p he hp => hr e p (List.mem_cons.mpr (.inl (hone he))) hp

/-- The removal of an initiator ends its work, context after context (R54). -/
theorem eachContext_removes (i : Nat) {l : List Nat} (hl : l.Nodup) (s : State) :
    s.Removes (eachContext (removeContext i) l s) i l := by
  induction l generalizing s with
  | nil => exact .refl s i
  | cons c rest ih =>
    obtain ⟨hc, hrest⟩ := List.nodup_cons.mp hl
    exact (removeContext_removes i c s).cons hc (ih hrest _)

end Sys2Proof.Machine

end

section
/-! PROOF. The removal of an initiator. -/

namespace Sys2Proof.Machine

/-! ### The judgement (R53) -/

/-- An entry that is not Absent is one of the 32. -/
theorem State.initiator_lt {s : State} {i : Nat} (h : (s.initiator i).state ≠ .absent) : i < 32 := by
  by_contra hi
  refine h ?_
  have : s.initiator i = InitiatorEntry.absent := by simp [State.initiator, Table.get, hi]
  rw [this]
  rfl

theorem givenEntry_absent {f : Frame} (h : f.param 1 = 0) : givenEntry f = InitiatorEntry.absent := if_pos h

/-- An Enabled officer remains when another entry is one. -/
theorem lastOfficer_absent {s : State} {i j : Nat} (hj : j ≠ i) (hen : (s.initiator j).state = .enabled)
    (ho : (s.initiator j).officer = true) : lastOfficer s i InitiatorEntry.absent = false := by
  have hlt : j < 32 := State.initiator_lt (s := s) (by rw [hen]; decide)
  simp only [lastOfficer, Bool.not_eq_false']
  refine List.any_eq_true.mpr ⟨j, List.mem_range.mpr hlt, ?_⟩
  simp [hj, hen, ho]

/-- A removal that leaves an Enabled officer passes every row (R53). -/
theorem judgeLoadInitiator_removal {s : State} {f : Frame} {j : Nat} (h : f.param 1 = 0)
    (hp : (s.initiator (f.param 0)).state ≠ .absent) (hj : j ≠ f.param 0) (hen : (s.initiator j).state = .enabled)
    (ho : (s.initiator j).officer = true) : judgeLoadInitiator s f = none := by
  have hlt := State.initiator_lt hp
  have hrange : ¬ 31 < f.param 0 := by omega
  have hwindow : windowTaken s (f.param 0) InitiatorEntry.absent = false := rfl
  simp [judgeLoadInitiator, badEntryNames, h, hrange, givenEntry_absent h, hwindow, lastOfficer_absent hj hen ho]

/-! ### The removal (R54) -/

theorem dropOf_eq (i : Nat) (p : Option (Nat × Nat)) : dropOf i p = p.filter (fun q => decide (q.1 ≠ i)) := by
  cases p with
  | none => rfl
  | some q => by_cases h : q.1 = i <;> simp [dropOf, Option.filter, h]

theorem Table.get1_map {α : Type} {n : Nat} (g : Option α → Option α) (hg : g none = none) (t : Vector (Option α) n)
    (i : Nat) : Table.get1 none (t.map g) i = g (Table.get1 none t i) := by
  unfold Table.get1 Table.get
  split
  · exact hg.symm
  · rw [Vector.getElem?_map]
    cases t[i - 1]? with
    | none => exact hg.symm
    | some x => rfl

/-- The state in which an initiator's entry has become Absent. -/
def State.unlisted (s : State) (i : Nat) : State :=
  { s with initiators := Table.set s.initiators i InitiatorEntry.absent }

/-- The state before the request is answered, with what the removal leaves of the contexts, the volumes and the slots. -/
theorem writeEntry_removal {s u : State} {i : Nat} (hu : (s.unlisted i).Removes u i (List.range 32))
    (he : eachContext (removeContext i) (List.range 32) (s.unlisted i) = u) :
    writeEntry i InitiatorEntry.absent s =
      { s.unlisted i with
        contexts := u.contexts, volumes := u.volumes, slots := u.slots
        arbiter := { s.arbiter with read := u.arbiter.read }
        conditions := { s.conditions with last := u.conditions.last }
        eraseQueue := s.eraseQueue.map (fun e => { e with requester := dropOf i e.requester })
        records := s.records.map (fun r => r.map (fun x => { x with resumer := dropOf i x.resumer }))
        collection := s.collection.filter (fun c => !decide (c.initiator = i))
        txQueue := s.txQueue.filter (fun f => !decide (f.initiator = i) || isCheckOneRefusal f) } := by
  have hstate : InitiatorEntry.absent.state = .absent := rfl
  unfold writeEntry
  dsimp only
  rw [if_pos hstate]
  unfold removeInitiator
  have he' : eachContext (removeContext i) (List.range 32)
      { s with initiators := Table.set s.initiators i InitiatorEntry.absent } = u := he
  rw [he', hu.frame]
  rfl

theorem State.unlisted_initiator_same {s : State} {i : Nat} (h : i < 32) :
    (s.unlisted i).initiator i = InitiatorEntry.absent := Table.get_set_same _ _ _ _ h

theorem State.unlisted_initiator_other (s : State) {i j : Nat} (h : j ≠ i) :
    (s.unlisted i).initiator j = s.initiator j := Table.get_set_other _ _ _ _ _ h

theorem State.send_absent {s : State} {f : Frame} (h : (s.initiator f.initiator).state = .absent) : s.send f = s := by
  unfold State.send
  refine if_neg ?_
  simp [State.present, h]

/-- The answer to the removal: an officer that removes itself does not hear it (log 40). -/
theorem answerControl_removal {s u : State} {f : Frame} {i : Nat} (hu : u.initiators = (s.unlisted i).initiators)
    (hl : u.ingestLink = .ready) (hen : (s.initiator f.initiator).state = .enabled)
    (hroom : u.txQueue.length < Config.transmitLimit) :
    answerControl f .done [] u =
      { u with txQueue := u.txQueue ++ if i = f.initiator then [] else [f.reply .done []] } := by
  have hinitiator : u.initiator f.initiator = (s.unlisted i).initiator f.initiator := by
    unfold State.initiator
    rw [hu]
  by_cases hi : i = f.initiator
  · have hgone : (u.initiator f.initiator).state = .absent := by
      have hlt : f.initiator < 32 := State.initiator_lt (s := s) (by rw [hen]; decide)
      rw [hinitiator, hi, State.unlisted_initiator_same hlt]
      rfl
    rw [if_pos hi, List.append_nil]
    exact State.send_absent (f := controlReply f.initiator f.tag f.code .done []) hgone
  · rw [if_neg hi]
    refine State.send_placed u (f.reply .done []) hl ?_ hroom
    show (u.initiator f.initiator).state ≠ .absent
    rw [hinitiator, State.unlisted_initiator_other s (Ne.symm hi), hen]
    decide

/-! ### What is left of the work (R12, R97, R108, R142) -/

theorem State.listed {s : State} {c : Nat} (h : s.context c ≠ .free) : c ∈ List.range 32 :=
  List.mem_range.mpr (State.context_lt h)

theorem State.write_listed {s : State} {c : Nat} {w : WriteContext} (h : s.context c = .write w) : c ∈ List.range 32 :=
  State.listed (s := s) (by rw [h]; simp)

theorem State.read_listed {s : State} {c : Nat} {r : ReadContext} (h : s.context c = .read r) : c ∈ List.range 32 :=
  State.listed (s := s) (by rw [h]; simp)

section
variable {s u : State} {i : Nat} (h : s.Removes u i (List.range 32))
include h

theorem State.Removes.every_context (c : Nat) : u.context c = (s.context c).removedBy i := by
  rw [h.context]
  split
  · rfl
  · next hout =>
    have hfree : s.context c = .free := by_contra fun hx => hout (State.listed hx)
    rw [hfree]
    rfl

theorem State.Removes.write_terminated {c : Nat} {w : WriteContext} (hc : s.context c = .write w) (hi : w.initiator = i)
    (hw : w.state = .streaming ∨ w.state = .draining) : u.context c = { w with removed := true }.silenced := by
  rw [h.every_context, hc, Context.removedBy, if_pos hi]
  rcases hw with hw | hw <;> rw [hw]

theorem State.Removes.write_aborting {c : Nat} {w : WriteContext} (hc : s.context c = .write w) (hi : w.initiator = i)
    (hw : w.state = .aborting) : u.context c = .write { w with silent := true, removed := true } := by
  rw [h.every_context, hc, Context.removedBy, if_pos hi, hw]

theorem State.Removes.write_recorded {c : Nat} {w : WriteContext} (hc : s.context c = .write w) (hi : w.initiator = i)
    (hw : w.state = .faulted ∨ w.state = .reissuing) : u.context c = .write { w with removed := true } := by
  rw [h.every_context, hc, Context.removedBy, if_pos hi]
  rcases hw with hw | hw <;> rw [hw]

theorem State.Removes.write_other {c : Nat} {w : WriteContext} (hc : s.context c = .write w) (hi : ¬ w.initiator = i) :
    u.context c = .write w := by
  rw [h.every_context, hc, Context.removedBy, if_neg hi]

theorem State.Removes.free_kept {c : Nat} (hc : s.context c = .free) : u.context c = .free := by
  rw [h.every_context, hc]
  rfl

/-- The reads of the initiator are dropped (R108, R142). -/
theorem State.Removes.dropsReads : s.dropsReads u (fun r => r.initiator = i) := by
  refine ⟨fun c r hr => ⟨fun hi => ?_, fun hi => ?_⟩, fun c r hr hi e he k command cls owner timer hk hbusy => ?_,
    fun k hk => ?_, fun q => ?_, ?_⟩
  · rw [h.every_context, hr, Context.removedBy, if_pos hi]
  · rw [h.every_context, hr, Context.removedBy, if_neg hi]
  · rw [h.orphaned c r k (State.read_listed hr) ⟨hr, hi⟩ (List.mem_filterMap.mpr ⟨e, he, hk⟩), hbusy]
    rfl
  · by_cases hany : ∃ c r, c ∈ List.range 32 ∧ s.dropsRead i c r ∧ k ∈ r.list.filterMap ReadEntry.mediaTag
    · obtain ⟨c, r, hc, hr, hmem⟩ := hany
      rw [h.orphaned c r k hc hr hmem]
      obtain ⟨e, he, htag⟩ := List.mem_filterMap.mp hmem
      exact Slot.orphan_of_idle (hk.resolve_left fun hall => hall c r hr.1 hr.2 e he htag)
    · exact h.owned k fun c r hc hr hmem => hany ⟨c, r, hc, hr, hmem⟩
  · refine (h.asked q).trans (and_congr_right fun _ => not_congr ⟨?_, ?_⟩)
    · rintro ⟨c, r, -, hq, hr⟩
      exact ⟨c, r, hq, hr⟩
    · rintro ⟨c, r, hq, hr⟩
      exact ⟨c, r, State.read_listed hr.1, hq, hr⟩
  · exact (congrArg State.arbiter h.frame :)

/-- The writers that name the contexts freed are cleared, and no other (R12). -/
theorem State.Removes.clearsFreed (hw : s.canonical) :
    s.clearsFreed u (fun w => w.initiator = i ∧ (w.state = .streaming ∨ w.state = .draining) ∧ w.pending = []) := by
  refine ⟨fun c w v m hc hp hin hm hwr => ?_, fun c w v m hc hp hin hm hwr => ?_, fun v m hall => ?_⟩
  · exact h.cleared hw c w v m (State.write_listed hc) ⟨hc, hp⟩ hin hm hwr
  · by_cases hany : ∃ d y, s.freesWrite i d y ∧ y.worksIn v m ∧ (s.segment v m).writer = some d
    · obtain ⟨d, y, hy, hiny, hwy⟩ := hany
      rw [h.cleared hw d y v m (State.write_listed hy.1) hy hiny hm hwy] at hwr
      cases hwr
    · rw [h.uncleared hw v m fun d y _ hy hiny _ hwy => hany ⟨d, y, hy, hiny, hwy⟩] at hwr
      exact hany ⟨c, w, ⟨hc, hp⟩, hin, hwr⟩
  · exact h.uncleared hw v m fun c w _ ⟨hc, hp⟩ => hall c w hc hp

/-- The transfers end without a condition of their own (R78, R174). -/
theorem State.Removes.endsQuietly : s.endsQuietly u (fun j => j = i) :=
  ⟨(congrArg State.conditions h.frame :), fun hwrites hreads =>
    h.quiet (fun c w _ ⟨hc, hi, hstate, hp⟩ => hwrites c w hc hi hstate hp) fun c r _ ⟨hc, hi⟩ => hreads c r hc hi⟩

end

/-! ### The request -/

/-- The state after the removal of an initiator and its answer, with what is left in u of its contexts. -/
def State.removal (s u : State) (f : Frame) (rest : List RxFrame) : State :=
  { s with
    initiators := (s.unlisted (f.param 0)).initiators, rxQueue := rest, contexts := u.contexts, volumes := u.volumes
    slots := u.slots, arbiter := { s.arbiter with read := u.arbiter.read }
    conditions := { s.conditions with last := u.conditions.last }
    eraseQueue := s.eraseQueue.map (fun e => { e with requester := dropOf (f.param 0) e.requester })
    records := s.records.map (fun r => r.map (fun x => { x with resumer := dropOf (f.param 0) x.resumer }))
    collection := s.collection.filter (fun c => !decide (c.initiator = f.param 0))
    txQueue :=
      s.txQueue.filter (fun x => !decide (x.initiator = f.param 0) || isCheckOneRefusal x) ++
        if f.param 0 = f.initiator then [] else [f.reply .done []] }

/-- The event of a LOAD INITIATOR that removes an initiator while an Enabled officer remains. -/
theorem loadInitiator_removal {s : State} {f : Frame} {rest : List RxFrame} (h : s.officerAsks f rest 2)
    (hp1 : f.param 1 = 0) (hpresent : (s.initiator (f.param 0)).state ≠ .absent)
    (hself : f.param 0 = f.initiator →
      ∃ i, i ≠ f.initiator ∧ (s.initiator i).state = .enabled ∧ (s.initiator i).officer = true) :
    ∃ u, ((s.taken rest).unlisted (f.param 0)).Removes u (f.param 0) (List.range 32) ∧
      exec .loadInitiator s = .next (s.removal u f rest) := by
  obtain ⟨⟨-, hs, -, hroom, -⟩, -, -, hl, hen, ho, -⟩ := id h
  have hj : judgeLoadInitiator (s.taken rest) f = none := by
    by_cases hx : f.param 0 = f.initiator
    · obtain ⟨i, hi, hien, hio⟩ := hself hx
      exact judgeLoadInitiator_removal (s := s.taken rest) hp1 hpresent (hx ▸ hi) hien hio
    · exact judgeLoadInitiator_removal (s := s.taken rest) hp1 hpresent (fun hy => hx hy.symm) hen ho
  have hchanged : ¬ InitiatorEntry.absent = (s.taken rest).initiator (f.param 0) := fun hx =>
    hpresent (congrArg InitiatorEntry.state hx).symm
  have hact : actLoadInitiator f (s.taken rest) =
      answerControl f .done [] (writeEntry (f.param 0) InitiatorEntry.absent (s.taken rest)) := by
    simp only [actLoadInitiator, hj, givenEntry_absent hp1, if_neg hchanged]
  have hremoves :=
    eachContext_removes (f.param 0) (List.nodup_range (n := 32)) ((s.taken rest).unlisted (f.param 0))
  have hwritten := writeEntry_removal hremoves rfl
  generalize eachContext (removeContext (f.param 0)) (List.range 32) _ = u at hremoves hwritten
  have hfew : ∀ p : Frame → Bool, (s.txQueue.filter p).length < Config.transmitLimit := fun p =>
    Nat.lt_of_le_of_lt (List.length_filter_le p s.txQueue) (Nat.lt_of_lt_of_le hroom (by decide))
  have hanswer := answerControl_removal (s := s.taken rest)
    (u := writeEntry (f.param 0) InitiatorEntry.absent (s.taken rest)) (f := f) (i := f.param 0) (by rw [hwritten])
    (by rw [hwritten]; exact hl) hen (by rw [hwritten]; exact hfew _)
  rw [hwritten] at hanswer
  rw [hwritten, hanswer] at hact
  have hevent := controlEvent_taken 2 actLoadInitiator s f rest h (by rw [hact]; exact hs)
  exact ⟨u, hremoves, congrArg Host.Outcome.next (hevent.trans hact)⟩

/-- Settles O25: the contexts of the initiator one after the other, then its requests and the frames for it, and the
answer to an officer that is not itself removed. -/
theorem removalEndsWork : Obligations.RemovalEndsWork := by
  intro s f rest h hp1 hpresent hself gone forgotten
  obtain ⟨u, hremoves, hevent⟩ := loadInitiator_removal h hp1 hpresent hself
  have hlt := State.initiator_lt hpresent
  obtain ⟨hreads, horphaned, hslots, hasked, -⟩ := hremoves.dropsReads
  obtain ⟨-, hquiet⟩ := hremoves.endsQuietly
  refine ⟨_, hevent, ?_, fun i hi => ?_, fun c w hw hg => ⟨?_, ?_, ?_⟩, fun c w hw hg => ?_, fun c hf => ?_,
    ⟨hreads, horphaned, hslots, hasked, rfl⟩, ?_, fun r => ?_, fun x hx => ?_, fun hx => ?_, rfl,
    fun hw => hremoves.clearsFreed hw, ⟨rfl, fun hwrites hreads => ?_⟩, rfl⟩
  · exact State.unlisted_initiator_same (s := s.taken rest) hlt
  · exact State.unlisted_initiator_other (s.taken rest) hi
  · exact hremoves.write_terminated hw hg
  · exact hremoves.write_aborting hw hg
  · exact hremoves.write_recorded hw hg
  · exact hremoves.write_other hw hg
  · exact hremoves.free_kept hf
  · simp only [State.removal, dropOf_eq]
    rfl
  · refine (Table.get1_map _ rfl s.records r).trans ?_
    simp only [dropOf_eq]
    rfl
  · show s.collection.filter _ = _
    rw [hx]
    by_cases hg : x.initiator = f.param 0 <;> simp [Option.filter, gone, hg]
  · show s.collection.filter _ = _
    rw [hx]
    rfl
  · show ({ s.conditions with last := u.conditions.last } : Conditions) = s.conditions
    rw [hquiet hwrites hreads]
    rfl

end Sys2Proof.Machine

end

section
/-! PROOF. The law of the Clock and the Class Table, over every command: an orderly step moves the Clock by its law and
leaves the classes, and LOAD CLASS alone writes one. -/

namespace Sys2Proof.Machine

/-! ### The law of the Clock (R29, R31, R38) -/

/-- d may follow c: where c meets the law of the Clock so does d, and the mark has not fallen. -/
def Clock.Follows (c d : Clock) : Prop := c.lawful → d.lawful ∧ c.mark ≤ d.mark

theorem Clock.Follows.refl (c : Clock) : c.Follows c := fun h => ⟨h, Nat.le_refl _⟩

theorem Clock.Follows.trans {c d e : Clock} (h : c.Follows d) (k : d.Follows e) : c.Follows e := fun hc =>
  have hd := h hc
  have he := k hd.1
  ⟨he.1, Nat.le_trans hd.2 he.2⟩

theorem Clock.follows_marked (c : Clock) : c.Follows { c with mark := max c.mark c.now } := by
  rintro ⟨hv, hm, hr⟩
  unfold Clock.now
  cases hs : c.state with
  | running => exact ⟨⟨hv, by simp [hv, hm], fun _ => by simp [hr hs]⟩, Nat.le_max_left _ _⟩
  | unset => exact ⟨⟨hv, by simp [hm], fun h => by simp at h⟩, Nat.le_max_left _ _⟩

theorem Clock.follows_second {c : Clock} (h : c.value < Config.topStop) : c.Follows { c with value := c.value + 1 } := by
  rintro ⟨-, hm, hr⟩
  exact ⟨⟨h, hm, fun hs => Nat.le_succ_of_le (hr hs)⟩, Nat.le_refl _⟩

/-- A value between the mark and the top stop may be given to the Clock in any state. -/
theorem Clock.follows_given (c : Clock) {v : Nat} (st : ClockState) (valid : Bool)
    (h : c.mark ≤ Config.topStop → c.mark ≤ v ∧ v ≤ Config.topStop) :
    c.Follows { value := v, state := st, backupValid := valid, mark := c.mark } := by
  rintro ⟨-, hm, -⟩
  exact ⟨⟨(h hm).2, hm, fun _ => (h hm).1⟩, Nat.le_refl _⟩

theorem Clock.follows_powered (c : Clock) : c.Follows c.powered := by
  unfold Clock.powered
  split
  · exact fun hc => c.follows_given .running c.backupValid
      (fun hm => ⟨Nat.le_max_right _ _, Nat.max_le.mpr ⟨hc.1, hm⟩⟩) hc
  · exact c.follows_given .unset c.backupValid (fun hm => ⟨Nat.le_refl _, hm⟩)

theorem Clock.follows_lost (c : Clock) : c.Follows c.lost := c.follows_given .unset false fun hm => ⟨Nat.le_refl _, hm⟩

theorem Clock.setValue_between (c : Clock) (v : Nat) (hm : c.mark ≤ Config.topStop) :
    c.mark ≤ setValue c v ∧ setValue c v ≤ Config.topStop := by
  unfold setValue
  omega

theorem Clock.adjustedValue_between (c : Clock) (a : Int) (hm : c.mark ≤ Config.topStop) :
    c.mark ≤ adjustedValue c a ∧ adjustedValue c a ≤ Config.topStop := by
  unfold adjustedValue
  omega

/-! ### Orderly steps -/

/-- Between s and t the Clock moves by its law, and the Class Table stands. -/
structure State.Orderly (s t : State) : Prop where
  clock : s.clock.Follows t.clock
  classes : t.classes = s.classes

namespace State.Orderly

variable {s t u : State}

theorem of_same (hk : t.clock = s.clock) (hc : t.classes = s.classes) : s.Orderly t :=
  ⟨by rw [hk]; exact .refl _, hc⟩

theorem refl (s : State) : s.Orderly s := of_same rfl rfl

theorem trans (h : s.Orderly t) (k : t.Orderly u) : s.Orderly u :=
  ⟨h.clock.trans k.clock, k.classes.trans h.classes⟩

/-- An ordinary step only raises the mark to the present time. -/
theorem of_evolves (h : s.Evolves t) : s.Orderly t := by
  refine ⟨?_, h.tables.2.1⟩
  induction h with
  | refl => exact .refl _
  | volatile _ hu ih => rw [hu]; exact ih
  | enqueue _ _ _ ih => exact ih
  | queues _ _ _ _ _ ih => exact ih
  | slot _ _ _ _ ih => exact ih
  | mark _ ih => exact ih.trans (Clock.follows_marked _)
  | put _ _ _ _ _ ih => exact ih

theorem endStep (h : s.Orderly t) : s.Orderly t.endStep := h.trans (of_evolves State.Evolves.refl.endStep)

theorem onEvent {f : State → State} (hf : s.Orderly (f s)) : s.Orderly (onEvent s f) := by
  rcases onEvent_cases s f with h | h <;> rw [h]
  · exact refl s
  · exact hf.endStep

theorem answerControl (h : s.Orderly t) (f : Frame) (status : Status) (words : List Nat) :
    s.Orderly (answerControl f status words t) := h.trans (of_evolves (State.Evolves.refl.answerControl f status words))

theorem refuseControl (s : State) (f : Frame) (code : Code) (n : Option Nat) :
    s.Orderly (refuseControl f code n s) := of_evolves (State.Evolves.refl.refuseControl f code n)

theorem taken (s : State) (rest : List RxFrame) : s.Orderly (s.taken rest) := of_same rfl rfl

theorem put (h : s.Orderly t) (v n : Nat) (g : Segment) : s.Orderly (t.putSegment v n g) := h.trans (of_same rfl rfl)

theorem frameEvent {act : Frame → State → State} (ha : ∀ f (u : State), u.Orderly (act f u)) (kind : Nat) :
    s.Orderly (frameEvent kind act s) := by
  rcases frameEvent_cases kind act s with h | h | ⟨f, rest, -, h⟩ <;> rw [h]
  · exact refl s
  · exact (refl s).endStep
  · exact ((taken s rest).trans (ha _ _)).endStep

theorem controlEvent {act : Frame → State → State} (ha : ∀ f (u : State), u.Orderly (act f u)) (request : Nat) :
    s.Orderly (controlEvent request act s) := by
  rcases controlEvent_cases request act s with h | h | ⟨f, rest, -, ⟨d, h⟩ | h⟩ <;> rw [h]
  · exact refl s
  · exact (refl s).endStep
  · exact ((taken s rest).trans (of_evolves (State.Evolves.refl.refuse _ _ _))).endStep
  · exact ((taken s rest).trans (ha _ _)).endStep

end State.Orderly

/-! ### What each command that is not ordinary does to the Clock and the classes -/

theorem startUp_orderly (clamped discarded : Bool) (s : State) : s.Orderly (startUp clamped discarded s) := by
  rw [startUp_eq]
  refine State.Orderly.endStep ?_
  exact .of_same rfl rfl

theorem takeRestart_orderly (f : Frame) (s : State) : s.Orderly (takeRestart f s) := by
  unfold takeRestart
  split
  · exact .of_evolves (State.Evolves.refl.refuse _ _ _)
  · exact startUp_orderly _ _ s

theorem requestEvent_orderly {act : Frame → State → State} (ha : ∀ f (u : State), u.Orderly (act f u)) (request : Nat)
    (s : State) : s.Orderly (requestEvent request act s) := by
  refine State.Orderly.onEvent ?_
  rcases takeFrame_cases (isRequest request) (onFrame act) s with h | ⟨x, rest, -, -, h⟩ <;> rw [h]
  · exact .refl s
  · cases x with
    | whole f => exact (State.Orderly.taken s rest).trans (ha f _)
    | cutShort => exact State.Orderly.taken s rest

theorem losePower_orderly (s : State) : s.Orderly (losePower s) := by
  refine ⟨?_, rfl⟩
  show s.clock.Follows s.clockUnpowered
  unfold State.clockUnpowered
  split
  · exact .refl _
  · exact s.clock.follows_lost

theorem advanceClock_orderly (s : State) : s.Orderly (advanceClock s) := by
  unfold advanceClock
  dsimp only
  split
  · split
    · exact .of_evolves (State.Evolves.refl.raiseAlone _ _)
    · next h =>
      have hclock := Clock.follows_second (Nat.not_le.mp h)
      split
      · exact ⟨hclock, rfl⟩
      · exact ⟨hclock, rfl⟩
  · exact .refl s

theorem countQuietly_orderly (s : State) : s.Orderly (countQuietly s) := by
  unfold countQuietly
  split
  · next h =>
    simp only [Bool.and_eq_true, decide_eq_true_eq] at h
    exact ⟨Clock.follows_second h.2, rfl⟩
  · exact .refl s

theorem frameArrives_orderly (bytes : List Byte) (s : State) : s.Orderly (frameArrives bytes s) := by
  unfold frameArrives
  dsimp only
  split_ifs
  · exact .of_same rfl rfl
  · exact .of_evolves ((State.Evolves.refl.volatile rfl : s.Evolves { s with
      ingestCheck := checkAfter bytes }).raiseAlone _ _)
  · exact .refl s

theorem mediaLost_orderly (s : State) : s.Orderly (mediaLost s) := by
  unfold mediaLost
  split
  · dsimp only
    set l : State :=
      { s with mediaLink := .lost, mediaCheck := FrameCheck.cleared, slots := Vector.replicate 16 .free }
    have hs : s.Orderly l := .of_same rfl rfl
    have hw := (State.Evolves.refl (s := l)).eachContext (fun c u hu => hu.resetWrite c) (List.range 32)
    have hr := hw.eachContext (fun c u hu => hu.resetRead c) (List.range 32)
    generalize eachContext resetRead (List.range 32) (eachContext resetWrite (List.range 32) l) = u at hr ⊢
    have he := (hr.resetErases u.eraseQueue).resetScan
    generalize resetScan (resetErases u.eraseQueue u) = x at he ⊢
    exact hs.trans (.of_evolves (he.volatile rfl))
  · exact .refl s

theorem grant_orderly (s : State) : s.Orderly (grant s) := by
  unfold grant
  split
  · split
    · split
      · next k _ _ _ _ r rest _ =>
        exact (State.Orderly.of_evolves (recordTag_evolves r k s)).trans (.of_same rfl rfl)
      · exact .refl s
    · exact .refl s
    · exact .refl s
    · exact .refl s
  · exact .refl s

theorem actLoadInitiator_orderly (f : Frame) (s : State) : s.Orderly (actLoadInitiator f s) := by
  unfold actLoadInitiator
  split
  · exact .refuseControl _ _ _ _
  · split
    · exact (State.Orderly.refl s).answerControl _ _ _
    · refine State.Orderly.answerControl ?_ _ _ _
      have hw : s.Orderly { s with initiators := Table.set s.initiators (f.param 0) (givenEntry f) } := .of_same rfl rfl
      unfold writeEntry
      dsimp only
      split
      · exact hw.trans (.of_evolves (State.Evolves.refl.removeInitiator _))
      · exact hw

theorem raiseClamped_orderly {s t : State} (h : s.Orderly t) (f : Frame) : s.Orderly (raiseClamped f t) :=
  h.trans (.of_evolves (State.Evolves.refl.raiseAlone _ _))

theorem actSetClock_orderly (f : Frame) (s : State) : s.Orderly (actSetClock f s) := by
  unfold actSetClock
  split_ifs
  · exact .refuseControl _ _ _ _
  · exact .refuseControl _ _ _ _
  · dsimp only
    have hs : s.Orderly
        { s with clock := { s.clock with
            value := setValue s.clock (f.param 0 * Config.daySeconds + f.param 1), state := .running
            backupValid := true } }.rollover :=
      ⟨s.clock.follows_given .running true (s.clock.setValue_between _), rfl⟩
    split
    · exact hs.answerControl _ _ _
    · exact raiseClamped_orderly (hs.answerControl _ _ _) f

theorem actAdjustClock_orderly (f : Frame) (s : State) : s.Orderly (actAdjustClock f s) := by
  unfold actAdjustClock
  dsimp only
  split
  · exact .refuseControl _ _ _ _
  · have hclock : s.clock.Follows { s.clock with value := adjustedValue s.clock (signedWord (f.param 0)) } :=
      s.clock.follows_given s.clock.state s.clock.backupValid (s.clock.adjustedValue_between _)
    have hs : s.Orderly
        (if decide (dayOf s.clock.value < dayOf (adjustedValue s.clock (signedWord (f.param 0)))) = true then
          { s with clock := { s.clock with value := adjustedValue s.clock (signedWord (f.param 0)) } }.rollover
        else { s with clock := { s.clock with value := adjustedValue s.clock (signedWord (f.param 0)) } }) := by
      split
      · exact ⟨hclock, rfl⟩
      · exact ⟨hclock, rfl⟩
    split
    · exact raiseClamped_orderly (hs.answerControl _ _ _) f
    · exact hs.answerControl _ _ _

theorem admittedBegin_orderly (f : Frame) (c : Nat) (s : State) : s.Orderly (admittedBegin f c s) := by
  have hsent : ∀ (u : State) (w : WriteContext) (x : Frame), s.Orderly u → s.Orderly ((u.putWrite c w).send x) :=
    fun u w x hu => hu.trans (.of_evolves ((State.Evolves.refl.putWrite c w).send x))
  unfold admittedBegin reserveNext
  dsimp only
  rw [openNamed_eq]
  split
  · exact hsent _ _ _ (((State.Orderly.refl s).put _ _ _).put _ _ _)
  · exact hsent _ _ _ ((State.Orderly.refl s).put _ _ _)

theorem takeBegin_orderly (f : Frame) (s : State) : s.Orderly (takeBegin f s) := by
  rcases takeBegin_cases f s with h | ⟨c, -, -, h⟩
  · exact .of_evolves h
  · rw [h]
    exact admittedBegin_orderly f c s

theorem takeErase_orderly (f : Frame) (s : State) : s.Orderly (takeErase f s) := by
  rcases takeErase_cases f s with h | ⟨-, h⟩
  · exact .of_evolves h
  · rw [h]
    exact ((State.Orderly.refl s).put _ _ _).trans (.of_evolves (startErase_evolves _ _ _ s))

theorem actSetVolume_orderly (f : Frame) (s : State) : s.Orderly (actSetVolume f s) := by
  rcases actSetVolume_cases f s with h | ⟨y, -, -, -, h⟩
  · exact .of_evolves h
  · rw [h, writeVolume]
    have hw : s.Orderly
        { s.setVolume (f.param 0) y with sweeper := s.sweeper.trimmed (f.param 0) y.count } := .of_same rfl rfl
    refine (hw.answerControl f .done []).trans ?_
    unfold endCollection
    split
    · split
      · exact .of_evolves (State.Evolves.refl.stopCollection _ _)
      · exact .refl _
    · exact .refl _

theorem actSetZone_orderly (f : Frame) (s : State) : s.Orderly (actSetZone f s) := by
  unfold actSetZone
  split
  · exact .refuseControl _ _ _ _
  · refine State.Orderly.answerControl ?_ _ _ _
    exact .of_same rfl rfl

theorem actPlaceHold_orderly (f : Frame) (s : State) : s.Orderly (actPlaceHold f s) := by
  unfold actPlaceHold
  split
  · exact .refuseControl _ _ _ _
  · refine State.Orderly.answerControl ?_ _ _ _
    exact .of_same rfl rfl
  · exact .refl s

theorem actReleaseHold_orderly (f : Frame) (s : State) : s.Orderly (actReleaseHold f s) := by
  unfold actReleaseHold
  split
  · exact .refuseControl _ _ _ _
  · split
    · exact .refuseControl _ _ _ _
    · unfold releaseHold
      split
      · exact (State.Orderly.refl s).answerControl _ _ _
      · split
        · refine State.Orderly.answerControl ?_ _ _ _
          exact .of_same rfl rfl
        · refine State.Orderly.answerControl ?_ _ _ _
          exact .of_same rfl rfl
      · refine State.Orderly.answerControl ?_ _ _ _
        exact .of_same rfl rfl

theorem sweepVisit_orderly (s : State) : s.Orderly (sweepVisit s) := by
  unfold sweepVisit
  split
  · exact .refl s
  · split
    · exact .of_same rfl rfl
    · exact .refl s
  · dsimp only
    split_ifs
    · exact .refl s
    · unfold expireDue
      split
      · exact .of_same rfl rfl
      · exact .of_same rfl rfl
    · exact .of_same rfl rfl

theorem walkVisit_orderly (s : State) : s.Orderly (walkVisit s) := by
  have hvisit : ∀ (h : Hold) (n : Nat) (f : Segment → Segment), s.Orderly (visitSegment h n f s) := by
    intro h n f
    unfold visitSegment
    split
    · exact .refl s
    · exact .of_same rfl rfl
  unfold walkVisit
  split
  · split
    · next h _ =>
      unfold visitHold
      split
      · next front _ =>
        dsimp only
        split
        · exact (hvisit h front Segment.raised).trans (.of_same rfl rfl)
        · exact (hvisit h front Segment.raised).trans (.of_same rfl rfl)
      · next front raisedTo _ =>
        dsimp only
        split
        · exact (hvisit h front Segment.lowered).trans (.of_same rfl rfl)
        · exact (hvisit h front Segment.lowered).trans (.of_same rfl rfl)
      · exact .refl s
    · exact .refl s
  · exact .refl s

/-- Every command but LOAD CLASS is orderly. -/
theorem exec_orderly {c : Instr} {s t : State} (hc : c ≠ .loadClass) (h : exec c s = .next t) : s.Orderly t := by
  by_cases ho : Instr.ordinary c = true
  · exact .of_evolves (exec_evolves ho h)
  cases c
  all_goals injection h with h; subst h
  case powerOn =>
    have hp : s.Orderly { s with mainPower := true, backupSupply := true, clock := s.clock.powered } :=
      ⟨s.clock.follows_powered, rfl⟩
    exact hp.trans (startUp_orderly _ _ _)
  case resetLine =>
    have hr : s.Orderly { s with resetHeld := false } := .of_same rfl rfl
    split
    · exact hr.trans (startUp_orderly _ _ _)
    · exact hr
  case backupSupplyLoss =>
    split
    · exact .of_same rfl rfl
    · exact ⟨s.clock.follows_lost, rfl⟩
  case clockTick =>
    split
    · exact ((State.Orderly.of_same rfl rfl : s.Orderly s.tickTimers).trans (advanceClock_orderly _)).onEvent
    · exact countQuietly_orderly s
  case ingestFrameArrival bytes => exact (frameArrives_orderly bytes s).onEvent
  case mediaLinkReset => exact (mediaLost_orderly s).onEvent
  case beginFrame => exact State.Orderly.frameEvent takeBegin_orderly 1
  case eraseFrame => exact State.Orderly.frameEvent takeErase_orderly 5
  case loadInitiator => exact State.Orderly.controlEvent actLoadInitiator_orderly 2
  case setVolume => exact State.Orderly.controlEvent actSetVolume_orderly 4
  case setZone => exact State.Orderly.controlEvent actSetZone_orderly 5
  case placeHold => exact State.Orderly.controlEvent actPlaceHold_orderly 6
  case releaseHold => exact State.Orderly.controlEvent actReleaseHold_orderly 7
  case setClock => exact State.Orderly.controlEvent actSetClock_orderly 11
  case adjustClock => exact State.Orderly.controlEvent actAdjustClock_orderly 12
  case restart => exact requestEvent_orderly takeRestart_orderly 22 s
  case mediaGrant => exact (grant_orderly s).onEvent
  case sweeperVisit => exact (sweepVisit_orderly s).onEvent
  case walkerVisit => exact (walkVisit_orderly s).onEvent
  case mainPowerLoss =>
    split
    · exact losePower_orderly s
    · exact .refl s
  case resetLineHeld => exact .of_same rfl rfl
  all_goals simp [Instr.ordinary] at ho hc

/-! ### LOAD CLASS (R41, R42) -/

/-- A class entry is not lowered: its periods do not fall, and permanent and triggered stay (R42). -/
structure ClassEntry.AtLeast (old new : ClassEntry) : Prop where
  base : old.base.inDays ≤ new.base.inDays
  post : old.triggered = true →
    (old.post.getD { months := 0, days := 0 }).inDays ≤ (new.post.getD { months := 0, days := 0 }).inDays
  permanent : old.permanent = true → new.permanent = true
  triggered : old.triggered = true → new.triggered = true

theorem ClassEntry.AtLeast.refl (e : ClassEntry) : e.AtLeast e := ⟨Nat.le_refl _, fun _ => Nat.le_refl _, id, id⟩

theorem ClassEntry.atLeast_of_lowers {old new : ClassEntry} (h : old.lowers new = false) : old.AtLeast new := by
  simp only [ClassEntry.lowers, Bool.or_eq_false_iff, Bool.and_eq_false_iff, Bool.not_eq_false',
    decide_eq_false_iff_not, Nat.not_lt] at h
  obtain ⟨⟨⟨hbase, hpost⟩, hperm⟩, htrig⟩ := h
  exact ⟨hbase, fun ht => hpost.resolve_left (by simp [ht]), fun hp => hperm.resolve_left (by simp [hp]),
    fun ht => htrig.resolve_left (by simp [ht])⟩

/-- A LOAD CLASS that is not refused names one of the 64 classes and does not lower its entry (R41, R42). -/
theorem judgeLoadClass_none {s : State} {f : Frame} (h : judgeLoadClass s f = none) :
    f.param 0 < 64 ∧ ∀ old, s.classEntry (f.param 0) = some old → old.AtLeast (givenClass f) := by
  unfold judgeLoadClass at h
  split_ifs at h with hflag hzero hrange hform
  refine ⟨?_, fun old hold => ?_⟩
  · simp only [Bool.or_eq_true, decide_eq_true_eq, not_or, Nat.not_lt] at hrange
    exact Nat.lt_succ_of_le hrange.1.1
  · rw [hold] at h
    exact ClassEntry.atLeast_of_lowers ((refuseWhen_eq_none _ _).mp h)

theorem State.classEntry_congr {s t : State} (h : t.classes = s.classes) (k : Nat) : t.classEntry k = s.classEntry k := by
  unfold State.classEntry
  rw [h]

/-- A LOAD CLASS leaves the Class Table, or writes the given entry of the class it names. -/
theorem actLoadClass_cases (f : Frame) (s : State) :
    s.Orderly (actLoadClass f s) ∨
      (judgeLoadClass s f = none ∧ (actLoadClass f s).clock = s.clock ∧
        (actLoadClass f s).classes = Table.set s.classes (f.param 0) (some (givenClass f))) := by
  unfold actLoadClass
  split
  · exact .inl (.refuseControl _ _ _ _)
  · next hj =>
    split
    · exact .inl ((State.Orderly.refl s).answerControl _ _ _)
    · exact .inr ⟨hj, by simp [answerControl], by simp [answerControl]⟩

/-- What a LOAD CLASS step can do: an orderly step, or one entry written that does not lower the one it replaces, with
the Clock as it was. -/
theorem loadClass_cases {s t : State} (h : exec .loadClass s = .next t) :
    s.Orderly t ∨
      ∃ k new, k < 64 ∧ (∀ old, s.classEntry k = some old → old.AtLeast new) ∧ t.clock = s.clock ∧
        t.classes = Table.set s.classes k (some new) := by
  injection h with h
  subst h
  rcases controlEvent_cases 3 actLoadClass s with hq | hq | ⟨f, rest, -, ⟨d, hq⟩ | hq⟩ <;> rw [hq]
  · exact .inl (.refl s)
  · exact .inl (State.Orderly.refl s).endStep
  · exact .inl ((State.Orderly.taken s rest).trans (.of_evolves (State.Evolves.refl.refuse _ _ _))).endStep
  · rcases actLoadClass_cases f (s.taken rest) with ha | ⟨hj, hclock, hclasses⟩
    · exact .inl ((State.Orderly.taken s rest).trans ha).endStep
    · obtain ⟨hk, hold⟩ := judgeLoadClass_none hj
      rw [State.endStep_noticed]
      exact .inr ⟨f.param 0, givenClass f, hk, hold, hclock, hclasses⟩

/-! ### The two laws over every command -/

/-- Settles O53: LOAD CLASS leaves the Clock, and every other command is orderly. -/
theorem clockLawKept : Obligations.ClockLawKept := by
  intro c s t hs h
  by_cases hc : c = .loadClass
  · subst hc
    rcases loadClass_cases h with ht | ⟨k, new, -, -, hclock, -⟩
    · exact ht.clock hs
    · rw [hclock]
      exact Clock.Follows.refl _ hs
  · exact (exec_orderly hc h).clock hs

/-- A Defined class stays Defined, with an entry that is not lower, over every command (R41, R42). -/
theorem exec_atLeast {c : Instr} {s t : State} {k : Nat} {old : ClassEntry} (hold : s.classEntry k = some old)
    (h : exec c s = .next t) : ∃ new, t.classEntry k = some new ∧ old.AtLeast new := by
  have hsame : s.Orderly t → ∃ new, t.classEntry k = some new ∧ old.AtLeast new := fun ht =>
    ⟨old, (State.classEntry_congr ht.classes k).trans hold, .refl old⟩
  by_cases hc : c = .loadClass
  · subst hc
    rcases loadClass_cases h with ht | ⟨j, new, hj, hnew, -, hclasses⟩
    · exact hsame ht
    · by_cases hk : k = j
      · subst hk
        refine ⟨new, ?_, hnew old hold⟩
        rw [State.classEntry, hclasses]
        exact Table.get_set_same _ _ _ _ hj
      · refine ⟨old, ?_, .refl old⟩
        rw [State.classEntry, hclasses]
        exact (Table.get_set_other _ _ _ _ _ hk).trans hold
  · exact hsame (exec_orderly hc h)

/-- Settles O57: only LOAD CLASS writes a class entry, and it refuses one that lowers. -/
theorem retentionNeverLowered : Obligations.RetentionNeverLowered := by
  intro c s t k old hold h days
  obtain ⟨new, hnew, hleast⟩ := exec_atLeast hold h
  exact ⟨new, hnew, hleast.base, hleast.post, hleast.permanent, hleast.triggered⟩

end Sys2Proof.Machine

end

section
/-! PROOF. The invariants at reset, and the start-up of the engine. -/

namespace Sys2Proof.Machine

/-! ### The state after reset -/

theorem State.reset_volume (v : Nat) : State.reset.volume v = Volume.absent := Table.get1_replicate Volume.absent 4 v

theorem State.reset_hold (k : Nat) : State.reset.hold k = none := Table.get1_replicate none 64 k

theorem State.reset_mapSound : State.reset.mapSound :=
  State.reset.mapSound_iff.mpr fun v => by
    rw [State.reset_volume]
    exact Volume.absent_sound

theorem State.reset_walkLawful : State.reset.walkLawful := by
  refine ⟨List.nodup_nil, fun k => ⟨fun hk => (List.not_mem_nil hk).elim, ?_⟩⟩
  rintro ⟨h, hk, -⟩
  simp [State.reset_hold] at hk

theorem State.reset_holdLawful : State.reset.holdLawful := by
  refine ⟨fun k h hk => ?_, fun v n hn => ?_⟩
  · simp [State.reset_hold] at hk
  · rw [State.reset_volume] at hn
    exact absurd hn (Nat.not_lt_zero n)

/-- Settles O60: each law at the one reset state, whose tables are empty but for one initiator and two classes. -/
theorem resetMeetsInvariants : Obligations.ResetMeetsInvariants :=
  ⟨rfl, ⟨Nat.zero_le _, Nat.zero_le _, fun _ => Nat.le_refl _⟩, ⟨Nat.zero_le _, Nat.zero_le _⟩,
    State.reset_canonical, ⟨0, rfl, rfl⟩, ⟨by decide, by decide⟩, State.reset_mapSound, State.reset_walkLawful,
    State.reset_holdLawful⟩

/-! ### The start-up of every block -/

/-- A start-up gives every volatile block its start-up value, and keeps the tables. -/
theorem startUp_startedFrom (clamped discarded : Bool) (s : State) : s.startedFrom (startUp clamped discarded s) := by
  rw [startUp_eq, State.endStep_noticed]
  exact ⟨⟨rfl, rfl, rfl, rfl, rfl⟩,
    ⟨fun c => Table.get_replicate _ 32 c, fun n => Table.get_replicate _ 16 n, fun r => Table.get1_replicate _ 4 r⟩,
    ⟨rfl, rfl, rfl, rfl⟩, ⟨rfl, rfl, rfl, rfl⟩, ⟨rfl, rfl, rfl, rfl, rfl, rfl, rfl, rfl⟩⟩

/-- A start-up leaves the Clock, the supplies and the reset line. -/
theorem startUp_lines (clamped discarded : Bool) (s : State) :
    let t := startUp clamped discarded s
    t.clock = s.clock ∧ t.mainPower = s.mainPower ∧ t.backupSupply = s.backupSupply ∧ t.resetHeld = s.resetHeld := by
  rw [startUp_eq, State.endStep_noticed]
  exact ⟨rfl, rfl, rfl, rfl⟩

/-- The Clock at power-on runs on from the backup value, raised to the mark, or is Unset at the mark (R32). -/
theorem Clock.powered_spec (c : Clock) :
    c.powered.mark = c.mark ∧ c.powered.backupValid = c.backupValid ∧
      if c.backupValid then c.powered.state = .running ∧ c.powered.value = max c.value c.mark
      else c.powered.state = .unset ∧ c.powered.now = c.mark := by
  unfold Clock.powered
  split
  · exact ⟨rfl, rfl, rfl, rfl⟩
  · exact ⟨rfl, rfl, rfl, rfl⟩

/-- A RESTART of an Enabled officer restarts the engine (R196). -/
theorem exec_restart {s : State} {f : Frame} {rest : List RxFrame} (h : s.officerAsks f rest 22) :
    exec .restart s = .next (restart (s.taken rest)) := by
  obtain ⟨hawaits, hk, hc, -, hen, ho, htag⟩ := h
  have hj : judgeControl (s.taken rest) f none none = none := judgeControl_passes _ f none none hen ho htag
  have hact : takeRestart f (s.taken rest) = restart (s.taken rest) := by
    simp only [takeRestart, hj]
  have hquiet : (restart (s.taken rest)).conditions.causes = [] := by
    rw [restart, startUp_eq]
    exact State.endStep_causes _
  exact congrArg Host.Outcome.next
    ((requestEvent_taken 22 takeRestart s f rest hawaits hk hc (by rw [hact]; exact hquiet)).trans hact)

/-- Settles O4: the three commands are start-ups, a power-on with the Clock powered. -/
theorem engineStartsUp : Obligations.EngineStartsUp := by
  refine ⟨fun s => ?_, fun s hp => ?_, fun s f rest h => ?_⟩
  · let u : State := { s with mainPower := true, backupSupply := true, clock := s.clock.powered }
    obtain ⟨hclock, hmain, hbackup, hheld⟩ := startUp_lines s.clock.behind s.anyFaultPending u
    refine ⟨powerUp s, rfl, hmain, hbackup, hheld, startUp_startedFrom _ _ u, ?_⟩
    have hpowered : (powerUp s).clock = s.clock.powered := hclock
    rw [State.now, hpowered]
    exact s.clock.powered_spec
  · let u : State := { s with resetHeld := false }
    obtain ⟨hclock, hmain, -, hheld⟩ := startUp_lines false s.anyFaultPending u
    exact ⟨restart u, congrArg Host.Outcome.next (if_pos hp), hmain.trans hp, hheld, startUp_startedFrom _ _ u, hclock⟩
  · obtain ⟨hclock, hmain, -, hheld⟩ := startUp_lines false (s.taken rest).anyFaultPending (s.taken rest)
    have hon : s.mainPower = true ∧ s.resetHeld = false := by
      simpa [State.takesEvents] using h.1.1
    obtain ⟨hpower, hreleased⟩ := hon
    exact ⟨_, exec_restart h, hmain.trans hpower, hheld.trans hreleased, startUp_startedFrom _ _ (s.taken rest), hclock⟩

end Sys2Proof.Machine

end

section
/-! PROOF. Periods and expiry days, and the content fold. -/

namespace Sys2Proof.Machine

/-! ### Periods and expiry (R43, R44) -/

theorem saturateDay_eq (d : Nat) : saturateDay d = if d ≤ 1048574 then d else 1048575 := by
  unfold saturateDay
  by_cases h : d ≤ 1048574
  · rw [if_pos h, if_neg (by omega)]
  · rw [if_neg h, if_pos (by omega)]
    rfl

/-- The days of a period are its months, rounded up, and its days (R43). -/
theorem Period.inDays_spec (p : Period) :
    p.days ≤ p.inDays ∧ p.months * 487 ≤ 16 * (p.inDays - p.days) ∧ 16 * (p.inDays - p.days) < p.months * 487 + 16 := by
  unfold Period.inDays ceilDiv
  omega

theorem ClassEntry.expiry_permanent {e : ClassEntry} (h : e.permanent = true) (day : Nat) (trigger : Option Nat) :
    e.expiry day trigger = some 1048575 := if_pos h

/-- The expiry of a class that is not permanent, by whether it is triggered and its day is known (R44). -/
theorem ClassEntry.expiry_of_periods {e : ClassEntry} (h : e.permanent = false) (day : Nat) (trigger : Option Nat) :
    e.expiry day trigger =
      if e.triggered then
        trigger.map fun d => max (saturateDay (day + e.base.inDays + 1))
          (saturateDay (d + (e.post.getD { months := 0, days := 0 }).inDays + 1))
      else some (saturateDay (day + e.base.inDays + 1)) := by
  unfold ClassEntry.expiry
  rw [h]
  cases trigger <;> rfl

/-- Settles O10: an entry by its kind, the entry of a segment's class, and the rounding of a period. -/
theorem periodsAndExpiry : Obligations.PeriodsAndExpiry := by
  refine ⟨?_, fun s g day c e hg he => ?_, Period.inDays_spec⟩
  · intro e day trigger term
    have hterm : ∀ d p, saturateDay (d + p.inDays + 1) = term d p := fun d p => saturateDay_eq _
    refine ⟨fun hp => ClassEntry.expiry_permanent hp day trigger, fun hp ht => ?_, fun hp ht hnone => ?_,
      fun d post hp ht hpost hday => ?_⟩
    · rw [ClassEntry.expiry_of_periods hp, ht, hterm]
      rfl
    · rw [ClassEntry.expiry_of_periods hp, ht, hnone]
      rfl
    · rw [ClassEntry.expiry_of_periods hp, ht, hpost, hday, hterm]
      simp only [if_true, Option.map_some, Option.getD_some, hterm]
  · simp only [State.expiryAt, hg, he]

/-! ### The content fold (R47, R48) -/

theorem foldWords_append (p : Nat × Nat) (xs ys : List Nat) :
    foldWords p (xs ++ ys) = foldWords (foldWords p xs) ys := List.foldl_append

/-- The fold stays below the modulus, and its first part is the sum of the words. -/
theorem foldWords_bounded (p : Nat × Nat) (xs : List Nat) (ha : p.1 < 4294967291) (hb : p.2 < 4294967291) :
    (foldWords p xs).1 < 4294967291 ∧ (foldWords p xs).2 < 4294967291 ∧
      (foldWords p xs).1 = (p.1 + xs.sum) % 4294967291 := by
  induction xs generalizing p with
  | nil => exact ⟨ha, hb, (Nat.mod_eq_of_lt ha).symm⟩
  | cons w ws ih =>
    have hpos : 0 < 4294967291 := by decide
    obtain ⟨hfst, hsnd, hsum⟩ := ih (foldWord p w) (Nat.mod_lt _ hpos) (Nat.mod_lt _ hpos)
    refine ⟨hfst, hsnd, hsum.trans ?_⟩
    show ((p.1 + w) % 4294967291 + ws.sum) % 4294967291 = _
    rw [Nat.mod_add_mod, List.sum_cons, Nat.add_assoc]

theorem byteWord_eq (a b c d : Byte) :
    byteWord a b c d = a.toNat * 16777216 + b.toNat * 65536 + c.toNat * 256 + d.toNat := by
  unfold byteWord
  omega

/-- Settles O52: the fold is a left fold of the words, taken four bytes at a time. -/
theorem foldRunsOn : Obligations.FoldRunsOn := by
  refine ⟨⟨rfl, fun p => rfl, fun p w ws => rfl⟩, foldWords_append, foldWords_bounded, fun p a b c d bytes => ⟨rfl, ?_⟩⟩
  rw [← byteWord_eq]
  rfl

end Sys2Proof.Machine

end

section
/-! PROOF. The Compliance Clock: a second of the timebase, and the requests that set and adjust it. -/

namespace Sys2Proof.Machine

/-! ### A second of the timebase (R30, R31) -/

theorem exec_clockTick {s : State} (h : s.takesEvents = true) :
    exec .clockTick s = .next (advanceClock s.tickTimers).endStep := by
  show Host.Outcome.next (if s.takesEvents then onEvent s (fun s => advanceClock s.tickTimers) else _) = _
  rw [if_pos h, onEvent_on s _ h]

/-- Below its top stop the Running Clock advances, and a carry into the next day signals a rollover (R30). -/
theorem advanceClock_below {s : State} (hr : s.clock.state = .running) (hv : s.clock.value < Config.topStop) :
    advanceClock s =
      { s with
        clock := { s.clock with value := s.clock.value + 1 }
        sweeper :=
          { s.sweeper with
            passAgain := s.sweeper.passAgain || decide (dayOf s.clock.value < dayOf (s.clock.value + 1)) } } := by
  simp only [advanceClock, s.running_iff.mpr hr, if_true, if_neg (Nat.not_le.mpr hv)]
  split
  · next hday => simp [State.rollover, hday]
  · next hday => simp [hday]

theorem advanceClock_stopped {s : State} (hr : s.clock.state = .running) (hv : s.clock.value = Config.topStop) :
    advanceClock s = s.raiseAlone (engineOp .clock) .clockClamped := by
  simp only [advanceClock, s.running_iff.mpr hr, if_true, if_pos (Nat.le_of_eq hv.symm)]

theorem advanceClock_unset {s : State} (hu : s.clock.state = .unset) : advanceClock s = s := by
  simp [advanceClock, State.running, hu]

/-- Whatever the Clock's state, it is not the Clock that moves the timers. -/
theorem advanceClock_timers (s : State) :
    (advanceClock s).slots = s.slots ∧ (advanceClock s).contexts = s.contexts := by
  unfold advanceClock
  dsimp only
  split_ifs
  · rw [State.raiseAlone_eq]
    exact ⟨rfl, rfl⟩
  · exact ⟨rfl, rfl⟩
  · exact ⟨rfl, rfl⟩
  · exact ⟨rfl, rfl⟩

/-! ### The timers (R96, R141) -/

theorem Table.get_map {α : Type} {n : Nat} {d : α} {g : α → α} (hg : g d = d) (t : Vector α n) (i : Nat) :
    Table.get d (t.map g) i = g (Table.get d t i) := by
  by_cases h : i < n <;> simp [Table.get, h, hg]

/-- After a second each slot and each context has counted it. -/
theorem clockTick_timers {s t : State} (ht : t = (advanceClock s.tickTimers).endStep) :
    (∀ n, t.slot n = (s.slot n).tick) ∧ ∀ c, t.context c = (s.context c).tick := by
  obtain ⟨hslots, hcontexts⟩ := advanceClock_timers s.tickTimers
  rw [State.endStep_noticed] at ht
  refine ⟨fun n => ?_, fun c => ?_⟩
  · have h : t.slots = s.slots.map Slot.tick := by
      rw [ht]
      exact hslots
    rw [State.slot, h]
    exact Table.get_map rfl s.slots n
  · have h : t.contexts = s.contexts.map Context.tick := by
      rw [ht]
      exact hcontexts
    rw [State.context, h]
    exact Table.get_map rfl s.contexts c

/-! ### The notice of a Clock at its top stop (R31, R178, R179) -/

/-- The Condition Unit once a Clock at its top stop has raised CLOCK_CLAMPED in a settled state. -/
def Conditions.clamped (c : Conditions) : Conditions :=
  { c with
    accrued := c.accrued ||| Cond.clockClamped.bit
    last := some { op := engineOp .clock, outcome := Cond.clockClamped.bit, time := Config.topStop }
    causes := [.groupSet .clock .clockClamped (engineOp .clock)] }

theorem noticeFrame_clamped (c : Conditions) :
    c.clamped.noticeFrame =
      (Frame.blank 10 c.noticeInitiator 0 0).withPayload
        (wordsBytes
          [c.noticeNumber, 1, 0, 4, 16, 32, 4294967295, 65, (c.accrued ||| Cond.clockClamped.bit).groups.toNat, 32,
            4294967295, 65, 65536, 1048574, 86399]) := rfl

/-- A second at the top stop raises CLOCK_CLAMPED and makes its notice, after the timers have counted. -/
theorem clockTick_stopped {s t : State} (hr : s.clock.state = .running) (hv : s.clock.value = Config.topStop)
    (ht : t = (advanceClock s.tickTimers).endStep) :
    let u := s.tickTimers.raiseAlone (engineOp .clock) .clockClamped
    t = { s.tickTimers with txQueue := s.txQueue ++ u.notices, conditions := u.conditions.noticed } := by
  rw [ht, advanceClock_stopped (s := s.tickTimers) hr hv, State.endStep_noticed, State.raiseAlone_eq]
  rfl

theorem State.tickTimers_now {s : State} (hr : s.clock.state = .running) (hv : s.clock.value = Config.topStop) :
    s.tickTimers.now = Config.topStop := by
  show s.clock.now = _
  rw [Clock.now, hr]
  exact hv

/-- The Condition Unit before the notice of such a second. -/
theorem clampedTick_conditions {s : State} (hr : s.clock.state = .running) (hv : s.clock.value = Config.topStop)
    (hs : s.settled) :
    (s.tickTimers.raiseAlone (engineOp .clock) .clockClamped).conditions =
      { s.conditions.clamped with
        causes :=
          if s.conditions.accrued.groupSet .clock = false ∧ s.conditions.enables.has .clock = true then
            s.conditions.clamped.causes
          else [] } := by
  have hcauses : s.tickTimers.conditions.causes = [] := hs
  rw [State.raiseAlone_eq, State.tickTimers_now hr hv, hcauses]
  rfl

/-- The group CLOCK goes from clear to set with its enable yes: one notice, placed last (R178, R179). -/
theorem clampedTick_fires {s : State} (hr : s.clock.state = .running) (hv : s.clock.value = Config.topStop)
    (hs : s.settled) (hg : s.conditions.accrued.groupSet .clock = false) (he : s.conditions.enables.has .clock = true)
    (hp : s.present s.conditions.noticeInitiator = true) (hroom : s.txQueue.length < 2048) :
    let u := s.tickTimers.raiseAlone (engineOp .clock) .clockClamped
    u.notices = [s.conditions.clamped.noticeFrame] ∧
      u.conditions.noticed.noticeNumber = (s.conditions.noticeNumber + 1) % 65536 := by
  intro u
  have hu : u.conditions = s.conditions.clamped := by
    refine (clampedTick_conditions hr hv hs).trans ?_
    rw [if_pos ⟨hg, he⟩]
  have hrest : u.present s.conditions.noticeInitiator = true ∧ u.txRoom = true := by
    show (State.raiseAlone _ _ _).present _ = true ∧ (State.raiseAlone _ _ _).txRoom = true
    rw [State.raiseAlone_eq]
    exact ⟨hp, decide_eq_true hroom⟩
  have hplaced : (u.present u.conditions.noticeInitiator && u.txRoom) = true := by
    rw [hu]
    exact (Bool.and_eq_true _ _).mpr hrest
  have hcauses : u.conditions.causes ≠ [] := by
    rw [hu]
    exact List.cons_ne_nil _ _
  refine ⟨?_, ?_⟩
  · rw [State.notices, if_neg hcauses, if_pos hplaced, hu]
  · rw [Conditions.noticed, hu]
    rfl

/-- The group is set already, or not enabled: no notice. -/
theorem clampedTick_quiet {s : State} (hr : s.clock.state = .running) (hv : s.clock.value = Config.topStop)
    (hs : s.settled)
    (h : s.conditions.accrued.groupSet .clock = true ∨ s.conditions.enables.has .clock = false) :
    let u := s.tickTimers.raiseAlone (engineOp .clock) .clockClamped
    u.notices = [] ∧ u.conditions.noticed.noticeNumber = s.conditions.noticeNumber := by
  intro u
  have hfires : ¬ (s.conditions.accrued.groupSet .clock = false ∧ s.conditions.enables.has .clock = true) := by
    rcases h with h | h <;> simp [h]
  have hu : u.conditions = { s.conditions.clamped with causes := [] } := by
    refine (clampedTick_conditions hr hv hs).trans ?_
    rw [if_neg hfires]
  refine ⟨?_, ?_⟩
  · rw [State.notices, hu]
    rfl
  · rw [Conditions.noticed, hu]
    rfl

/-- Settles O7: the Clock below its top stop, at it, and Unset, and the timers in each case. -/
theorem clockTickCounts : Obligations.ClockTickCounts := by
  refine ⟨fun s hon hs hr hv => ?_, fun s hon hr hv => ?_, fun s hon => ?_⟩
  · refine ⟨_, exec_clockTick hon, ?_⟩
    rw [advanceClock_below (s := s.tickTimers) hr hv, State.endStep_quiet]
    · rfl
    · exact hs
  · refine ⟨_, exec_clockTick hon, ?_⟩
    have ht := clockTick_stopped hr hv rfl
    generalize (advanceClock s.tickTimers).endStep = t at ht
    have hlast : (s.tickTimers.raiseAlone (engineOp .clock) .clockClamped).conditions.last =
        s.conditions.clamped.last := by
      rw [State.raiseAlone_eq, State.tickTimers_now hr hv]
      rfl
    have hunit : t.conditions = (s.tickTimers.raiseAlone (engineOp .clock) .clockClamped).conditions.noticed := by
      rw [ht]
    have hqueue : t.txQueue = s.txQueue ++ (s.tickTimers.raiseAlone (engineOp .clock) .clockClamped).notices := by
      rw [ht]
    refine ⟨by rw [ht]; rfl, by rw [ht]; rfl, ?_, ?_, ?_, ?_, ?_, fun _ => ?_, fun hs hg he hp hroom => ?_,
      fun hs h => ?_⟩
    · rw [hunit, State.raiseAlone_eq]
      rfl
    · rw [hunit]
      exact hlast
    · rw [ht]
      rfl
    · rw [hunit, State.raiseAlone_eq]
      rfl
    · rw [hunit, State.raiseAlone_eq]
      rfl
    · rw [State.settled, hunit]
      rfl
    · obtain ⟨hnotices, hnumber⟩ := clampedTick_fires hr hv hs hg he hp hroom
      rw [hunit, hqueue, hnotices, noticeFrame_clamped]
      exact ⟨hnumber, rfl⟩
    · obtain ⟨hnotices, hnumber⟩ := clampedTick_quiet hr hv hs h
      rw [hunit, hqueue, hnotices, List.append_nil]
      exact ⟨hnumber, rfl⟩
  · refine ⟨_, exec_clockTick hon, fun hu => ?_, ?_⟩
    · rw [advanceClock_unset (s := s.tickTimers) hu, State.endStep_noticed]
      exact ⟨rfl, rfl⟩
    · obtain ⟨hslot, hcontext⟩ := clockTick_timers (s := s) rfl
      refine ⟨fun n command cls owner timer h => ?_, fun n h => ?_, fun c w h => ?_, fun c r h => ?_, fun c h => ?_⟩
      · rw [hslot, h]
        rfl
      · rw [hslot]
        rcases h with h | h <;> rw [h] <;> rfl
      · rw [hcontext, h]
        rfl
      · rw [hcontext, h]
        rfl
      · rw [hcontext, h]
        rfl

/-! ### Requests that write the Clock and the Sweeper's flag (R35, R36) -/

/-- The state once a request has written the Clock, and signalled a rollover or none. -/
def State.clocked (s : State) (clock : Clock) (again : Bool) : State :=
  { s with clock := clock, sweeper := { s.sweeper with passAgain := again } }

/-- The reply to a request that has written the Clock joins the transmit queue. -/
theorem answerControl_clocked {s : State} {f : Frame} {rest : List RxFrame} {request : Nat} (clock : Clock)
    (again : Bool) (status : Status) (words : List Nat) (h : s.officerAsks f rest request) :
    answerControl f status words ((s.taken rest).clocked clock again) =
      (s.answered rest (f.reply status words)).clocked clock again := by
  obtain ⟨⟨-, -, -, hroom, -⟩, -, -, hl, hen, -, -⟩ := h
  have hlimit : Config.intakeLimit ≤ Config.transmitLimit := by decide
  refine State.send_placed ((s.taken rest).clocked clock again) (controlReply f.initiator f.tag f.code status words) hl
    ?_ (Nat.lt_of_lt_of_le hroom hlimit)
  show (s.initiator f.initiator).state ≠ .absent
  rw [hen]
  decide

/-- A request that writes the Clock as given is answered. -/
theorem controlEvent_clocked {s : State} {f : Frame} {rest : List RxFrame} {request : Nat}
    {act : Frame → State → State} {clock : Clock} {again : Bool} {status : Status} {words : List Nat}
    (h : s.officerAsks f rest request)
    (ha : act f (s.taken rest) = answerControl f status words ((s.taken rest).clocked clock again)) :
    controlEvent request act s = (s.answered rest (f.reply status words)).clocked clock again := by
  have hs : s.conditions.causes = [] := h.1.2.1
  rw [answerControl_clocked clock again status words h] at ha
  rw [controlEvent_taken request act s f rest h (by rw [ha]; exact hs), ha]

/-- A request whose value a limit has changed is answered CLAMPED, and raises CLOCK_CLAMPED at the time the Clock then
shows (R35, R36, R173, R174). -/
theorem controlEvent_clamped {s : State} {f : Frame} {rest : List RxFrame} {request : Nat}
    {act : Frame → State → State} {clock : Clock} {again : Bool} {words : List Nat} (h : s.officerAsks f rest request)
    (ha : act f (s.taken rest) =
      raiseClamped f (answerControl f .clamped words ((s.taken rest).clocked clock again))) :
    ∃ (t : State) (notices : List Frame), controlEvent request act s = t ∧
      t = { s with
        rxQueue := rest
        txQueue := s.txQueue ++ [f.reply .clamped words] ++ notices
        clock := clock
        sweeper := { s.sweeper with passAgain := again }
        conditions := t.conditions } ∧
      s.raisesOne t .clockClamped (some (f.outcome .clockClamped clock.now)) notices := by
  have hs : (s.clocked clock again).settled := h.1.2.1
  have hkind : f.opKind = .control f.code := by simp [Frame.opKind, h.2.1]
  rw [answerControl_clocked clock again .clamped words h, raiseClamped] at ha
  have hevent := controlEvent_full request act s f rest h
  rw [ha] at hevent
  generalize hu : ((s.answered rest (f.reply .clamped words)).clocked clock again).raiseAlone
    (requestOp f.initiator f.tag (.control f.code)) .clockClamped = u at hevent
  rw [State.raiseAlone_eq] at hu
  refine ⟨u.endStep, u.notices, hevent, ?_, ?_⟩
  · rw [State.endStep_noticed, ← hu]
    rfl
  · have hraises := State.raisesOne_endStep (s := s.clocked clock again) (u := u) (c := .clockClamped)
      (op := requestOp f.initiator f.tag (.control f.code)) hs (by rw [← hu, State.raiseAlone_eq]; rfl) (by rw [← hu]; rfl)
    rw [Frame.outcome, hkind]
    exact hraises

/-! ### SET CLOCK (R35) -/

/-- The Clock once a SET CLOCK has given it a value. -/
def Clock.given (c : Clock) (x : Nat) : Clock := { c with value := x, state := .running, backupValid := true }

/-- A SET CLOCK of an Unset Clock as a chain of its rows (R35). -/
theorem actSetClock_unset {f : Frame} {s : State} (hc : s.clock.state = .unset) :
    let given := f.param 0 * 86400 + f.param 1
    let taken := max s.clock.mark (min given Config.topStop)
    actSetClock f s =
      if 1048575 < f.param 0 ∨ 86399 < f.param 1 then refuseControl f .outOfRange none s
      else if taken = given then
        answerControl f .done [taken / 86400, taken % 86400] (s.clocked (s.clock.given taken) true)
      else
        raiseClamped f
          (answerControl f .clamped [taken / 86400, taken % 86400] (s.clocked (s.clock.given taken) true)) := by
  simp only [actSetClock, State.running, hc, Bool.or_eq_true, decide_eq_true_eq]
  rfl

/-- Settles O8: each row of the table in turn. -/
theorem setClockByRow : Obligations.SetClockByRow := by
  intro s f rest h given taken
  have hrow : s.clock.state = .unset → _ := fun hc => actSetClock_unset (f := f) (s := s.taken rest) hc
  have hrange : f.param 0 ≤ 1048575 → f.param 1 ≤ 86399 → ¬ (1048575 < f.param 0 ∨ 86399 < f.param 1) := by omega
  refine ⟨fun hc => ?_, fun hc hout => ?_, fun hc hday hsec htaken => ?_, fun hc hday hsec htaken => ?_⟩
  · exact congrArg Host.Outcome.next (controlEvent_refused h (if_pos ((s.taken rest).running_iff.mpr hc)))
  · exact congrArg Host.Outcome.next (controlEvent_refused h ((hrow hc).trans (if_pos hout)))
  · have hact := ((hrow hc).trans (if_neg (hrange hday hsec))).trans (if_pos htaken)
    have hevent := controlEvent_clocked h hact
    have hsame : max (s.taken rest).clock.mark (min (f.param 0 * 86400 + f.param 1) Config.topStop) = given := htaken
    rw [hsame] at hevent
    exact congrArg Host.Outcome.next hevent
  · have hact := ((hrow hc).trans (if_neg (hrange hday hsec))).trans (if_neg htaken)
    obtain ⟨t, notices, hevent, hfields, hraises⟩ := controlEvent_clamped h hact
    exact ⟨t, notices, congrArg Host.Outcome.next hevent, hfields, hraises⟩

/-! ### ADJUST CLOCK (R36, R37) -/

/-- An ADJUST CLOCK of a Running Clock, by whether a limit acted (R36). -/
theorem actAdjustClock_running {f : Frame} {s : State} (hc : s.clock.state = .running) :
    let asked := signedWord (f.param 0)
    let x := adjustedValue s.clock asked
    let u := s.clocked { s.clock with value := x }
      (s.sweeper.passAgain || decide (s.clock.value / 86400 < x / 86400))
    actAdjustClock f s =
      if limitAdjustment asked ≠ asked ∨ (x : Int) ≠ adjustedSum s.clock asked then
        raiseClamped f (answerControl f .clamped [x / 86400, x % 86400] u)
      else answerControl f .done [x / 86400, x % 86400] u := by
  intro asked x u
  have hstate : (if decide (dayOf s.clock.value < dayOf x) = true then
      { s with clock := { s.clock with value := x } }.rollover
      else { s with clock := { s.clock with value := x } }) = u := by
    show _ = State.clocked _ _ (_ || decide (dayOf s.clock.value < dayOf x))
    by_cases hday : dayOf s.clock.value < dayOf x <;> simp [State.clocked, State.rollover, hday]
  have hwords : clockWords u = [x / 86400, x % 86400] := by
    have hnow : u.now = x := by
      show Clock.now { s.clock with value := x } = x
      rw [Clock.now, hc]
    rw [clockWords, State.today, hnow]
    rfl
  have hclamped : adjustmentClamped s.clock asked = true ↔
      (limitAdjustment asked ≠ asked ∨ (x : Int) ≠ adjustedSum s.clock asked) := by
    simp [adjustmentClamped, x]
  unfold actAdjustClock
  simp only [s.running_iff.mpr hc, Bool.not_true, Bool.false_eq_true, if_false]
  show (if adjustmentClamped s.clock asked = true then
    raiseClamped f (answerControl f .clamped (clockWords (ite _ _ _)) (ite _ _ _)) else
    answerControl f .done (clockWords (ite _ _ _)) (ite _ _ _)) = _
  rw [hstate, hwords]
  simp only [hclamped]

/-- Settles O9: an Unset Clock, an adjustment taken as asked, and one that a limit changes. -/
theorem adjustClockLimits : Obligations.AdjustClockLimits := by
  intro s f rest h asked limited sum x acted
  have hrow : s.clock.state = .running → _ := fun hc => actAdjustClock_running (f := f) (s := s.taken rest) hc
  have hnow : s.clock.state = .running → Clock.now { s.clock with value := x } = x := fun hc => by
    rw [Clock.now, hc]
  refine ⟨fun hc => ?_, fun hc hacted => ?_, fun hc hacted => ?_⟩
  · refine congrArg Host.Outcome.next (controlEvent_refused h (if_pos ?_))
    simp [State.running, State.taken, hc]
  · exact congrArg Host.Outcome.next (controlEvent_clocked h ((hrow hc).trans (if_neg hacted)))
  · obtain ⟨t, notices, hevent, hfields, hraises⟩ := controlEvent_clamped h ((hrow hc).trans (if_pos hacted))
    refine ⟨t, notices, congrArg Host.Outcome.next hevent, hfields, ?_⟩
    rw [← hnow hc]
    exact hraises

end Sys2Proof.Machine

end

section
/-! SUPPORT. A run of confirmed writes folded in turn: what it leaves alone, a run inside one segment, and one that
fills a segment. -/

namespace Sys2Proof.Machine

/-! ### The fold of a run (R86 to R89) -/

/-- The offset at which a pending write ends. -/
def PendingWrite.stop (e : PendingWrite) : Nat := e.offset + e.count

/-- The entries of a run leave the list one after the other, without the credit they return. -/
def foldRun : List PendingWrite → WriteContext → State → WriteContext × State
  | [], w, s => (w, s)
  | e :: rest, w, s => foldRun rest (foldEntry w e s).1 (foldEntry w e s).2

theorem foldRun_append (low high : List PendingWrite) (w : WriteContext) (s : State) :
    foldRun (low ++ high) w s = foldRun high (foldRun low w s).1 (foldRun low w s).2 := by
  induction low generalizing w s with
  | nil => rfl
  | cons e rest ih => exact ih _ _

theorem State.Evolves.foldRun {s t : State} (h : s.Evolves t) (run : List PendingWrite) (w : WriteContext) :
    s.Evolves (foldRun run w t).2 := by
  induction run generalizing t w with
  | nil => exact h
  | cons e rest ih => exact ih (h.foldEntry w e) _

/-! ### A segment that fills (R14, R88) -/

/-- A segment whose end is reached closes by itself, unless its class is 0 or 1 (R14). -/
def State.filled (s : State) (v n : Nat) : State :=
  if closesByItself (s.segment v n).cls then s.closeSegment v n id else s

/-- The fault pending flag of a segment goes with the confirmed point to the next one (R153; log 27). -/
def State.carryFault (s : State) (v n m : Nat) : State :=
  if (s.segment v n).faultPending then
    (s.putSegment v n { s.segment v n with faultPending := false }).putSegment v m
      { (s.putSegment v n { s.segment v n with faultPending := false }).segment v m with faultPending := true }
  else s

theorem fillSegment_next {w : WriteContext} {m : Nat} (h : w.next = some m) (n : Nat) (s : State) :
    fillSegment w n s =
      ({ w with current := m, confirmedOffset := 0, next := none },
        (s.filled w.volume n).carryFault w.volume n m) := by
  simp only [fillSegment, h]
  rfl

theorem fillSegment_last {w : WriteContext} (h : w.next = none) (n : Nat) (s : State) :
    fillSegment w n s =
      ({ w with current := n, confirmedOffset := Config.segmentBlocks }, s.filled w.volume n) := by
  simp only [fillSegment, h]
  rfl

theorem foldEntry_inside {e : PendingWrite} (h : e.stop ≠ 16384) (w : WriteContext) (s : State) :
    foldEntry w e s =
      ({ w with current := e.segment, confirmedOffset := e.stop },
        s.putSegment w.volume e.segment ((s.segment w.volume e.segment).confirm e)) := if_neg h

theorem foldEntry_fills {e : PendingWrite} (h : e.stop = 16384) (w : WriteContext) (s : State) :
    foldEntry w e s =
      fillSegment w e.segment (s.putSegment w.volume e.segment ((s.segment w.volume e.segment).confirm e)) := if_pos h

/-! ### What a fold carries along -/

/-- A context with the fields that a fold does not read: its list, its credit and its outcome set. -/
def WriteContext.carrying (w : WriteContext) (pending : List PendingWrite) (credit : Nat) (outcome : CondSet) :
    WriteContext := { w with pending := pending, credit := credit, outcome := outcome }

/-- A state with the fields that a fold does not read and an answer has written: those of the Media Port, and the
Condition Unit. -/
def State.besides (s : State) (check : FrameCheck) (slots : Vector Slot 16) (conditions : Conditions) : State :=
  { s with mediaCheck := check, slots := slots, conditions := conditions }

section Carried

variable (p : List PendingWrite) (k : Nat) (o : CondSet) (check : FrameCheck) (slots : Vector Slot 16)
  (conditions : Conditions)

theorem State.filled_besides (s : State) (v n : Nat) :
    (s.besides check slots conditions).filled v n = (s.filled v n).besides check slots conditions := by
  unfold State.filled State.closeSegment
  show (if closesByItself (s.segment v n).cls = true then if (s.segment v n).state = .opened then _ else _ else _) = _
  split_ifs
  · rfl
  · rfl
  · rfl

theorem State.carryFault_besides (s : State) (v n m : Nat) :
    (s.besides check slots conditions).carryFault v n m = (s.carryFault v n m).besides check slots conditions := by
  unfold State.carryFault
  show (if (s.segment v n).faultPending = true then _ else _) = _
  split_ifs
  · rfl
  · rfl

theorem fillSegment_carrying (w : WriteContext) (n : Nat) (s : State) :
    fillSegment (w.carrying p k o) n (s.besides check slots conditions) =
      ((fillSegment w n s).1.carrying p k o, (fillSegment w n s).2.besides check slots conditions) := by
  cases h : w.next with
  | none =>
    rw [fillSegment_last h, fillSegment_last (w := w.carrying p k o) h, State.filled_besides]
    rfl
  | some m =>
    rw [fillSegment_next h, fillSegment_next (w := w.carrying p k o) h, State.filled_besides, State.carryFault_besides]
    rfl

theorem State.confirm_besides (s : State) (v : Nat) (e : PendingWrite) :
    (s.besides check slots conditions).putSegment v e.segment
        (((s.besides check slots conditions).segment v e.segment).confirm e) =
      (s.putSegment v e.segment ((s.segment v e.segment).confirm e)).besides check slots conditions := rfl

theorem foldEntry_carrying (w : WriteContext) (e : PendingWrite) (s : State) :
    foldEntry (w.carrying p k o) e (s.besides check slots conditions) =
      ((foldEntry w e s).1.carrying p k o, (foldEntry w e s).2.besides check slots conditions) := by
  have hconfirm := State.confirm_besides check slots conditions s (w.carrying p k o).volume e
  by_cases h : e.stop = 16384
  · rw [foldEntry_fills h, foldEntry_fills h, hconfirm, fillSegment_carrying]
    rfl
  · rw [foldEntry_inside h, foldEntry_inside h, hconfirm]
    rfl

/-- A confirmed run leaves the head of the list, each entry returning its credit, and the rest stays (R86). -/
theorem foldHeads_run (step : Nat) {run rest : List PendingWrite} (hrun : ∀ e ∈ run, e.confirmed = true)
    (hrest : ∀ e, rest.head? = some e → e.confirmed = false) (w : WriteContext) (s : State) :
    foldHeads step (run ++ rest) (w.carrying p k o) (s.besides check slots conditions) =
      ((foldRun run w s).1.carrying rest (k + step * run.length) o,
        (foldRun run w s).2.besides check slots conditions) := by
  induction run generalizing w s k with
  | nil =>
    cases rest with
    | nil => rfl
    | cons e rest =>
      have he : ¬ e.confirmed = true := by simp [hrest e rfl]
      exact if_neg he
  | cons e run ih =>
    have he : e.confirmed = true := hrun e List.mem_cons_self
    have hleaves := ih (k + step) (fun y hy => hrun y (List.mem_cons_of_mem _ hy)) (foldEntry w e s).1 (foldEntry w e s).2
    have hfirst : foldHeads step (e :: run ++ rest) (w.carrying p k o) (s.besides check slots conditions) =
        foldHeads step (run ++ rest) ((foldEntry w e s).1.carrying p (k + step) o)
          ((foldEntry w e s).2.besides check slots conditions) := by
      rw [List.cons_append, foldHeads, if_pos he, foldEntry_carrying]
      rfl
    rw [hfirst, hleaves, List.length_cons, Nat.mul_succ, Nat.add_assoc, Nat.add_comm step]
    rfl

end Carried

/-! ### What a fold leaves alone -/

/-- t is s with its Map and its Clock changed alone. -/
def State.MapMoved (s t : State) : Prop := ∃ volumes clock, t = { s with volumes := volumes, clock := clock }

theorem State.MapMoved.refl (s : State) : s.MapMoved s := ⟨_, _, rfl⟩

theorem State.MapMoved.trans {s t u : State} (h : s.MapMoved t) (k : t.MapMoved u) : s.MapMoved u := by
  obtain ⟨_, _, rfl⟩ := h
  obtain ⟨_, _, rfl⟩ := k
  exact ⟨_, _, rfl⟩

theorem State.MapMoved.fields {s t : State} (h : s.MapMoved t) : t = { s with volumes := t.volumes, clock := t.clock } := by
  obtain ⟨_, _, rfl⟩ := h
  rfl

theorem State.mapMoved_put (s : State) (v n : Nat) (g : Segment) : s.MapMoved (s.putSegment v n g) := ⟨_, _, rfl⟩

theorem State.mapMoved_filled (s : State) (v n : Nat) : s.MapMoved (s.filled v n) := by
  unfold State.filled State.closeSegment
  split_ifs
  · exact ⟨_, _, rfl⟩
  · exact .refl s
  · exact .refl s

theorem State.mapMoved_carryFault (s : State) (v n m : Nat) : s.MapMoved (s.carryFault v n m) := by
  unfold State.carryFault
  split
  · exact (s.mapMoved_put _ _ _).trans (State.mapMoved_put _ _ _ _)
  · exact .refl s

/-- x is w with the place where it stands changed alone. -/
def WriteContext.Moved (w x : WriteContext) : Prop :=
  ∃ current confirmedOffset next, x = { w with current := current, confirmedOffset := confirmedOffset, next := next }

theorem WriteContext.Moved.trans {w x y : WriteContext} (h : w.Moved x) (k : x.Moved y) : w.Moved y := by
  obtain ⟨_, _, _, rfl⟩ := h
  obtain ⟨_, _, _, rfl⟩ := k
  exact ⟨_, _, _, rfl⟩

theorem WriteContext.Moved.fields {w x : WriteContext} (h : w.Moved x) :
    x = { w with current := x.current, confirmedOffset := x.confirmedOffset, next := x.next } := by
  obtain ⟨_, _, _, rfl⟩ := h
  rfl

/-- An entry folded moves the Map, the Clock, and the place where the context stands. -/
theorem foldEntry_moves (w : WriteContext) (e : PendingWrite) (s : State) :
    let r := foldEntry w e s
    s.MapMoved r.2 ∧ w.Moved r.1 ∧ (r.1.current = e.segment ∨ w.next = some r.1.current) ∧
      (r.1.next = none ∨ r.1.next = w.next) := by
  intro r
  have hput := s.mapMoved_put w.volume e.segment ((s.segment w.volume e.segment).confirm e)
  by_cases h : e.stop = 16384
  · cases hn : w.next with
    | none =>
      have hr : r = _ := (foldEntry_fills h w s).trans (fillSegment_last hn _ _)
      rw [hr]
      exact ⟨hput.trans (State.mapMoved_filled _ _ _), ⟨_, _, _, rfl⟩, .inl rfl, .inl hn⟩
    | some m =>
      have hr : r = _ := (foldEntry_fills h w s).trans (fillSegment_next hn _ _)
      rw [hr]
      exact ⟨(hput.trans (State.mapMoved_filled _ _ _)).trans (State.mapMoved_carryFault _ _ _ _), ⟨_, _, _, rfl⟩,
        .inr rfl, .inl rfl⟩
  · have hr : r = _ := foldEntry_inside h w s
    rw [hr]
    exact ⟨hput, ⟨_, _, _, rfl⟩, .inl rfl, .inr rfl⟩

/-- A run folded moves the Map, the Clock, and the place where the context stands: the segment it stood in, one of the
run's, or the next one. -/
theorem foldRun_moves (run : List PendingWrite) (w : WriteContext) (s : State) :
    let r := foldRun run w s
    s.MapMoved r.2 ∧ w.Moved r.1 ∧
      (r.1.current = w.current ∨ (∃ e ∈ run, e.segment = r.1.current) ∨ w.next = some r.1.current) := by
  induction run generalizing w s with
  | nil => exact ⟨.refl s, ⟨_, _, _, rfl⟩, .inl rfl⟩
  | cons e rest ih =>
    obtain ⟨hstate, hctx, hcur, hnext⟩ := foldEntry_moves w e s
    obtain ⟨hstate', hctx', hcur'⟩ := ih (foldEntry w e s).1 (foldEntry w e s).2
    refine ⟨hstate.trans hstate', hctx.trans hctx', ?_⟩
    rcases hcur' with h | ⟨y, hy, h⟩ | h
    · rcases hcur with h1 | h1
      · exact .inr (.inl ⟨e, List.mem_cons_self, (h.trans h1).symm⟩)
      · exact .inr (.inr (h1.trans (congrArg some h.symm)))
    · exact .inr (.inl ⟨y, List.mem_cons_of_mem _ hy, h⟩)
    · rcases hnext with h1 | h1
      · rw [h1] at h
        cases h
      · exact .inr (.inr (h1.symm.trans h))

/-! ### The descriptor that takes a run (R47, R86, R89) -/

/-- The offset a run ends at, or q when it is empty. -/
def runStop (run : List PendingWrite) (q : Nat) : Nat := (run.getLast?.map PendingWrite.stop).getD q

theorem runStop_cons (e : PendingWrite) (rest : List PendingWrite) (q : Nat) :
    runStop (e :: rest) q = runStop rest e.stop := by
  unfold runStop
  rw [List.getLast?_cons]
  cases rest.getLast? <;> rfl

theorem Segment.confirm_cls (g : Segment) (e : PendingWrite) : (g.confirm e).cls = g.cls := by
  unfold Segment.confirm
  split <;> rfl

/-- A run of a class 0 segment is not folded (R89). -/
theorem Segment.foldl_confirm_zero {g : Segment} (h : g.cls = some 0) (run : List PendingWrite) :
    run.foldl Segment.confirm g =
      { g with appendPoint := run.foldl (fun a e => max a (e.offset + e.count)) g.appendPoint } := by
  induction run generalizing g with
  | nil => rfl
  | cons e rest ih =>
    have hg : g.confirm e = { g with appendPoint := max g.appendPoint (e.offset + e.count) } := if_pos h
    rw [List.foldl_cons, ih ((g.confirm_cls e).trans h), hg]
    rfl

theorem Segment.foldl_confirm {g : Segment} (h : g.cls ≠ some 0) (run : List PendingWrite) :
    run.foldl Segment.confirm g =
      { g with
        foldA := (run.foldl (fun p e => foldBytes p e.data) (g.foldA, g.foldB)).1
        foldB := (run.foldl (fun p e => foldBytes p e.data) (g.foldA, g.foldB)).2
        appendPoint := runStop run g.appendPoint } := by
  induction run generalizing g with
  | nil => rfl
  | cons e rest ih =>
    have hg : g.confirm e =
        { g with
          foldA := (foldBytes (g.foldA, g.foldB) e.data).1, foldB := (foldBytes (g.foldA, g.foldB) e.data).2
          appendPoint := e.stop } := if_neg h
    rw [List.foldl_cons, ih (fun hc => h ((g.confirm_cls e).symm.trans hc)), hg, runStop_cons]
    rfl

/-- Folding the entries of a run one after the other is taking the run up to its end. -/
theorem Segment.takes_eq (g : Segment) (run : List PendingWrite) (q : Nat) :
    g.takes run (runStop run q) = run.foldl Segment.confirm g := by
  unfold Segment.takes
  cases run with
  | nil => rfl
  | cons e rest =>
    rw [if_neg (List.cons_ne_nil e rest)]
    split
    · next h => exact (Segment.foldl_confirm_zero h _).symm
    · next h =>
      rw [Segment.foldl_confirm h, runStop_cons, runStop_cons]

theorem Segment.foldl_confirm_faultPending (g : Segment) (b : Bool) (run : List PendingWrite) :
    run.foldl Segment.confirm { g with faultPending := b } =
      { run.foldl Segment.confirm g with faultPending := b } := by
  by_cases h : g.cls = some 0
  · rw [Segment.foldl_confirm_zero (g := { g with faultPending := b }) h, Segment.foldl_confirm_zero h]
  · rw [Segment.foldl_confirm (g := { g with faultPending := b }) h, Segment.foldl_confirm h]

/-! ### A run inside one segment -/

/-- A run whose entries lie in one segment and stop short of its end is folded into that segment (R86). -/
theorem foldRun_inside {run : List PendingWrite} {n : Nat}
    (hin : ∀ y ∈ run, y.segment = n ∧ y.offset + y.count < 16384) {s : State} (hw : s.canonical) (w : WriteContext)
    (hn : n < (s.volume w.volume).count) :
    let r := foldRun run w s
    r.1 = { w with
      current := if run = [] then w.current else n, confirmedOffset := runStop run w.confirmedOffset } ∧
    r.2.clock = s.clock ∧
    ∀ v m, r.2.segment v m =
      if v = w.volume ∧ m = n then run.foldl Segment.confirm (s.segment w.volume n) else s.segment v m := by
  induction run generalizing w s with
  | nil =>
    refine ⟨rfl, rfl, fun v m => ?_⟩
    show s.segment v m = if v = w.volume ∧ m = n then s.segment w.volume n else s.segment v m
    split
    · next h => rw [h.1, h.2]
    · rfl
  | cons e rest ih =>
    obtain ⟨rfl, hstop⟩ := hin e List.mem_cons_self
    have hentry := foldEntry_inside (Nat.ne_of_lt hstop) w s
    have hcount := (s.putSegment_count w.volume e.segment w.volume ((s.segment w.volume e.segment).confirm e)).1
    have hput := State.putSegment_segment hw hn ((s.segment w.volume e.segment).confirm e)
    obtain ⟨hctx, hclock, hsegment⟩ := ih (fun y hy => hin y (List.mem_cons_of_mem _ hy))
      (State.putSegment_canonical hw w.volume e.segment ((s.segment w.volume e.segment).confirm e))
      { w with current := e.segment, confirmedOffset := e.stop } (by rw [hcount]; exact hn)
    rw [foldRun, hentry]
    refine ⟨hctx.trans ?_, hclock, fun v m => (hsegment v m).trans ?_⟩
    · rw [runStop_cons, if_neg (List.cons_ne_nil e rest), ite_self]
    · have hown := (hput w.volume e.segment).trans (if_pos ⟨rfl, rfl⟩)
      rw [hown, List.foldl_cons]
      split
      · rfl
      · next hvm => exact (hput v m).trans (if_neg hvm)

/-! ### A run that fills a segment -/

/-- A segment in this state closes when it fills (R14). -/
abbrev Segment.closesFull (g : Segment) : Prop := g.state = .opened ∧ g.cls ≠ some 0 ∧ g.cls ≠ some 1

theorem State.filled_closes {s : State} {v n : Nat} (h : (s.segment v n).closesFull) :
    s.filled v n =
      { s.putSegment v n (s.closes (s.segment v n)) with
        clock := { s.clock with mark := max s.clock.mark s.now } } := by
  obtain ⟨ho, hcls⟩ := h
  rw [State.filled, if_pos ((closesByItself_iff _).mpr hcls), State.closeSegment_opened id ho]
  rfl

theorem State.filled_stays {s : State} {v n : Nat} (h : ¬ (s.segment v n).closesFull) : s.filled v n = s := by
  unfold State.filled State.closeSegment
  by_cases hcls : closesByItself (s.segment v n).cls = true
  · rw [if_pos hcls, if_neg fun ho => h ⟨ho, (closesByItself_iff _).mp hcls⟩]
  · rw [if_neg hcls]

/-- The Map and the Clock once a segment is full. -/
theorem State.filled_spec {s : State} (hw : s.canonical) {v n : Nat} (hn : n < (s.volume v).count) :
    let g := s.segment v n
    let t := s.filled v n
    t.canonical ∧ (∀ u, (t.volume u).count = (s.volume u).count) ∧
      t.clock = (if g.closesFull then { s.clock with mark := max s.clock.mark s.now } else s.clock) ∧
      ∀ u m, t.segment u m = if u = v ∧ m = n then (if g.closesFull then s.closes g else g) else s.segment u m := by
  intro g t
  by_cases h : g.closesFull
  · have ht : t = _ := State.filled_closes h
    have hput := State.putSegment_segment hw hn (s.closes g)
    rw [ht, if_pos h, if_pos h]
    exact ⟨State.putSegment_canonical hw v n _, fun u => (s.putSegment_count v n u _).1, rfl, hput⟩
  · have ht : t = s := State.filled_stays h
    rw [ht, if_neg h, if_neg h]
    refine ⟨hw, fun _ => rfl, rfl, fun u m => ?_⟩
    split
    · next hum => rw [hum.1, hum.2]
    · rfl

theorem Segment.withFault_self (g : Segment) {b : Bool} (h : g.faultPending = b) : { g with faultPending := b } = g := by
  rw [← h]

/-- A fault pending flag has left one segment for another (R153; log 27). -/
theorem State.carryFault_spec {s : State} (hw : s.canonical) {v n m : Nat} (hn : n < (s.volume v).count)
    (hm : m < (s.volume v).count) (hne : m ≠ n) :
    let g := s.segment v n
    let t := s.carryFault v n m
    t.canonical ∧ (∀ u, (t.volume u).count = (s.volume u).count) ∧ t.clock = s.clock ∧
      t.segment v n = { g with faultPending := false } ∧
      t.segment v m =
        { s.segment v m with faultPending := (s.segment v m).faultPending || g.faultPending } ∧
      ∀ u k, ¬ (u = v ∧ (k = n ∨ k = m)) → t.segment u k = s.segment u k := by
  intro g t
  have hother : ¬ (v = v ∧ m = n) := fun h => hne h.2
  cases hf : g.faultPending with
  | false =>
    have ht : t = s := if_neg (by simp [g, hf])
    rw [ht, Bool.or_false]
    exact ⟨hw, fun _ => rfl, rfl, (g.withFault_self hf).symm, rfl, fun u k _ => rfl⟩
  | true =>
    let a := s.putSegment v n { g with faultPending := false }
    have ha : a.canonical := State.putSegment_canonical hw _ _ _
    have hcount : ∀ u, (a.volume u).count = (s.volume u).count := fun u => (s.putSegment_count v n u _).1
    have hsegment := State.putSegment_segment hw hn { g with faultPending := false }
    have hafter := State.putSegment_segment ha (v := v) (n := m) (by rw [hcount]; exact hm)
      { a.segment v m with faultPending := true }
    have ht : t = a.putSegment v m { a.segment v m with faultPending := true } := if_pos hf
    have ham : a.segment v m = s.segment v m := (hsegment v m).trans (if_neg hother)
    rw [ht, Bool.or_true]
    refine ⟨State.putSegment_canonical ha _ _ _, fun u => ?_, rfl, ?_, ?_, fun u k hk => ?_⟩
    · rw [(a.putSegment_count v m u _).1, hcount]
    · rw [hafter, if_neg fun h => hne h.2.symm]
      exact (hsegment v n).trans (if_pos ⟨rfl, rfl⟩)
    · rw [hafter, if_pos ⟨rfl, rfl⟩, ham]
    · rw [hafter, if_neg fun h => hk ⟨h.1, .inr h.2⟩]
      exact (hsegment u k).trans (if_neg fun h => hk ⟨h.1, .inl h.2⟩)

theorem State.closes_congr {s t : State} (h : s.MapMoved t) (hc : t.clock = s.clock) (g : Segment) :
    t.closes g = s.closes g := by
  obtain ⟨volumes, clock, rfl⟩ := h
  change clock = s.clock at hc
  subst hc
  rfl

theorem runStop_append_singleton (low : List PendingWrite) (e : PendingWrite) (q : Nat) :
    runStop (low ++ [e]) q = e.stop := by
  rw [runStop, List.getLast?_concat]
  rfl

/-- The state before a segment is closed, with the entries up to its end folded. -/
theorem foldRun_toEnd {low : List PendingWrite} {e : PendingWrite}
    (hlow : ∀ y ∈ low, y.segment = e.segment ∧ y.offset + y.count < 16384) (hstop : e.offset + e.count = 16384)
    {s : State} (hw : s.canonical) (w : WriteContext) (hn : e.segment < (s.volume w.volume).count) :
    let g := (s.segment w.volume e.segment).takes (low ++ [e]) 16384
    ∃ t x, s.MapMoved t ∧ t.canonical ∧ (∀ u, (t.volume u).count = (s.volume u).count) ∧ t.clock = s.clock ∧
      (∀ v m, t.segment v m = if v = w.volume ∧ m = e.segment then g else s.segment v m) ∧
      w.Moved x ∧ x.next = w.next ∧ foldRun (low ++ [e]) w s = fillSegment x e.segment t := by
  intro g
  obtain ⟨hctx, hclock, hsegment⟩ := foldRun_inside hlow hw w hn
  obtain ⟨hmoved, -⟩ := foldRun_moves low w s
  have hrewrites := ((State.Evolves.refl (s := s)).foldRun low w).rewrites
  have hsplit : foldRun (low ++ [e]) w s = foldEntry (foldRun low w s).1 e (foldRun low w s).2 := foldRun_append low [e] w s
  rw [foldEntry_fills hstop] at hsplit
  generalize foldRun low w s = r at hctx hclock hsegment hmoved hrewrites hsplit
  have hcanonical := hrewrites.canonical hw
  have hvolume : r.1.volume = w.volume := by rw [hctx]
  have hend : r.2.segment w.volume e.segment = low.foldl Segment.confirm (s.segment w.volume e.segment) :=
    (hsegment w.volume e.segment).trans (if_pos ⟨rfl, rfl⟩)
  have hg : (r.2.segment w.volume e.segment).confirm e = g := by
    have htakes := (s.segment w.volume e.segment).takes_eq (low ++ [e]) 0
    rw [runStop_append_singleton, List.foldl_append] at htakes
    rw [hend]
    exact htakes.symm.trans (congrArg (Segment.takes _ _) hstop)
  rw [hvolume, hg] at hsplit
  have hput := State.putSegment_segment hcanonical (v := w.volume) (n := e.segment)
    (by rw [hrewrites.count]; exact hn) g
  refine ⟨_, r.1, hmoved.trans (State.mapMoved_put _ _ _ _), State.putSegment_canonical hcanonical _ _ _,
    fun u => ((State.putSegment_count _ _ _ _ _).1).trans (hrewrites.count u), hclock, fun v m => ?_,
    ⟨_, _, w.next, hctx⟩, by rw [hctx], hsplit⟩
  rw [hput]
  split
  · rfl
  · next hvm => exact (hsegment v m).trans (if_neg hvm)

/-- A run with an entry that fills its segment: that segment closes unless its class is 0 or 1, and the confirmed point,
with a fault pending flag, is carried into the next segment, where the entries after it are folded (R14, R88). -/
theorem foldRun_fills {low high : List PendingWrite} {e : PendingWrite}
    (hlow : ∀ y ∈ low, y.segment = e.segment ∧ y.offset + y.count < 16384) (hstop : e.offset + e.count = 16384)
    {w : WriteContext} (hhigh : ∀ y ∈ high, w.next = some y.segment ∧ y.offset + y.count < 16384)
    (hne : w.next ≠ some e.segment) {s : State} (hw : s.canonical) (hn : e.segment < (s.volume w.volume).count)
    (hnext : ∀ m, w.next = some m → m < (s.volume w.volume).count) :
    let r := foldRun (low ++ e :: high) w s
    let q := runStop high (if w.next = none then 16384 else 0)
    let g := (s.segment w.volume e.segment).takes (low ++ [e]) 16384
    r.1 = { w with current := w.next.getD e.segment, confirmedOffset := q, next := none } ∧
    r.2.clock = (if g.closesFull then { s.clock with mark := max s.clock.mark s.now } else s.clock) ∧
    r.2.segment w.volume e.segment =
      { (if g.closesFull then s.closes g else g) with faultPending := g.faultPending && w.next.isNone } ∧
    (∀ m, w.next = some m →
      r.2.segment w.volume m =
        { (s.segment w.volume m).takes high q with
          faultPending := (s.segment w.volume m).faultPending || g.faultPending }) ∧
    ∀ v m, ¬ (v = w.volume ∧ (m = e.segment ∨ w.next = some m)) → r.2.segment v m = s.segment v m := by
  intro r q g
  obtain ⟨t, x, hmoved, hcanonical, hcount, hclock, hsegment, hx, hxnext, hfolded⟩ := foldRun_toEnd hlow hstop hw w hn
  have hr : r = foldRun high (fillSegment x e.segment t).1 (fillSegment x e.segment t).2 := by
    rw [← hfolded, ← foldRun_append, List.append_assoc]
    rfl
  obtain ⟨current, offset, next, rfl⟩ := hx
  change next = w.next at hxnext
  subst hxnext
  have hown : t.segment w.volume e.segment = g := (hsegment _ _).trans (if_pos ⟨rfl, rfl⟩)
  have hnow : t.now = s.now := congrArg Clock.now hclock
  obtain ⟨hfcanonical, hfcount, hfclock, hfsegment⟩ := State.filled_spec hcanonical (v := w.volume) (n := e.segment)
    (by rw [hcount]; exact hn)
  rw [hown, hclock, hnow] at hfclock
  rw [hown, State.closes_congr hmoved hclock] at hfsegment
  have hfown := (hfsegment w.volume e.segment).trans (if_pos ⟨rfl, rfl⟩)
  have hpending : (if g.closesFull then s.closes g else g).faultPending = g.faultPending := by
    split <;> rfl
  have hfother : ∀ v m, ¬ (v = w.volume ∧ m = e.segment) → (t.filled w.volume e.segment).segment v m = s.segment v m :=
    fun v m hvm => ((hfsegment v m).trans (if_neg hvm)).trans ((hsegment v m).trans (if_neg hvm))
  cases hnx : w.next with
  | none =>
    have hempty : high = [] := List.eq_nil_iff_forall_not_mem.mpr fun y hy => by
      have := (hhigh y hy).1
      rw [hnx] at this
      cases this
    subst hempty
    have hr' : r = _ := hr.trans (congrArg (fun p => foldRun [] p.1 p.2) (fillSegment_last hnx e.segment t))
    rw [hr']
    refine ⟨?_, hfclock, ?_, ?_, fun v m hvm => hfother v m fun h => hvm ⟨h.1, .inl h.2⟩⟩
    · simp only [q, hnx, if_true]
      rfl
    · exact hfown.trans (Segment.withFault_self _ (hpending.trans (Bool.and_true _).symm)).symm
    · intro m hm
      cases hm
  | some m =>
    have hm : m < (s.volume w.volume).count := hnext m hnx
    have hmn : m ≠ e.segment := fun h => hne (hnx.trans (congrArg some h))
    obtain ⟨hccanonical, hccount, hcclock, hcown, hcnext, hcother⟩ :=
      State.carryFault_spec hfcanonical (v := w.volume) (n := e.segment) (m := m)
        (by rw [hfcount, hcount]; exact hn) (by rw [hfcount, hcount]; exact hm) hmn
    rw [hfown, hpending] at hcnext
    rw [hfother _ _ fun h => hmn h.2] at hcnext
    rw [hfown] at hcown
    have hr' : r = _ := hr.trans (congrArg (fun p => foldRun high p.1 p.2) (fillSegment_next hnx e.segment t))
    obtain ⟨hctx, hrclock, hrsegment⟩ := foldRun_inside (run := high) (n := m)
      (fun y hy => ⟨Option.some.inj ((hhigh y hy).1.symm.trans hnx), (hhigh y hy).2⟩) hccanonical
      { w with current := m, confirmedOffset := 0, next := none } (by rw [hccount, hfcount, hcount]; exact hm)
    have hq : q = runStop high 0 := by
      simp only [q, hnx, reduceCtorEq, if_false]
    rw [hr']
    refine ⟨hctx.trans ?_, (hrclock.trans hcclock).trans hfclock, ?_, fun k hk => ?_, fun v k hvk => ?_⟩
    · rw [ite_self, hq]
      rfl
    · refine ((hrsegment _ _).trans (if_neg fun h => hmn h.2.symm)).trans (hcown.trans ?_)
      rw [Option.isNone_some, Bool.and_false]
    · cases hk
      refine ((hrsegment _ _).trans (if_pos ⟨rfl, rfl⟩)).trans ?_
      rw [hcnext, Segment.foldl_confirm_faultPending, hq, Segment.takes_eq]
    · have hvk' : ¬ (v = w.volume ∧ (k = e.segment ∨ k = m)) := fun h =>
        hvk ⟨h.1, h.2.imp_right fun hkm => congrArg some hkm.symm⟩
      refine ((hrsegment v k).trans (if_neg fun h => hvk' ⟨h.1, .inr h.2⟩)).trans ((hcother v k hvk').trans ?_)
      exact hfother v k fun h => hvk' ⟨h.1, .inl h.2⟩

/-- The fold of a run in the terms of the statements: the Map and the Clock, and where the context stands. -/
theorem foldRun_foldsTo {s : State} (hw : s.canonical) {w : WriteContext} {run : List PendingWrite}
    (hrun : ∀ e ∈ run, e.segment < (s.volume w.volume).count)
    (hnext : ∀ m, w.next = some m → m < (s.volume w.volume).count) :
    s.foldsTo (foldRun run w s).2 w (foldRun run w s).1 run := by
  obtain ⟨hmoved, hctx, -⟩ := foldRun_moves run w s
  have hrewrites := ((State.Evolves.refl (s := s)).foldRun run w).rewrites
  refine ⟨hmoved.fields, hrewrites.count, hctx.fields, ?_, ?_, ?_⟩
  · rintro rfl
    exact ⟨rfl, rfl⟩
  · intro n e hlast hin q
    have hmem : e ∈ run := List.mem_of_getLast? hlast
    have hne : run ≠ [] := List.ne_nil_of_mem hmem
    have hn : n < (s.volume w.volume).count := by
      rw [← (hin e hmem).1]
      exact hrun e hmem
    obtain ⟨hx, hclock, hsegment⟩ := foldRun_inside hin hw w hn
    have hq : ∀ d, runStop run d = q := fun d => by
      rw [runStop, hlast]
      rfl
    refine ⟨hx.trans ?_, hclock, ?_, fun v m hvm => (hsegment v m).trans (if_neg hvm)⟩
    · rw [if_neg hne, hq]
    · rw [hsegment, if_pos ⟨rfl, rfl⟩, ← Segment.takes_eq _ _ 0, hq]
  · intro low e high hsplit hlow hstop hhigh hne q g closes
    subst hsplit
    have hq : runStop high (if w.next = none then 16384 else 0) = q := by
      simp only [q, runStop]
      cases high.getLast? <;> rfl
    have hfills := foldRun_fills hlow hstop hhigh hne hw (hrun e (by simp)) hnext
    rw [hq] at hfills
    exact hfills

end Sys2Proof.Machine

end


section
/-! PROOF. MSTATUS OK or SOFT for a media write. -/

namespace Sys2Proof.Machine

/-! ### The end of a step that completes no operation (R174, R178) -/

/-- The Condition Unit with flags raised and causes that wait for a notice. -/
def Conditions.raisedWith (x : Conditions) (raised : CondSet) (causes : List Cause) : Conditions :=
  { x with accrued := x.accrued ||| raised, causes := causes }

theorem Conditions.raisedWith_noticed {x : Conditions} (hx : x.causes = []) (raised : CondSet) (causes : List Cause) :
    (x.raisedWith raised causes).noticed =
      { x with
        accrued := x.accrued ||| raised, noticeNumber := (x.raisedWith raised causes).noticed.noticeNumber } := by
  unfold Conditions.noticed Conditions.raisedWith
  dsimp only
  rw [hx]

/-- A step that raises flags and completes no operation, at its end. -/
theorem raisedWith_endStep {s v : State} (hs : s.settled) {raised : CondSet} {causes : List Cause}
    (hv : v.conditions = s.conditions.raisedWith raised causes) :
    let t := v.endStep
    t.conditions.accrued = s.conditions.accrued ||| raised ∧ s.completesNothing t ∧
      ∃ notices : List Frame, notices.length ≤ 1 ∧ t.txQueue = v.txQueue ++ notices ∧
        t = { v with conditions := t.conditions, txQueue := t.txQueue } := by
  intro t
  have ht : t = _ := v.endStep_noticed
  have hunit : t.conditions = v.conditions.noticed := congrArg State.conditions ht
  rw [hv] at hunit
  refine ⟨congrArg Conditions.accrued hunit, ?_, v.notices, v.notices_length, congrArg State.txQueue ht, by rw [ht]⟩
  rw [Conditions.raisedWith_noticed hs] at hunit
  rw [State.completesNothing, hunit]

/-! ### From the response to the state its context takes (R86, R87, R140) -/

/-- What becomes of a write context once the confirmed head of its list has left, of a list of so many entries before
(R86, R92, R95, R149, R153). -/
def settleConfirmed (c before : Nat) (w : WriteContext) (s : State) : State :=
  match w.state with
  | .streaming => creditStreaming c before w s
  | .draining => if w.pending = [] then completeWrite c w s else s.putWrite c w
  | .aborting => settleAborting c w s
  | .faulted => settleFaulted c w s
  | .reissuing => settleReissuing c w s

/-- A confirmation by the two things it does: the run leaves the list, and the context goes on from there. -/
theorem writeConfirms_eq (c tag : Nat) (w : WriteContext) (s : State) :
    writeConfirms c tag false w s =
      settleConfirmed c w.pending.length
        (foldHeads (if w.state = .reissuing then 0 else 1) (markConfirmed tag w.pending) w s).1
        (foldHeads (if w.state = .reissuing then 0 else 1) (markConfirmed tag w.pending) w s).2 := rfl

theorem writeConfirms_soft (c tag : Nat) (w : WriteContext) (s : State) :
    writeConfirms c tag true w s =
      writeConfirms c tag false (raiseFor w .mediaSoft s).1 (raiseFor w .mediaSoft s).2 := rfl

/-- The run of a list leaves it, whatever the Condition Unit and the outcome set stand at. -/
theorem writeConfirms_run {tag : Nat} {w : WriteContext} {run rest : List PendingWrite} (hleaves : w.leaves tag run rest)
    (c : Nat) (o : CondSet) (s : State) (check : FrameCheck) (slots : Vector Slot 16) (conditions : Conditions) :
    writeConfirms c tag false { w with outcome := o } (s.besides check slots conditions) =
      settleConfirmed c w.pending.length
        ((foldRun run w s).1.carrying rest (w.credit + if w.state = .reissuing then 0 else run.length) o)
        ((foldRun run w s).2.besides check slots conditions) := by
  obtain ⟨hlist, hrun, hrest⟩ := hleaves
  have hfold := foldHeads_run w.pending w.credit o check slots conditions (if w.state = .reissuing then 0 else 1)
    hrun hrest w s
  have hcredit : (if w.state = .reissuing then 0 else 1) * run.length = if w.state = .reissuing then 0 else run.length := by
    split
    · exact Nat.zero_mul _
    · exact Nat.one_mul _
  rw [hcredit, ← hlist] at hfold
  rw [writeConfirms_eq]
  exact congrArg (fun p => settleConfirmed c w.pending.length p.1 p.2) hfold

theorem State.raise_besides (s : State) (check : FrameCheck) (slots : Vector Slot 16) (op : Operation) (x : Cond) :
    ∃ causes, (s.besides check slots s.conditions).raise op x =
      s.besides check slots (s.conditions.raisedWith x.bit causes) := ⟨_, State.raise_eq _ _ _⟩

/-- The answer OK or SOFT of a write whose run leaves its list. -/
theorem exec_confirms {s : State} {bytes : List Byte} {f : Frame} {c : Nat} {w : WriteContext}
    {run rest : List PendingWrite} (h : s.writeAnswered bytes f c w run rest) :
    ∃ causes, exec (.mstatus bytes) s =
      .next (settleConfirmed c w.pending.length (w.folded (foldRun run w s).1 f run rest)
        ((foldRun run w s).2.besides (checkAfter bytes) (s.slots.setIfInBounds f.tag .free)
          (s.conditions.raisedWith (softSet f) causes))).endStep := by
  obtain ⟨⟨ha, hb, hstatus, ho, hctx, -⟩, hleaves, -⟩ := h
  obtain ⟨hon, -, -, -, -, hkind, -⟩ := id ha
  have hevent := exec_mstatus hon hb
  rw [responseArrives_owned ha (.inl rfl) ho] at hevent
  have hfreed : s.slotFreed bytes f.tag =
      s.besides (checkAfter bytes) (s.slots.setIfInBounds f.tag .free) s.conditions := rfl
  have hctx' : (s.besides (checkAfter bytes) (s.slots.setIfInBounds f.tag .free) s.conditions).context c = .write w :=
    hctx
  simp only [hfreed, handOver, hctx'] at hevent
  rcases hstatus with hok | hsoft
  · have hanswer : answerOf f = .ok := by simp [answerOf, hkind, hok]
    have hset : softSet f = 0#18 := by simp [softSet, hok]
    have hrun := writeConfirms_run hleaves c w.outcome s (checkAfter bytes) (s.slots.setIfInBounds f.tag .free)
      s.conditions
    refine ⟨s.conditions.causes, hevent.trans ?_⟩
    rw [hanswer, hset, Conditions.raisedWith, WriteContext.folded, hset, BitVec.or_zero, BitVec.or_zero]
    exact congrArg (fun v : State => Host.Outcome.next v.endStep) hrun
  · have hanswer : answerOf f = .soft := by simp [answerOf, hkind, hsoft]
    have hset : softSet f = Cond.mediaSoft.bit := by simp [softSet, hsoft]
    obtain ⟨causes, hraised⟩ := State.raise_besides s (checkAfter bytes) (s.slots.setIfInBounds f.tag .free) w.op
      .mediaSoft
    have hrun := writeConfirms_run hleaves c (w.outcome.insert .mediaSoft) s (checkAfter bytes)
      (s.slots.setIfInBounds f.tag .free) (s.conditions.raisedWith Cond.mediaSoft.bit causes)
    refine ⟨causes, hevent.trans ?_⟩
    rw [hanswer, answerWrite, writeConfirms_soft, raiseFor, hraised, hset, WriteContext.folded, hset]
    exact congrArg (fun v : State => Host.Outcome.next v.endStep) hrun

/-! ### A context that goes on (R86, R92, R95, R149, R153) -/

/-- The step of an answered write after which context c goes on as y, with frames for its initiator; u holds the Map and
the Clock. -/
def State.goesOn (s u : State) (bytes : List Byte) (f : Frame) (c : Nat) (y : WriteContext) (frames : List Frame) :
    Prop :=
  ∃ (t : State) (notices : List Frame), exec (.mstatus bytes) s = .next t ∧ notices.length ≤ 1 ∧
    t.context c = .write y ∧ (∀ d, d ≠ c → t.context d = s.context d) ∧
    t.conditions.accrued = s.conditions.accrued ||| softSet f ∧ s.completesNothing t ∧
    t.txQueue = s.txQueue ++ frames ++ notices ∧
    t = { u with
      mediaCheck := checkAfter bytes, slots := s.slots.setIfInBounds f.tag .free, contexts := t.contexts
      conditions := t.conditions, txQueue := t.txQueue }

/-- A context stored with its frames placed, in a state whose Map and Clock alone have moved, is a context that goes
on. -/
theorem State.goesOn_of_stored {s u v : State} {bytes : List Byte} {f : Frame} {c : Nat} {y : WriteContext}
    {frames : List Frame} {causes : List Cause} (hs : s.settled) (hc : c < 32) (hu : s.MapMoved u)
    (hexec : exec (.mstatus bytes) s = .next v.endStep)
    (hv : v =
      { (u.besides (checkAfter bytes) (s.slots.setIfInBounds f.tag .free)
          (s.conditions.raisedWith (softSet f) causes)).putWrite c y with txQueue := s.txQueue ++ frames }) :
    s.goesOn u bytes f c y frames := by
  obtain ⟨volumes, clock, rfl⟩ := hu
  obtain ⟨haccrued, hnothing, notices, hlen, htx, ht⟩ := raisedWith_endStep hs (congrArg State.conditions hv)
  have hcontexts : v.endStep.contexts = Table.set s.contexts c (.write y) :=
    (congrArg State.contexts ht).trans (congrArg State.contexts hv)
  have hcontext : ∀ d, v.endStep.context d = (s.setContext c (.write y)).context d := fun d =>
    congrArg (fun x => Table.get Context.free x d) hcontexts
  refine ⟨v.endStep, notices, hexec, hlen, ?_, fun d hd => ?_, haccrued, hnothing, ?_, ?_⟩
  · exact (hcontext c).trans (State.setContext_context_same _ _ _ hc)
  · exact (hcontext d).trans (State.setContext_context_other _ _ _ _ hd)
  · rw [htx, hv]
  · rw [hv] at ht ⊢
    rw [hv] at hcontexts
    generalize State.endStep _ = t at ht hcontexts ⊢
    rw [hcontexts]
    exact ht

theorem State.sendFor_placed {s : State} {w : WriteContext} {f : Frame} (hrem : w.removed = false)
    (hready : s.ingestLink = .ready) (hp : (s.initiator f.initiator).state ≠ .absent)
    (hroom : s.txQueue.length < 2048) : s.sendFor w f = { s with txQueue := s.txQueue ++ [f] } := by
  rw [State.sendFor, hrem]
  exact State.send_placed s f hready hp hroom

section Confirmed

variable {s : State} {c before : Nat} {w : WriteContext}

theorem settleConfirmed_streaming (hw : w.state = .streaming) (hl : w.pending.length < before)
    (hready : s.ingestLink = .ready) (hp : (s.initiator w.initiator).state ≠ .absent) (hrem : w.removed = false)
    (hroom : s.txQueue.length < 2048) :
    settleConfirmed c before w s =
      { s.putWrite c { w with idle := some s.idleTime } with
        txQueue := s.txQueue ++ [creditOf w w.current w.confirmedOffset w.credit] } := by
  have hcredit : settleConfirmed c before w s = creditStreaming c before w s := by rw [settleConfirmed, hw]
  rw [hcredit, creditStreaming, if_pos hl]
  exact State.sendFor_placed (s := s.putWrite c { w with idle := some s.idleTime })
    (w := { w with idle := some s.idleTime }) (f := creditFrame { w with idle := some s.idleTime }) hrem hready hp hroom

theorem settleConfirmed_stopped (hw : w.state = .streaming) (hl : ¬ w.pending.length < before) :
    settleConfirmed c before w s = s.putWrite c w := by
  rw [settleConfirmed, hw]
  exact if_neg hl

theorem settleConfirmed_unfinished (hw : w.state = .draining ∨ w.state = .aborting ∨ w.state = .reissuing)
    (hl : w.pending ≠ []) : settleConfirmed c before w s = s.putWrite c w := by
  rcases hw with hw | hw | hw
  all_goals
    rw [settleConfirmed, hw]
    exact if_neg hl

theorem settleConfirmed_waiting (hw : w.state = .faulted) (hl : ∃ e ∈ w.pending, e.mediaTag ≠ none) :
    settleConfirmed c before w s = s.putWrite c w := by
  obtain ⟨e, he, htag⟩ := hl
  rw [settleConfirmed, hw]
  exact if_pos (List.any_eq_true.mpr ⟨e, he, Option.isSome_iff_ne_none.mpr htag⟩)

end Confirmed

/-! ### The settling of a fault record (R150, R154) -/

theorem announceSettled_placed {s : State} {x : FaultRecord} {w : WriteContext} (hready : s.ingestLink = .ready)
    (hp : (s.initiator w.initiator).state ≠ .absent) (hrem : w.removed = false)
    (hres : ∀ p, x.resumer = some p → (s.initiator p.1).state ≠ .absent) (hroom : s.txQueue.length < 2048) (r : Nat) :
    announceSettled x w r s =
      { s with
        txQueue := s.txQueue ++ settlingFrames x w r
        conditions :=
          { s.conditions with
            causes := s.conditions.causes ++ if x.reissues = 0 then [.faultRecord r] else [] } } := by
  unfold announceSettled settlingFrames
  split
  · exact congrArg (fun v : State => v.note (.faultRecord r))
      (State.sendFor_placed (f := faultedFrame w r x.kind) hrem hready hp hroom)
  · unfold sendResumerFault
    cases hx : x.resumer with
    | none => simp only [List.append_nil]
    | some p =>
      have hplaced := State.send_placed s (controlReply p.1 p.2 17 .faulted [r, w.confirmedOffset, x.kind.number, x.reissues])
        hready (hres p hx) hroom
      simp only [List.append_nil]
      exact hplaced

/-- A record in use is one of the four. -/
theorem State.record_range {s : State} {r : Nat} {x : FaultRecord} (hr : s.record r = some x) : 1 ≤ r ∧ r ≤ 4 := by
  by_contra hout
  have hnone : s.record r = none := by
    unfold State.record Table.get1
    split
    · rfl
    · have : ¬ r - 1 < 4 := by omega
      simp [Table.get, this]
  rw [hnone] at hr
  cases hr

/-- The state in which a record has taken the list of its context. -/
def State.recorded (s : State) (c r : Nat) (x : FaultRecord) (w : WriteContext) : State :=
  ((s.putWrite c { w with pending := [] }).putSegment w.volume w.current
    { s.segment w.volume w.current with faultPending := true }).setRecord r (some (x.settle w))

theorem State.recorded_settles {s t : State} {c r : Nat} {x : FaultRecord} {w : WriteContext} (hc : c < 32)
    (hr : s.record r = some x) (hw : s.canonical) (hn : w.current < (s.volume w.volume).count)
    (hvolumes : t.volumes = (s.recorded c r x w).volumes) (hcontexts : t.contexts = (s.recorded c r x w).contexts)
    (hrecords : t.records = (s.recorded c r x w).records) :
    s.settles t c r x w (s.segment w.volume w.current) ∧ ∀ d, d ≠ c → t.context d = s.context d := by
  have hrecord : ∀ k, t.record k = (s.setRecord r (some (x.settle w))).record k := fun k =>
    congrArg (fun l => Table.get1 none l k) hrecords
  have hcontext : ∀ d, t.context d = (s.setContext c (.write { w with pending := [] })).context d := fun d =>
    congrArg (fun l => Table.get Context.free l d) hcontexts
  have hsegment : ∀ v m, t.segment v m = _ := fun v m =>
    (State.segment_congr hvolumes v m).trans
      (State.putSegment_segment hw hn { s.segment w.volume w.current with faultPending := true } v m)
  refine ⟨⟨?_, fun k hk => ?_, ?_, ?_, fun v m hvm => ?_⟩, fun d hd => ?_⟩
  · exact (hrecord r).trans (Table.get1_set1_same _ _ _ _ (State.record_range hr))
  · exact (hrecord k).trans (Table.get1_set1_other _ _ _ _ _ hk)
  · exact (hcontext c).trans (State.setContext_context_same _ _ _ hc)
  · exact (hsegment _ _).trans (if_pos ⟨rfl, rfl⟩)
  · exact (hsegment v m).trans (if_neg hvm)
  · exact (hcontext d).trans (State.setContext_context_other _ _ _ _ hd)

/-- A Faulted context with no write in flight settles its record. -/
theorem settleConfirmed_settles {s : State} {c before r : Nat} {x : FaultRecord} {w : WriteContext}
    (hw : w.state = .faulted) (hl : ∀ e ∈ w.pending, e.mediaTag = none) (ho : s.recordOf c = some r)
    (hr : s.record r = some x) :
    settleConfirmed c before w s = announceSettled x w r (s.recorded c r x w) := by
  have hnone : ¬ w.pending.any (fun e => e.mediaTag.isSome) = true := by
    simp only [List.any_eq_true, not_exists, not_and]
    intro e he
    simp [hl e he]
  rw [settleConfirmed, hw]
  show settleFaulted c w s = _
  rw [settleFaulted, if_neg hnone, ho]
  simp only [hr]
  rfl

/-- The step of an answered write after which the record r of context c, which stood as x, has taken the list of the
Faulted context y; u holds the Map and the Clock. -/
def State.settlesIn (s u : State) (bytes : List Byte) (f : Frame) (c r : Nat) (x : FaultRecord) (y : WriteContext) :
    Prop :=
  ∃ (t : State) (notices : List Frame), exec (.mstatus bytes) s = .next t ∧ notices.length ≤ 1 ∧
    u.settles t c r x y (u.segment y.volume y.current) ∧ (∀ d, d ≠ c → t.context d = s.context d) ∧
    t.conditions.accrued = s.conditions.accrued ||| softSet f ∧ s.completesNothing t ∧
    t.txQueue = s.txQueue ++ settlingFrames x y r ++ notices ∧
    t = { u with
      mediaCheck := checkAfter bytes, slots := s.slots.setIfInBounds f.tag .free, volumes := t.volumes
      contexts := t.contexts, records := t.records, conditions := t.conditions, txQueue := t.txQueue }

theorem State.settlesIn_of_recorded {s u v : State} {bytes : List Byte} {f : Frame} {c r : Nat} {x : FaultRecord}
    {y : WriteContext} {causes : List Cause} (hs : s.settled) (hc : c < 32) (hu : s.MapMoved u) (hw : u.canonical)
    (hn : y.current < (u.volume y.volume).count) (hr : s.record r = some x)
    (hexec : exec (.mstatus bytes) s = .next v.endStep)
    (hv : v =
      { (u.besides (checkAfter bytes) (s.slots.setIfInBounds f.tag .free)
          (s.conditions.raisedWith (softSet f) causes)).recorded c r x y with
        txQueue := s.txQueue ++ settlingFrames x y r
        conditions := s.conditions.raisedWith (softSet f) causes }) :
    s.settlesIn u bytes f c r x y := by
  obtain ⟨haccrued, hnothing, notices, hlen, htx, ht⟩ := raisedWith_endStep hs (congrArg State.conditions hv)
  have hru : u.record r = some x := by
    rw [hu.fields]
    exact hr
  obtain ⟨hsettles, hother⟩ := State.recorded_settles (t := v.endStep) hc hru hw hn
    ((congrArg State.volumes ht :).trans (congrArg State.volumes hv :))
    ((congrArg State.contexts ht :).trans (congrArg State.contexts hv :))
    ((congrArg State.records ht :).trans (congrArg State.records hv :))
  have hcontext : ∀ d, u.context d = s.context d := fun d => by
    rw [hu.fields]
    rfl
  refine ⟨v.endStep, notices, hexec, hlen, hsettles, fun d hd => (hother d hd).trans (hcontext d), haccrued, hnothing,
    ?_, ?_⟩
  · rw [htx, hv]
  · rw [hv] at ht ⊢
    generalize State.endStep _ = t at ht ⊢
    rw [ht]
    rfl

/-! ### The context and its segments -/

/-- What an answered write leaves alone outside the Map and the Clock. -/
theorem State.MapMoved.besides_same {s u : State} (h : s.MapMoved u) (check : FrameCheck) (slots : Vector Slot 16)
    (conditions : Conditions) :
    let v := u.besides check slots conditions
    v.ingestLink = s.ingestLink ∧ (∀ i, v.initiator i = s.initiator i) ∧ v.txQueue = s.txQueue ∧
      v.idleTime = s.idleTime ∧ (∀ r, v.record r = s.record r) ∧ ∀ c, v.recordOf c = s.recordOf c := by
  obtain ⟨_, _, rfl⟩ := h
  exact ⟨rfl, fun _ => rfl, rfl, rfl, fun _ => rfl, fun _ => rfl⟩

theorem State.stands.inside {s : State} {w : WriteContext} (h : s.stands w) {m : Nat}
    (hm : m = w.current ∨ w.next = some m ∨ ∃ e ∈ w.pending, e.segment = m) : m < (s.volume w.volume).count := by
  have hexists := h m (.inr hm)
  simp only [State.segmentExists, Bool.and_eq_true, decide_eq_true_eq] at hexists
  exact hexists.2

theorem WriteContext.run_segment {w : WriteContext} {tag : Nat} {run rest : List PendingWrite}
    (h : w.leaves tag run rest) {e : PendingWrite} (he : e ∈ run) : ∃ y ∈ w.pending, y.segment = e.segment := by
  have hmem : e ∈ run ++ rest := List.mem_append_left _ he
  rw [← h.1] at hmem
  obtain ⟨y, hy, rfl⟩ := List.mem_map.mp hmem
  exact ⟨y, hy, by split <;> rfl⟩

theorem run_inside {s : State} {w : WriteContext} {tag : Nat} {run rest : List PendingWrite} (hstands : s.stands w)
    (hleaves : w.leaves tag run rest) : ∀ e ∈ run, e.segment < (s.volume w.volume).count := fun _ he =>
  hstands.inside (.inr (.inr (WriteContext.run_segment hleaves he)))

/-- A context stands in a segment that exists, also once its run is folded. -/
theorem foldRun_current_inside {s : State} {w : WriteContext} {tag : Nat} {run rest : List PendingWrite}
    (hstands : s.stands w) (hleaves : w.leaves tag run rest) :
    (foldRun run w s).1.current < (s.volume w.volume).count := by
  rcases (foldRun_moves run w s).2.2 with hcur | ⟨e, he, hcur⟩ | hcur
  · exact hstands.inside (.inl hcur)
  · exact hcur ▸ run_inside hstands hleaves e he
  · exact hstands.inside (.inr (.inl hcur))

/-- Settles O44: the run leaves the list, and the state of the context says what follows. -/
theorem writeConfirmed : Obligations.WriteConfirmed := by
  intro s bytes f c w run rest h
  obtain ⟨causes, hexec⟩ := exec_confirms h
  obtain ⟨⟨⟨-, hs, -⟩, -, -, -, hctx, hw⟩, hleaves, hstands, ⟨hready, hp, hrem, -⟩, hroom⟩ := h
  have hc : c < 32 := State.context_lt (s := s) (by rw [hctx]; simp)
  have hrun := run_inside hstands hleaves
  have hlen : w.pending.length = run.length + rest.length := by
    rw [← List.length_append, ← hleaves.1, List.length_map]
  obtain ⟨hu, hx, -⟩ := foldRun_moves run w s
  have hrewrites := ((State.Evolves.refl (s := s)).foldRun run w).rewrites
  have hinside := foldRun_current_inside hstands hleaves
  refine ⟨_, _, foldRun_foldsTo hw hrun fun m hm => hstands.inside (.inr (.inl hm)), ?_⟩
  generalize foldRun run w s = p at hexec hu hx hrewrites hinside
  obtain ⟨x, u⟩ := p
  obtain ⟨current, confirmedOffset, next, rfl⟩ := hx
  let x : WriteContext := { w with current := current, confirmedOffset := confirmedOffset, next := next }
  let after := w.folded x f run rest
  let v := u.besides (checkAfter bytes) (s.slots.setIfInBounds f.tag .free) (s.conditions.raisedWith (softSet f) causes)
  obtain ⟨hlink, hpresent, htx, hidle, hrecord, hrecordOf⟩ := hu.besides_same (checkAfter bytes)
    (s.slots.setIfInBounds f.tag .free) (s.conditions.raisedWith (softSet f) causes)
  have hstored : settleConfirmed c w.pending.length after v = v.putWrite c after → s.goesOn u bytes f c after [] :=
    fun hv => State.goesOn_of_stored hs hc hu hexec (hv.trans (by rw [List.append_nil, ← htx]; rfl))
  refine ⟨fun hst hne => ?_, fun hst hnil => ?_, fun hst hne => ?_, fun hst hsent => ?_,
    fun r y hst hnone ho hr hres => ?_⟩
  · have hgone : after.pending.length < w.pending.length := by
      have := List.length_pos_iff.mpr hne
      show rest.length < _
      omega
    have hcredit : after.credit = w.credit + run.length := congrArg (w.credit + ·) (if_neg (by rw [hst]; nofun))
    have hframe : creditOf after after.current after.confirmedOffset after.credit =
        creditOf w current confirmedOffset (w.credit + run.length) := congrArg (creditOf w current confirmedOffset) hcredit
    have hv := settleConfirmed_streaming (c := c) (w := after) hst hgone (hlink.trans hready)
      ((hpresent w.initiator).symm ▸ hp) hrem (htx ▸ hroom)
    rw [htx, hidle, hframe] at hv
    exact State.goesOn_of_stored hs hc hu hexec hv
  · refine hstored (settleConfirmed_stopped hst ?_)
    show ¬ rest.length < _
    rw [hlen, hnil]
    simp
  · exact hstored (settleConfirmed_unfinished hst hne)
  · exact hstored (settleConfirmed_waiting hst hsent)
  · have hsettles := settleConfirmed_settles (s := v) (before := w.pending.length) (w := after) hst hnone
      ((hrecordOf c).trans ho) ((hrecord r).trans hr)
    have hplaced := announceSettled_placed (s := v.recorded c r y after) (x := y) (w := after) (hlink.trans hready)
      ((hpresent w.initiator).symm ▸ hp) hrem (fun p hy => (hpresent p.1).symm ▸ hres p hy) (htx ▸ hroom) r
    exact State.settlesIn_of_recorded (causes := causes ++ if y.reissues = 0 then [.faultRecord r] else []) hs hc hu
      (hrewrites.canonical hw) (by rw [hrewrites.count]; exact hinside) hr hexec
      (hsettles.trans (hplaced.trans (by rw [← htx]; rfl)))

end Sys2Proof.Machine

end

section
/-! PROOF. The Initiator Table: relocation by a staging window, and the last Enabled officer over every command. -/

namespace Sys2Proof.Machine

/-! ### Relocation (R55) -/

theorem relocate_without {e : InitiatorEntry} (h : e.window = none) (v n : Nat) : e.relocate v n = n := by
  simp only [InitiatorEntry.relocate, h]

/-- The window's own volume: the label area's numbers and the window's are exchanged. -/
theorem relocate_volume {e : InitiatorEntry} {w : Window} (h : e.window = some w) (n : Nat) :
    e.relocate w.volume n =
      if n < 8 then w.base + n else if w.base ≤ n ∧ n < w.base + 8 then n - w.base else n := by
  simp only [InitiatorEntry.relocate, h, if_true, Bool.and_eq_true, decide_eq_true_eq]
  rfl

theorem relocate_other {e : InitiatorEntry} {w : Window} (h : e.window = some w) {v : Nat} (hv : v ≠ w.volume)
    (n : Nat) : e.relocate v n = n := by
  simp only [InitiatorEntry.relocate, h, if_neg (Ne.symm hv)]

/-- Relocating twice gives the number named: the exchange is its own inverse. -/
theorem relocate_twice {e : InitiatorEntry} {w : Window} (h : e.window = some w) (hb : 8 ≤ w.base) (v n : Nat) :
    e.relocate v (e.relocate v n) = n := by
  by_cases hv : v = w.volume
  · subst hv
    rw [relocate_volume h, relocate_volume h]
    split_ifs <;> omega
  · rw [relocate_other h hv, relocate_other h hv]

/-- Settles O37, by the three places a number can stand in: the label area, the window, and neither. -/
theorem relocationExchanges : Obligations.RelocationExchanges := by
  refine ⟨fun e w h hb => ⟨fun n hn => ⟨?_, ?_⟩, fun n hn hout => ?_, fun v n hv => relocate_other h hv n,
    relocate_twice h hb⟩, fun e v n h => relocate_without h v n⟩
  · rw [relocate_volume h, if_pos hn]
  · rw [relocate_volume h, if_neg (by omega), if_pos (by omega), Nat.add_sub_cancel_left]
  · rw [relocate_volume h, if_neg (by omega), if_neg (by omega)]

/-! ### The commands that leave the Initiator Table -/

@[simp] theorem State.endStep_initiators (s : State) : s.endStep.initiators = s.initiators := by
  rw [State.endStep_noticed]

@[simp] theorem State.taken_initiators (s : State) (rest : List RxFrame) : (s.taken rest).initiators = s.initiators :=
  rfl

@[simp] theorem answerControl_initiators (f : Frame) (status : Status) (words : List Nat) (s : State) :
    (answerControl f status words s).initiators = s.initiators := State.send_initiators s _

@[simp] theorem refuseControl_initiators (f : Frame) (code : Code) (n : Option Nat) (s : State) :
    (refuseControl f code n s).initiators = s.initiators := State.send_initiators s _

@[simp] theorem State.raiseAlone_initiators (s : State) (op : Operation) (c : Cond) :
    (s.raiseAlone op c).initiators = s.initiators := by
  rw [State.raiseAlone_eq]

@[simp] theorem refuse_initiators (f : Frame) (k : RequestKind) (d : Denial) (s : State) :
    (refuse f k d s).initiators = s.initiators := (State.Evolves.refl.refuse f k d).tables.1

theorem onEvent_initiators {f : State → State} (hf : ∀ s, (f s).initiators = s.initiators) (s : State) :
    (onEvent s f).initiators = s.initiators := by
  rcases onEvent_cases s f with h | h <;> simp [h, hf]

theorem frameEvent_initiators {act : Frame → State → State} (ha : ∀ f s, (act f s).initiators = s.initiators)
    (kind : Nat) (s : State) : (frameEvent kind act s).initiators = s.initiators := by
  rcases frameEvent_cases kind act s with h | h | ⟨f, rest, -, h⟩ <;> simp [h, ha]

theorem controlEvent_initiators {act : Frame → State → State} (ha : ∀ f s, (act f s).initiators = s.initiators)
    (request : Nat) (s : State) : (controlEvent request act s).initiators = s.initiators := by
  rcases controlEvent_cases request act s with h | h | ⟨f, rest, -, ⟨d, h⟩ | h⟩ <;> simp [h, ha]

theorem startUp_initiators (clamped discarded : Bool) (s : State) :
    (startUp clamped discarded s).initiators = s.initiators := by
  obtain ⟨-, -, -, -, h, -⟩ := startUp_startedFrom clamped discarded s
  exact h

/-! ### What each command that is not ordinary does to the Initiator Table -/

theorem advanceClock_initiators (s : State) : (advanceClock s).initiators = s.initiators := by
  unfold advanceClock
  dsimp only
  split_ifs <;> simp

theorem frameArrives_initiators (bytes : List Byte) (s : State) :
    (frameArrives bytes s).initiators = s.initiators := by
  unfold frameArrives
  dsimp only
  split_ifs <;> simp

theorem grant_initiators (s : State) : (grant s).initiators = s.initiators := by
  have hrecord : ∀ r k, (recordTag r k s).initiators = s.initiators := fun r k => (recordTag_evolves r k s).tables.1
  unfold grant
  split
  · split
    · split
      · exact hrecord _ _
      all_goals rfl
    all_goals rfl
  · rfl

theorem mediaLost_initiators (s : State) : (mediaLost s).initiators = s.initiators := by
  unfold mediaLost
  split
  · dsimp only
    set l : State :=
      { s with mediaLink := .lost, mediaCheck := FrameCheck.cleared, slots := Vector.replicate 16 .free }
    have hw := (State.Evolves.refl (s := l)).eachContext (fun c u hu => hu.resetWrite c) (List.range 32)
    have hr := hw.eachContext (fun c u hu => hu.resetRead c) (List.range 32)
    exact ((hr.resetErases _).resetScan).tables.1
  · rfl

theorem takeBegin_initiators (f : Frame) (s : State) : (takeBegin f s).initiators = s.initiators := by
  rcases takeBegin_cases f s with h | ⟨c, -, -, h⟩
  · exact h.tables.1
  · rw [h]
    unfold admittedBegin reserveNext
    dsimp only
    rw [openNamed_eq]
    split <;> simp

theorem takeErase_initiators (f : Frame) (s : State) : (takeErase f s).initiators = s.initiators := by
  rcases takeErase_cases f s with h | ⟨-, h⟩
  · exact h.tables.1
  · rw [h]
    exact (startErase_evolves _ _ _ s).tables.1

theorem actLoadClass_initiators (f : Frame) (s : State) : (actLoadClass f s).initiators = s.initiators := by
  unfold actLoadClass
  split
  · simp
  · split <;> simp

theorem actSetVolume_initiators (f : Frame) (s : State) : (actSetVolume f s).initiators = s.initiators := by
  rcases actSetVolume_cases f s with h | ⟨y, -, -, -, h⟩
  · exact h.tables.1
  · rw [h]
    unfold writeVolume endCollection stopCollection
    split
    · split <;> simp
    · simp

theorem actSetZone_initiators (f : Frame) (s : State) : (actSetZone f s).initiators = s.initiators := by
  unfold actSetZone
  split <;> simp

theorem actPlaceHold_initiators (f : Frame) (s : State) : (actPlaceHold f s).initiators = s.initiators := by
  unfold actPlaceHold
  split <;> simp

theorem actReleaseHold_initiators (f : Frame) (s : State) : (actReleaseHold f s).initiators = s.initiators := by
  unfold actReleaseHold releaseHold
  split
  · simp
  · split
    · simp
    · split
      · simp
      · split <;> simp
      · simp

theorem actSetClock_initiators (f : Frame) (s : State) : (actSetClock f s).initiators = s.initiators := by
  unfold actSetClock raiseClamped
  dsimp only
  split_ifs <;> simp

theorem actAdjustClock_initiators (f : Frame) (s : State) : (actAdjustClock f s).initiators = s.initiators := by
  unfold actAdjustClock raiseClamped
  dsimp only
  split_ifs <;> simp

theorem takeRestart_initiators (f : Frame) (s : State) : (takeRestart f s).initiators = s.initiators := by
  unfold takeRestart
  split
  · simp
  · exact startUp_initiators _ _ s

theorem sweepVisit_initiators (s : State) : (sweepVisit s).initiators = s.initiators := by
  unfold sweepVisit expireDue
  split
  · rfl
  · split <;> simp
  · dsimp only
    split_ifs <;> simp

theorem walkVisit_initiators (s : State) : (walkVisit s).initiators = s.initiators := by
  rcases walkVisit_cases s with h | ⟨k, q, h, f, n, x, q', -, -, -, hw⟩
  · rw [h]
  · rw [hw]
    unfold State.walked visitSegment
    split <;> simp

/-- Every command but LOAD INITIATOR leaves the Initiator Table. -/
theorem exec_initiators {c : Instr} {s t : State} (hc : c ≠ .loadInitiator) (h : exec c s = .next t) :
    t.initiators = s.initiators := by
  by_cases ho : Instr.ordinary c = true
  · exact (exec_evolves ho h).tables.1
  cases c
  all_goals injection h with h; subst h
  case powerOn => exact startUp_initiators _ _ _
  case resetLine =>
    split
    · exact startUp_initiators _ _ _
    · rfl
  case backupSupplyLoss => split <;> rfl
  case clockTick =>
    split
    · exact onEvent_initiators (fun u => advanceClock_initiators u.tickTimers) s
    · unfold countQuietly
      split <;> rfl
  case ingestFrameArrival bytes => exact onEvent_initiators (frameArrives_initiators bytes) s
  case mediaLinkReset => exact onEvent_initiators mediaLost_initiators s
  case beginFrame => exact frameEvent_initiators takeBegin_initiators 1 s
  case eraseFrame => exact frameEvent_initiators takeErase_initiators 5 s
  case loadClass => exact controlEvent_initiators actLoadClass_initiators 3 s
  case setVolume => exact controlEvent_initiators actSetVolume_initiators 4 s
  case setZone => exact controlEvent_initiators actSetZone_initiators 5 s
  case placeHold => exact controlEvent_initiators actPlaceHold_initiators 6 s
  case releaseHold => exact controlEvent_initiators actReleaseHold_initiators 7 s
  case setClock => exact controlEvent_initiators actSetClock_initiators 11 s
  case adjustClock => exact controlEvent_initiators actAdjustClock_initiators 12 s
  case restart =>
    refine onEvent_initiators (fun u => ?_) s
    rcases takeFrame_cases (isRequest 22) (onFrame takeRestart) u with h | ⟨x, rest, -, -, h⟩ <;> rw [h]
    cases x with
    | whole f => exact takeRestart_initiators f _
    | cutShort => rfl
  case mediaGrant => exact onEvent_initiators grant_initiators s
  case sweeperVisit => exact onEvent_initiators sweepVisit_initiators s
  case walkerVisit => exact onEvent_initiators walkVisit_initiators s
  case mainPowerLoss => split <;> rfl
  case resetLineHeld => rfl
  all_goals simp [Instr.ordinary] at ho hc

/-! ### LOAD INITIATOR (R53) -/

/-- A LOAD INITIATOR that is not refused names one of the 32 entries and leaves an Enabled officer (R53). -/
theorem judgeLoadInitiator_none {s : State} {f : Frame} (h : judgeLoadInitiator s f = none) :
    f.param 0 < 32 ∧ lastOfficer s (f.param 0) (givenEntry f) = false := by
  unfold judgeLoadInitiator at h
  split_ifs at h with hnames hnumber hrange hform hwindow hlast
  exact ⟨by omega, by simpa using hlast⟩

/-- An entry written where an Enabled officer remains leaves an officered table. -/
theorem officered_of_set {s t : State} {i : Nat} {e : InitiatorEntry} (hi : i < 32)
    (hl : lastOfficer s i e = false) (ht : t.initiators = Table.set s.initiators i e) : t.officered := by
  simp only [lastOfficer, Bool.not_eq_false', List.any_eq_true, Bool.and_eq_true, decide_eq_true_eq] at hl
  obtain ⟨j, -, hj⟩ := hl
  refine ⟨j, ?_⟩
  have hread : t.initiator j = if j = i then e else s.initiator j := by
    rw [State.initiator, ht]
    split
    · next hji => rw [hji, Table.get_set_same _ _ _ _ hi]
    · next hji => rw [Table.get_set_other _ _ _ _ _ hji, State.initiator]
  rw [hread]
  exact hj

theorem officered_congr {s t : State} (h : t.initiators = s.initiators) (hs : s.officered) : t.officered := by
  simpa only [State.officered, State.initiator, h] using hs

theorem writeEntry_initiators (i : Nat) (e : InitiatorEntry) (s : State) :
    (writeEntry i e s).initiators = Table.set s.initiators i e := by
  unfold writeEntry
  dsimp only
  split
  · exact (State.Evolves.refl.removeInitiator i).tables.1
  · rfl

/-- LOAD INITIATOR, once admitted, leaves an Enabled officer where there is one. -/
theorem actLoadInitiator_officered (f : Frame) {s : State} (hs : s.officered) : (actLoadInitiator f s).officered := by
  unfold actLoadInitiator
  split
  · exact officered_congr (by simp) hs
  · next hj =>
    split
    · exact officered_congr (by simp) hs
    · obtain ⟨hi, hl⟩ := judgeLoadInitiator_none hj
      exact officered_of_set hi hl (by simp [writeEntry_initiators])

/-- Settles O56: LOAD INITIATOR alone writes the Initiator Table, and it refuses to leave it without an officer. -/
theorem officerRemains : Obligations.OfficerRemains := by
  intro c s t hs h
  by_cases hc : c = .loadInitiator
  · subst hc
    injection h with h
    subst h
    rcases controlEvent_cases 2 actLoadInitiator s with hq | hq | ⟨f, rest, -, ⟨d, hq⟩ | hq⟩ <;> rw [hq]
    · exact hs
    · exact officered_congr (by simp) hs
    · exact officered_congr (by simp) hs
    · exact officered_congr (State.endStep_initiators _) (actLoadInitiator_officered f (s := s.taken rest) hs)
  · exact officered_congr (exec_initiators hc h) hs

end Sys2Proof.Machine

end

section
/-! SUPPORT. Admission's judgement of any request frame, and the row of the table that takes the frame when Admission
refuses it. -/

namespace Sys2Proof.Machine

/-! ### The judgement of a request frame (R57) -/

/-- The kind of request that a frame is, as Admission judges it (R57). -/
def Frame.requestKind (f : Frame) : RequestKind :=
  match f.kind with
  | 1 => .beginTransfer
  | 4 => .readTransfer
  | 5 => .eraseSegment
  | _ => .control f.code

/-- The real segment that a control request other than the write-type ones names (R56). -/
def State.controlSegment (s : State) (f : Frame) : Option Nat :=
  if f.code = 1 ∧ f.param 0 = 0 then some ((s.initiator f.initiator).relocate (f.param 1) (f.param 2))
  else if f.code = 18 then some ((s.initiator f.initiator).relocate (f.param 0) (f.param 1))
  else none

/-- The judgement of a request frame; TRIGGER, EXTEND RETENTION and CLOSE are the write-type control requests (R57). -/
def State.judgement (s : State) (f : Frame) : Option Denial :=
  match f.kind with
  | 1 => judgeBegin s f
  | 4 => judgeRead s f
  | 5 => judgeErase s f
  | _ =>
    if f.code = 8 ∨ f.code = 9 ∨ f.code = 10 then judgeWriteControl s f (f.param 0) (f.param 1)
    else judgeControl s f f.namedSegment (s.controlSegment f)

theorem Frame.requestKind_op (f : Frame) : f.requestKind.op = f.opKind := by
  unfold Frame.requestKind Frame.opKind
  split <;> simp only [RequestKind.op, *]

theorem Frame.requestKind_control {f : Frame} (h : f.kind = 6) : f.requestKind = .control f.code := by
  simp only [Frame.requestKind, h]

/-- A frame that a row of the table takes as a request is a BEGIN, a READ, an ERASE or a CONTROL frame (R57). -/
theorem Frame.kind_of_requestRow {f : Frame} {c : Instr} (h : f.requestRow = some c) :
    f.kind = 1 ∨ f.kind = 4 ∨ f.kind = 5 ∨ f.kind = 6 := by
  unfold Frame.requestRow at h
  split at h
  case h_26 => cases h
  all_goals simp [*]

theorem State.judgement_begin {s : State} {f : Frame} (h : f.kind = 1) : s.judgement f = judgeBegin s f := by
  simp only [State.judgement, h]

theorem State.judgement_read {s : State} {f : Frame} (h : f.kind = 4) : s.judgement f = judgeRead s f := by
  simp only [State.judgement, h]

theorem State.judgement_erase {s : State} {f : Frame} (h : f.kind = 5) : s.judgement f = judgeErase s f := by
  simp only [State.judgement, h]

theorem State.judgement_write {s : State} {f : Frame} (h : f.kind = 6) (hc : f.code = 8 ∨ f.code = 9 ∨ f.code = 10) :
    s.judgement f = judgeWriteControl s f (f.param 0) (f.param 1) := by
  simp only [State.judgement, h, if_pos hc]

theorem State.judgement_control {s : State} {f : Frame} (h : f.kind = 6)
    (hc : ¬ (f.code = 8 ∨ f.code = 9 ∨ f.code = 10)) :
    s.judgement f = judgeControl s f f.namedSegment (s.controlSegment f) := by
  simp only [State.judgement, h, if_neg hc]

/-- The judgement of a request begins with check 1, whose refusal carries the segment as named (R57, R58, R73). -/
theorem State.judgement_check1 (s : State) {f : Frame} {c : Instr} (h : f.requestRow = some c) :
    ∃ later, s.judgement f =
      firstDenial (deny 1 f.namedSegment (check1 (s.initiator f.initiator) f.requestKind) :: later) := by
  rcases Frame.kind_of_requestRow h with hk | hk | hk | hk
  · exact ⟨_, by rw [State.judgement_begin hk, Frame.namedSegment, Frame.requestKind, hk]; rfl⟩
  · exact ⟨_, by rw [State.judgement_read hk, Frame.namedSegment, Frame.requestKind, hk]; rfl⟩
  · exact ⟨_, by rw [State.judgement_erase hk, Frame.namedSegment, Frame.requestKind, hk]; rfl⟩
  · rw [Frame.requestKind_control hk]
    by_cases hc : f.code = 8 ∨ f.code = 9 ∨ f.code = 10
    · have hnamed : f.namedSegment = some (f.param 1) := by
        rw [Frame.namedSegment, if_neg (by simp [hk]), if_neg (by omega), if_pos (by omega)]
      exact ⟨_, by rw [State.judgement_write hk hc, hnamed]; rfl⟩
    · exact ⟨_, by rw [State.judgement_control hk hc]; rfl⟩

/-- RESUME and RESTART are judged as the control requests that name no segment are. -/
theorem judgeControl_plain {s : State} {f : Frame} {d : Denial} (rest : List RxFrame) (hk : f.kind = 6)
    (hc : f.code = 17 ∨ f.code = 22) (hj : s.judgement f = some d) :
    judgeControl (s.taken rest) f none none = some d := by
  have hnamed : f.namedSegment = none := by rcases hc with hc | hc <;> simp [Frame.namedSegment, hk, hc]
  have hreal : s.controlSegment f = none := by rcases hc with hc | hc <;> simp [State.controlSegment, hc]
  rw [State.judgement_control hk (by omega), hnamed, hreal] at hj
  exact hj

/-! ### The row that takes a refused request (R73, R183) -/

section Denied

variable {s : State} {f : Frame} {rest : List RxFrame} {d : Denial} (ha : s.awaits f rest)
include ha

/-- The frame that waits is taken by a row that picks it, with the notice of its causes. -/
theorem takeFrame_event {pick : RxFrame → Bool} (act : Frame → State → State) (hp : pick (.whole f) = true) :
    onEvent s (takeFrame pick (onFrame act)) = (act f (s.taken rest)).endStep := by
  obtain ⟨hon, -, hq, hroom, -⟩ := ha
  rw [onEvent_on s _ hon, takeFrame_taken _ _ s _ rest hq hp hroom]
  rfl

/-- A control request that names no single segment. -/
theorem controlEvent_denied {request : Nat} (act : Frame → State → State) (hk : f.kind = 6) (hc : f.code = request)
    (hplain : request ∉ [1, 8, 9, 10, 18]) (hj : s.judgement f = some d) :
    controlEvent request act s = (refuse f f.requestKind d (s.taken rest)).endStep := by
  subst hc
  simp only [List.mem_cons, List.not_mem_nil, or_false, not_or] at hplain
  obtain ⟨h1, h8, h9, h10, h18⟩ := hplain
  have hnamed : f.namedSegment = none := by simp [Frame.namedSegment, hk, h1, h8, h9, h10, h18]
  have hreal : s.controlSegment f = none := by simp [State.controlSegment, h1, h18]
  rw [State.judgement_control hk (by simp [h8, h9, h10]), hnamed, hreal] at hj
  have hjudge : judgeControl (s.taken rest) f none none = some d := hj
  rw [controlEvent, requestEvent_full f.code _ s f rest ha hk rfl, hjudge, Frame.requestKind_control hk]

/-- A write-type control request. -/
theorem writeControlEvent_denied {request : Nat} (act : Frame → Nat → State → State) (hk : f.kind = 6)
    (hc : f.code = request) (hw : request ∈ [8, 9, 10]) (hj : s.judgement f = some d) :
    writeControlEvent request act s = (refuse f f.requestKind d (s.taken rest)).endStep := by
  subst hc
  rw [State.judgement_write hk (by simpa using hw)] at hj
  have hjudge : judgeWriteControl (s.taken rest) f (f.param 0) (f.param 1) = some d := hj
  rw [writeControlEvent, requestEvent_full f.code _ s f rest ha hk rfl, hjudge, Frame.requestKind_control hk]

theorem readRecord_denied (hk : f.kind = 6) (hc : f.code = 1) (hj : s.judgement f = some d) :
    requestEvent 1 takeReadRecord s = (refuse f f.requestKind d (s.taken rest)).endStep := by
  have hnamed : f.namedSegment = recordSegment f (f.param 2) := by
    simp [Frame.namedSegment, recordSegment, hk, hc]
  have hreal : s.controlSegment f = recordSegment f (recordReal s f) := by
    simp [State.controlSegment, recordSegment, recordReal, hc]
  rw [State.judgement_control hk (by simp [hc]), hnamed, hreal] at hj
  have hjudge : judgeControl (s.taken rest) f (recordSegment f (f.param 2))
      (recordSegment f (recordReal (s.taken rest) f)) = some d := hj
  rw [requestEvent_full 1 _ s f rest ha hk hc, takeReadRecord, hjudge, Frame.requestKind_control hk]

theorem takeCollect_denied (hk : f.kind = 6) (hc : f.code = 18) (hj : s.judgement f = some d) :
    requestEvent 18 takeCollect s = (refuse f f.requestKind d (s.taken rest)).endStep := by
  have hnamed : f.namedSegment = some (f.param 1) := by simp [Frame.namedSegment, hk, hc]
  have hreal : s.controlSegment f = some ((s.initiator f.initiator).relocate (f.param 0) (f.param 1)) := by
    simp [State.controlSegment, hc]
  rw [State.judgement_control hk (by simp [hc]), hnamed, hreal] at hj
  have hjudge : judgeControl (s.taken rest) f (some (f.param 1))
      (some (((s.taken rest).initiator f.initiator).relocate (f.param 0) (f.param 1))) = some d := hj
  rw [requestEvent_full 18 _ s f rest ha hk hc, takeCollect, hjudge, Frame.requestKind_control hk]

theorem takeResume_denied (hk : f.kind = 6) (hc : f.code = 17) (hj : s.judgement f = some d) :
    exec (if f.param 1 = 1 then .resumeAbandon else .resumeReissue) s =
      .next (refuse f f.requestKind d (s.taken rest)).endStep := by
  have hact : takeResume f (s.taken rest) = refuse f f.requestKind d (s.taken rest) := by
    rw [takeResume, judgeControl_plain rest hk (.inl hc) hj, Frame.requestKind_control hk]
  obtain ⟨-, -, -, -, hgood⟩ := id ha
  rw [← hact]
  split
  · next hp =>
    exact congrArg Host.Outcome.next (takeFrame_event ha takeResume (by simp [isAbandon, isRequest, hgood, hk, hc, hp]))
  · next hp =>
    exact congrArg Host.Outcome.next (takeFrame_event ha takeResume (by simp [isAbandon, isRequest, hgood, hk, hc, hp]))

/-- Whatever row of the table takes a request that Admission refuses, the refusal is its whole effect (R57, R73). -/
theorem exec_denied {c : Instr} (hr : f.requestRow = some c) (hj : s.judgement f = some d) :
    exec c s = .next (refuse f f.requestKind d (s.taken rest)).endStep := by
  unfold Frame.requestRow at hr
  split at hr
  case h_1 hk =>
    cases hr
    rw [State.judgement_begin hk] at hj
    have hjudge : judgeBegin (s.taken rest) f = some d := hj
    have hact : takeBegin f (s.taken rest) = refuse f f.requestKind d (s.taken rest) := by
      simp only [takeBegin, hjudge, Frame.requestKind, hk]
    exact congrArg Host.Outcome.next ((frameEvent_full 1 takeBegin s f rest ha hk).trans (by rw [hact]))
  case h_2 hk =>
    cases hr
    rw [State.judgement_read hk] at hj
    have hjudge : judgeRead (s.taken rest) f = some d := hj
    have hact : takeRead f (s.taken rest) = refuse f f.requestKind d (s.taken rest) := by
      simp only [takeRead, hjudge, Frame.requestKind, hk]
    exact congrArg Host.Outcome.next ((frameEvent_full 4 takeRead s f rest ha hk).trans (by rw [hact]))
  case h_3 hk =>
    cases hr
    rw [State.judgement_erase hk] at hj
    have hjudge : judgeErase (s.taken rest) f = some d := hj
    have hact : takeErase f (s.taken rest) = refuse f f.requestKind d (s.taken rest) := by
      simp only [takeErase, hjudge, Frame.requestKind, hk]
    exact congrArg Host.Outcome.next ((frameEvent_full 5 takeErase s f rest ha hk).trans (by rw [hact]))
  case h_4 hk hc => cases hr; exact congrArg Host.Outcome.next (readRecord_denied ha hk hc hj)
  case h_11 hk hc => cases hr; exact congrArg Host.Outcome.next (writeControlEvent_denied ha _ hk hc (by decide) hj)
  case h_12 hk hc => cases hr; exact congrArg Host.Outcome.next (writeControlEvent_denied ha _ hk hc (by decide) hj)
  case h_13 hk hc => cases hr; exact congrArg Host.Outcome.next (writeControlEvent_denied ha _ hk hc (by decide) hj)
  case h_20 hk hc => cases hr; exact takeResume_denied ha hk hc hj
  case h_21 hk hc => cases hr; exact congrArg Host.Outcome.next (takeCollect_denied ha hk hc hj)
  case h_25 hk hc =>
    cases hr
    have hact : takeRestart f (s.taken rest) = refuse f f.requestKind d (s.taken rest) := by
      rw [takeRestart, judgeControl_plain rest hk (.inr hc) hj, Frame.requestKind_control hk]
    exact congrArg Host.Outcome.next ((requestEvent_full 22 takeRestart s f rest ha hk hc).trans (by rw [hact]))
  case h_26 => cases hr
  all_goals
    rename_i hk hc
    cases hr
    exact congrArg Host.Outcome.next (controlEvent_denied ha _ hk hc (by decide) hj)

/-- A request that Admission refuses is answered and reported, and changes nothing else (R73 to R75). -/
theorem refusedBy_of_judgement {c : Instr} (hl : s.ingestLink = .ready) (hr : f.requestRow = some c)
    (hj : s.judgement f = some d) : s.refusedBy f rest c d := by
  obtain ⟨later, hcheck⟩ := s.judgement_check1 hr
  refine refusedBy_of_refuse ha hl ?_ f.requestKind_op (exec_denied ha hr hj)
  rw [hcheck] at hj
  exact (firstDenial_check1 hj).imp_right present_of_check1

/-- A request that check 1 refuses (R58, R73). -/
theorem refusedBy_of_check1 {c : Instr} {code : Code} (hl : s.ingestLink = .ready) (hr : f.requestRow = some c)
    (hc : check1 (s.initiator f.initiator) f.requestKind = some code) :
    s.refusedBy f rest c { code := code, check := 1, segment := f.namedSegment } := by
  obtain ⟨later, hcheck⟩ := s.judgement_check1 hr
  refine refusedBy_of_judgement ha hl hr ?_
  rw [hcheck, hc]
  rfl

end Denied

end Sys2Proof.Machine

end

section
/-! PROOF. Check 1. -/

namespace Sys2Proof.Machine

/-! ### Check 1 by the state of the sender's entry (R52, R58) -/

theorem check1_absent {e : InitiatorEntry} (h : e.state = .absent) (k : RequestKind) :
    check1 e k = some .unknownInitiator := by
  simp only [check1, h]

theorem check1_suspended {e : InitiatorEntry} (h : e.state = .suspended) (k : RequestKind) :
    check1 e k = if k = .control 1 then none else some .suspended := by
  simp only [check1, h]

theorem check1_erase {e : InitiatorEntry} (h : e.state = .enabled) :
    check1 e .eraseSegment = if e.disposer = true then none else some .notDisposer := by
  cases hd : e.disposer <;> simp [check1, h, hd, refuseWhen]

theorem check1_control {e : InitiatorEntry} (h : e.state = .enabled) (request : Nat) :
    check1 e (.control request) = if request = 1 ∨ e.officer = true then none else some .notOfficer := by
  cases ho : e.officer <;> by_cases hr : request = 1 <;> simp [check1, h, ho, hr, refuseWhen]

/-- A READ RECORD passes check 1 from any entry that is not Absent (R58). -/
theorem check1_readRecord {e : InitiatorEntry} (h : e.state ≠ .absent) : check1 e (.control 1) = none := by
  cases hs : e.state with
  | absent => exact absurd hs h
  | suspended => rw [check1_suspended hs, if_pos rfl]
  | enabled => rw [check1_control hs, if_pos (.inl rfl)]

/-- The only request kind that a Suspended entry may send is that of a READ RECORD (R52). -/
theorem Frame.requestKind_readRecord {f : Frame} {c : Instr} (hr : f.requestRow = some c)
    (h : f.requestKind = .control 1) : f.kind = 6 ∧ f.code = 1 := by
  rcases Frame.kind_of_requestRow hr with hk | hk | hk | hk
  · simp [Frame.requestKind, hk] at h
  · simp [Frame.requestKind, hk] at h
  · simp [Frame.requestKind, hk] at h
  · exact ⟨hk, by simpa [Frame.requestKind, hk] using h⟩

/-- Settles O16: check 1 comes first in the judgement of every request, and its answer by the state of the entry. -/
theorem checkOneJudges : Obligations.CheckOneJudges := by
  refine ⟨fun s f rest c ha hl hr => ⟨fun hs => ?_, fun hs hn => ?_, fun hs hk hd => ?_, fun hs hk hc ho => ?_⟩,
    fun e => ⟨fun hs => ⟨?_, ?_⟩, fun hs hd => ?_, fun hs ho request => ?_, fun hs => ?_⟩⟩
  · exact refusedBy_of_check1 ha hl hr (check1_absent hs _)
  · refine refusedBy_of_check1 ha hl hr ?_
    rw [check1_suspended hs, if_neg fun h => hn (Frame.requestKind_readRecord hr h)]
  · refine refusedBy_of_check1 ha hl hr ?_
    simp only [Frame.requestKind, hk, check1_erase hs, hd]
    rfl
  · refine refusedBy_of_check1 ha hl hr ?_
    rw [Frame.requestKind_control hk, check1_control hs, if_neg (by simp [hc, ho])]
  · simp only [check1, hs]
  · simp only [check1, hs]
  · rw [check1_erase hs, if_pos hd]
  · rw [check1_control hs, if_pos (.inr ho)]
  · exact check1_readRecord hs

end Sys2Proof.Machine

end

section
/-! PROOF. What Admission refuses: the checks 2 to 9 row by row, live tags and Free contexts, malformed frames. -/

namespace Sys2Proof.Machine

/-! ### A list of checks as a chain of rows (R57) -/

section Rows

variable (k : Nat) (n : Option Nat) (code : Code) (l : List (Option Denial))

theorem firstDenial_pass : firstDenial (deny k n none :: l) = firstDenial l := rfl

theorem firstDenial_deny :
    firstDenial (deny k n (some code) :: l) = some { code := code, check := k, segment := n } := rfl

theorem firstDenial_ite (p : Prop) [Decidable p] (a b : Option Code) :
    firstDenial (deny k n (if p then a else b) :: l) =
      if p then firstDenial (deny k n a :: l) else firstDenial (deny k n b :: l) := by
  split <;> rfl

theorem firstDenial_refuseWhen {b : Bool} {p : Prop} [Decidable p] (h : b = true ↔ p) :
    firstDenial (deny k n (refuseWhen b code) :: l) =
      if p then some { code := code, check := k, segment := n } else firstDenial l := by
  rw [refuseWhen, firstDenial_ite, firstDenial_pass, firstDenial_deny]
  exact if_congr h rfl rfl

end Rows

/-! ### The checks 2 to 6 as rows (R59 to R63) -/

section Checks

variable (s : State) (e : InitiatorEntry) (f : Frame) (v n named : Nat) (l : List (Option Denial))

theorem firstDenial_check2 :
    firstDenial (deny 2 (some named) (check2 s e v) :: l) =
      if ¬ (1 ≤ v ∧ v ≤ 4 ∧ e.volumes.getLsbD (v - 1) = true ∧ (s.volume v).state ≠ .absent) then
        some { code := .noVolume, check := 2, segment := some named }
      else firstDenial l := by
  refine firstDenial_refuseWhen _ _ _ _ ?_
  rw [← not_iff_not, Bool.not_eq_true, Bool.or_eq_false_iff, Bool.not_eq_false', not_not]
  simp [InitiatorEntry.hasVolume, and_assoc]

theorem firstDenial_segmentRange :
    firstDenial (deny 4 (some n) (checkSegmentRange s v n) :: l) =
      if ¬ n < (s.volume v).count then some { code := .outOfRange, check := 4, segment := some n }
      else firstDenial l := firstDenial_refuseWhen _ _ _ _ (by simp)

theorem firstDenial_beginRange :
    firstDenial (deny 4 (some n) (checkBeginRange f) :: l) =
      if f.count < 1 ∨ 16384 < f.count ∨ 63 < f.cls ∨ (f.cls = 0 ∧ 16383 < f.offset) then
        some { code := .outOfRange, check := 4, segment := some n }
      else firstDenial l := by
  refine firstDenial_refuseWhen _ _ _ _ ?_
  simp only [Bool.or_eq_true, Bool.and_eq_true, decide_eq_true_eq, or_assoc]
  rfl

theorem firstDenial_readRange :
    firstDenial (deny 4 (some n) (checkReadRange f) :: l) =
      if 16383 < f.offset ∨ f.count < 1 ∨ 64 < f.count then
        some { code := .outOfRange, check := 4, segment := some n }
      else firstDenial l :=
  firstDenial_refuseWhen _ _ _ _ (by simp only [Bool.or_eq_true, decide_eq_true_eq, or_assoc])

theorem inLabel_iff : inLabel n = true ↔ n < 8 := decide_eq_true_iff

theorem firstDenial_check5 :
    firstDenial (deny 5 (some n) (check5 s e v n) :: l) =
      if n < 8 ∧ e.officer = false then some { code := .labelDenied, check := 5, segment := some n }
      else if e.readOnly = true ∨ (s.volume v).state = .readOnly then
        some { code := .readOnly, check := 5, segment := some n }
      else if (s.volume v).writeInhibit = true ∨ (s.zone v (n / 4096)).writeInhibit = true then
        some { code := .inhibitDenied, check := 5, segment := some n }
      else firstDenial l := by
  simp only [check5, firstDenial_ite, firstDenial_pass, firstDenial_deny]
  refine if_congr ?_ rfl (if_congr ?_ rfl (if_congr ?_ rfl rfl))
  · rw [Bool.and_eq_true, inLabel_iff, Bool.not_eq_true']
  · rw [Bool.or_eq_true, decide_eq_true_eq]
  · rw [State.inhibited, Bool.or_eq_true]
    rfl

/-- The key of an entry opens a segment that has none, its own, the common area, or any by the master key (R62). -/
theorem keyPasses_iff :
    keyPasses s e v n = true ↔
      e.key = 0 ∨ (s.segment v n).key = some e.key ∨
        ((s.segment v n).key = some 15 ∧ (s.volume v).commonKey = true) ∨ (s.segment v n).key = none := by
  unfold keyPasses
  cases (s.segment v n).key with
  | none => simp
  | some k => simp [or_assoc, eq_comm (a := e.key)]

theorem firstDenial_check6 :
    firstDenial (deny 6 (some n) (check6 s e v n) :: l) =
      if ¬ (e.key = 0 ∨ (s.segment v n).key = some e.key ∨
          ((s.segment v n).key = some 15 ∧ (s.volume v).commonKey = true) ∨ (s.segment v n).key = none) then
        some { code := .keyDenied, check := 6, segment := some n }
      else firstDenial l := by
  refine firstDenial_refuseWhen _ _ _ _ ?_
  rw [Bool.not_eq_true', ← Bool.not_eq_true, keyPasses_iff]

theorem readProtected_iff (g : Segment) :
    readProtected s g = true ↔ (g.cls.bind s.classEntry).map ClassEntry.readProtection = some true := by
  unfold readProtected
  cases g.cls with
  | none => simp
  | some c => cases hc : s.classEntry c <;> simp [hc]

theorem firstDenial_readKey :
    firstDenial (deny 6 (some n) (checkReadKey s e v n) :: l) =
      if 8 ≤ n ∧ ((s.segment v n).cls.bind s.classEntry).map ClassEntry.readProtection = some true ∧
          ¬ (e.key = 0 ∨ (s.segment v n).key = some e.key ∨
            ((s.segment v n).key = some 15 ∧ (s.volume v).commonKey = true) ∨ (s.segment v n).key = none) then
        some { code := .keyDenied, check := 6, segment := some n }
      else firstDenial l := by
  have hjudged : (inLabel n || !readProtected s (s.segment v n)) = true ↔
      ¬ (8 ≤ n ∧ ((s.segment v n).cls.bind s.classEntry).map ClassEntry.readProtection = some true) := by
    rw [Bool.or_eq_true, inLabel_iff, Bool.not_eq_true', ← Bool.not_eq_true, readProtected_iff, not_and_or, Nat.not_le]
  rw [checkReadKey, firstDenial_ite, firstDenial_pass, firstDenial_check6]
  by_cases hj : 8 ≤ n ∧ ((s.segment v n).cls.bind s.classEntry).map ClassEntry.readProtection = some true
  · rw [if_neg (by rw [hjudged]; exact not_not.mpr hj)]
    exact if_congr ⟨fun hk => ⟨hj.1, hj.2, hk⟩, fun hk => hk.2.2⟩ rfl rfl
  · rw [if_pos (hjudged.mpr hj), if_neg fun hk => hj ⟨hk.1, hk.2.1⟩]

/-! ### Check 7 as rows (R63, R64, R66, R69) -/

theorem inWindow_iff (m : Nat) :
    e.inWindow v m = e.window.any (fun w => decide (w.volume = v ∧ w.base ≤ m ∧ m < w.base + 8)) := by
  unfold InitiatorEntry.inWindow
  cases e.window with
  | none => rfl
  | some w =>
    rw [Option.any_some, Bool.decide_and, Bool.decide_and, ← Bool.and_assoc]
    rfl

theorem firstDenial_beginState :
    firstDenial (deny 7 (some n) (checkBeginState s e v n f.cls) :: l) =
      let g := s.segment v n
      let inWindow := e.window.any (fun w => decide (w.volume = v ∧ w.base ≤ n ∧ n < w.base + 8)) = true
      let no := fun (code : Code) => some ({ code := code, check := 7, segment := some n } : Denial)
      if g.state = .closed ∨ g.state = .expired ∨ g.state = .erasing then no .stateDenied
      else if g.state = .opened ∧ g.cls ≠ some f.cls then no .classMismatch
      else if s.classEntry f.cls = none then no .classUndefined
      else if (inWindow ∧ f.cls ≠ 0) ∨ (¬ inWindow ∧ f.cls = 0) ∨ (n < 8 ∧ f.cls ≠ 1) ∨ (8 ≤ n ∧ f.cls = 1) then
        no .classMismatch
      else if g.state = .opened ∧ g.writer ≠ none then no .segmentBusy
      else if f.cls ≠ 0 ∧ s.clock.state = .unset then no .clockUnset
      else firstDenial l := by
  simp only [checkBeginState, firstDenial_ite, firstDenial_pass, firstDenial_deny]
  refine if_congr ?_ rfl (if_congr ?_ rfl (if_congr Iff.rfl rfl (if_congr ?_ rfl (if_congr ?_ rfl
    (if_congr ?_ rfl rfl)))))
  · simp only [Bool.or_eq_true, decide_eq_true_eq, or_assoc]
  · simp
  · simp only [misplaced, inWindow_iff, Bool.or_eq_true, Bool.and_eq_true, Bool.not_eq_true', inLabel_iff,
      decide_eq_true_eq, or_assoc, ← Bool.not_eq_true, Nat.not_lt]
  · simp [Option.isSome_iff_ne_none]
  · cases hc : s.clock.state <;> simp [State.running, hc]

theorem firstDenial_readState :
    firstDenial (deny 7 (some n) (checkReadState s v n) :: l) =
      if (s.segment v n).state = .blank ∨ (s.segment v n).state = .erasing then
        some { code := .stateDenied, check := 7, segment := some n }
      else firstDenial l := by
  unfold checkReadState
  cases (s.segment v n).state <;> rfl

theorem firstDenial_eraseState :
    firstDenial (deny 7 (some n) (checkEraseState s v n) :: l) =
      let g := s.segment v n
      let no := fun (code : Code) => some ({ code := code, check := 7, segment := some n } : Denial)
      if g.state = .closed then no .notExpired
      else if g.state ≠ .expired then no .stateDenied
      else if s.clock.state = .unset then no .clockUnset
      else if s.clock.value / 86400 < g.expiry.getD 0 then no .notExpired
      else if s.covered v n = true then no .held
      else firstDenial l := by
  unfold checkEraseState
  dsimp only
  cases hg : (s.segment v n).state with
  | expired =>
    cases hc : s.clock.state with
    | unset => simp [State.running, hc, firstDenial_deny]
    | running =>
      have htoday : s.today = s.clock.value / 86400 := by
        simp only [State.today, State.now, Clock.now, hc]
        rfl
      simp [State.running, hc, htoday, firstDenial_ite, firstDenial_deny, firstDenial_pass]
  | _ => rfl

/-! ### Checks 8 and 9 as rows (R67, R68, R70, R71) -/

theorem nextAllowed_iff (cls : Nat) :
    nextAllowed s e v n cls = true ↔
      n % 4096 < 4095 ∧ n + 1 < (s.volume v).count ∧ (s.zone v (n / 4096)).spanning = true ∧
        (s.segment v (n + 1)).state = .blank ∧
        ¬ e.window.any (fun w => decide (w.volume = v ∧ w.base ≤ n + 1 ∧ n + 1 < w.base + 8)) = true ∧
        (cls = 1 → n + 1 < 8) ∧ check5 s e v (n + 1) = none ∧ check6 s e v (n + 1) = none := by
  have hlabel : (!decide (cls = 1) || inLabel (n + 1)) = true ↔ (cls = 1 → n + 1 < 8) := by
    rw [Bool.or_eq_true, inLabel_iff, Bool.not_eq_true', decide_eq_false_iff_not, imp_iff_not_or]
  simp only [nextAllowed, Bool.and_eq_true, hlabel, inWindow_iff, Option.isNone_iff_eq_none, decide_eq_true_eq,
    Bool.not_eq_true', ← Bool.not_eq_true, and_assoc]
  rfl

/-- Check 8 refuses a length that does not fit: one that may not span, and one that cannot (R67, R68). -/
theorem check8_eq :
    check8 s e f n =
      if spaceLeft s f n < f.count ∧ (f.cls = 0 ∨ f.spanFlag = false) then some .countLong
      else if spaceLeft s f n < f.count ∧ (spaceLeft s f n = 0 ∨ ¬ nextAllowed s e f.volume n f.cls = true) then
        some .spanBlocked
      else none := by
  unfold check8 spans
  by_cases hlong : spaceLeft s f n < f.count
  · simp only [hlong, decide_true, Bool.not_true, Bool.false_eq_true, if_false, true_and]
    refine if_congr (by simp) rfl ?_
    by_cases hzero : spaceLeft s f n = 0 <;> simp [hzero, refuseWhen]
  · simp [hlong]

theorem firstDenial_check8 :
    firstDenial (deny 8 (some n) (check8 s e f n) :: l) =
      let space := 16384 - (if f.cls = 0 then f.offset else (s.segment f.volume n).appendPoint)
      let nextOk := n % 4096 < 4095 ∧ n + 1 < (s.volume f.volume).count ∧
        (s.zone f.volume (n / 4096)).spanning = true ∧ (s.segment f.volume (n + 1)).state = .blank ∧
        ¬ e.window.any (fun w => decide (w.volume = f.volume ∧ w.base ≤ n + 1 ∧ n + 1 < w.base + 8)) = true ∧
        (f.cls = 1 → n + 1 < 8) ∧ check5 s e f.volume (n + 1) = none ∧ check6 s e f.volume (n + 1) = none
      if space < f.count ∧ (f.cls = 0 ∨ f.spanFlag = false) then
        some { code := .countLong, check := 8, segment := some n }
      else if space < f.count ∧ (space = 0 ∨ ¬ nextOk) then
        some { code := .spanBlocked, check := 8, segment := some n }
      else firstDenial l := by
  rw [check8_eq, firstDenial_ite, firstDenial_ite, firstDenial_pass, firstDenial_deny, firstDenial_deny]
  exact if_congr Iff.rfl rfl
    (if_congr (and_congr_right fun _ => or_congr_right (not_congr (nextAllowed_iff s e f.volume n f.cls))) rfl rfl)

theorem firstDenial_tag (segment : Option Nat) (i t : Nat) :
    firstDenial (deny 9 segment (checkTag s i t) :: l) =
      if s.tagLive i t = true then some { code := .tagInUse, check := 9, segment := segment } else firstDenial l :=
  firstDenial_refuseWhen _ _ _ _ Iff.rfl

theorem firstDenial_context :
    firstDenial (deny 9 (some n) (checkContext s) :: l) =
      if s.freeContext = none then some { code := .busy, check := 9, segment := some n } else firstDenial l :=
  firstDenial_refuseWhen _ _ _ _ Option.isNone_iff_eq_none

end Checks

/-! ### Live tags and Free contexts (R70, R71) -/

/-- Some entry of a table numbered from 0 meets a test that the value outside it does not meet. -/
theorem Table.any_iff {α : Type} {n : Nat} {d : α} {p : α → Bool} (hd : p d = false) (t : Vector α n) :
    t.toList.any p = true ↔ ∃ i, p (Table.get d t i) = true := by
  simp only [List.any_eq_true, Vector.mem_toList_iff, Vector.mem_iff_getElem]
  constructor
  · rintro ⟨x, ⟨i, hi, rfl⟩, hx⟩
    exact ⟨i, by simpa [Table.get, hi] using hx⟩
  · rintro ⟨i, hx⟩
    by_cases hi : i < n
    · exact ⟨t[i], ⟨i, hi, rfl⟩, by simpa [Table.get, hi] using hx⟩
    · simp [Table.get, hi, hd] at hx

theorem Table.any1_iff {α : Type} {n : Nat} {d : α} {p : α → Bool} (hd : p d = false) (t : Vector α n) :
    t.toList.any p = true ↔ ∃ i, p (Table.get1 d t i) = true := by
  rw [Table.any_iff hd]
  constructor
  · rintro ⟨i, hi⟩
    exact ⟨i + 1, hi⟩
  · rintro ⟨i, hi⟩
    cases i with
    | zero => exact absurd hi (by simp [Table.get1, hd])
    | succ i => exact ⟨i, hi⟩

theorem Context.holdsTag_iff (x : Context) (i t : Nat) :
    x.holdsTag i t = true ↔
      (∃ r, x = .read r ∧ r.initiator = i ∧ r.tag = t) ∨
        ∃ w, x = .write w ∧ w.initiator = i ∧ w.tag = t ∧
          (w.removed = false ∨ w.state = .faulted ∨ w.state = .reissuing) := by
  cases x <;> simp [Context.holdsTag, and_assoc, or_assoc]

theorem State.tagLive_iff (s : State) (i t : Nat) :
    s.tagLive i t = true ↔
      (∃ c r, s.context c = .read r ∧ r.initiator = i ∧ r.tag = t) ∨
      (∃ c w, s.context c = .write w ∧ w.initiator = i ∧ w.tag = t ∧
        (w.removed = false ∨ w.state = .faulted ∨ w.state = .reissuing)) ∨
      (∃ e ∈ s.eraseQueue, e.requester = some (i, t)) ∨
      (∃ r x, s.record r = some x ∧ x.resumer = some (i, t)) ∨
      (∃ x, s.collection = some x ∧ x.initiator = i ∧ x.tag = t) := by
  have hcontexts : s.contexts.toList.any (fun x => x.holdsTag i t) = true ↔ ∃ c, (s.context c).holdsTag i t = true :=
    Table.any_iff (d := .free) rfl s.contexts
  have hrecords : s.records.toList.any (fun r => decide (r.bind FaultRecord.resumer = some (i, t))) = true ↔
      ∃ r x, s.record r = some x ∧ x.resumer = some (i, t) := by
    rw [Table.any1_iff (d := none) rfl]
    simp only [decide_eq_true_eq, Option.bind_eq_some_iff]
    rfl
  rw [State.tagLive, Bool.or_eq_true, Bool.or_eq_true, Bool.or_eq_true, hcontexts, hrecords]
  simp only [Context.holdsTag_iff, exists_or, List.any_eq_true, decide_eq_true_eq, or_assoc]
  refine or_congr_right (or_congr_right (or_congr_right (or_congr_right ?_)))
  cases s.collection <;> simp

/-- The context a transfer takes is the lowest-numbered Free one (R71). -/
theorem State.freeContext_iff (s : State) (c : Nat) :
    s.freeContext = some c ↔ c < 32 ∧ s.context c = .free ∧ ∀ d, d < c → s.context d ≠ .free := by
  simp only [State.freeContext, List.find?_range_eq_some, List.mem_range, decide_eq_true_eq, Bool.not_eq_true',
    decide_eq_false_iff_not]
  tauto

/-! ### Malformed frames (R189) -/

/-- A malformed frame that waits is refused FORMAT, or discarded when its initiator is Absent (R189). -/
theorem exec_malformed {s : State} {f : Frame} {rest : List RxFrame} (hon : s.takesEvents = true) (hs : s.settled)
    (hl : s.ingestLink = .ready) (hq : s.rxQueue = .whole f :: rest) (hroom : s.txQueue.length < 1024)
    (hbad : f.goodForm = false) :
    exec .malformedFrame s =
      .next
        (if (s.initiator f.initiator).state = .absent then s.taken rest
         else s.answered rest (formatFrame f)) := by
  have htaken : takeFrame isMalformed takeMalformed s = (s.taken rest).send (formatFrame f) :=
    takeFrame_taken _ _ s _ rest hq (by simp [isMalformed, hbad]) hroom
  have hquiet : (takeFrame isMalformed takeMalformed s).conditions.causes = [] := by
    rw [htaken, State.send_conditions]
    exact hs
  refine congrArg Host.Outcome.next ((onEvent_quiet s _ hon hquiet).trans (htaken.trans ?_))
  split
  · next habsent => exact State.send_absent (s := s.taken rest) (f := formatFrame f) habsent
  · next hpresent =>
    exact State.send_placed (s.taken rest) (formatFrame f) hl hpresent (Nat.lt_trans hroom (by decide))

/-! ### The statement -/

/-- A control request with a live tag that is not write-type passes on from check 1 to the tag (R57, R70). -/
theorem judgement_tagInUse {s : State} {f : Frame} (hk : f.kind = 6) (hc : f.code < 8 ∨ 10 < f.code)
    (hlive : s.tagLive f.initiator f.tag = true) (h1 : check1 (s.initiator f.initiator) (.control f.code) = none) :
    s.judgement f = some { code := .tagInUse, check := 9, segment := s.controlSegment f } := by
  rw [State.judgement_control hk (by omega), judgeControl, h1, firstDenial_pass, firstDenial_tag, if_pos hlive]

/-- Settles O15: the refusals by the row that takes the request, the checks as rows in the order of each judgement. -/
theorem refusalsChangeNothing : Obligations.RefusalsChangeNothing := by
  refine ⟨fun s f rest d ha hl => ⟨fun hk hj => ?_, fun hk hj => ?_, fun hk hj => ?_⟩,
    fun s f rest hon hs hl hq hroom hbad => exec_malformed hon hs hl hq hroom hbad, fun s f v named => ?_,
    fun s i tag => ⟨s.tagLive_iff i tag, s.freeContext_iff⟩, fun s f rest c ha hl hk hr hc hlive hpass => ?_⟩
  · exact refusedBy_of_judgement ha hl (by simp [Frame.requestRow, hk]) ((State.judgement_begin hk).trans hj)
  · exact refusedBy_of_judgement ha hl (by simp [Frame.requestRow, hk]) ((State.judgement_read hk).trans hj)
  · exact refusedBy_of_judgement ha hl (by simp [Frame.requestRow, hk]) ((State.judgement_erase hk).trans hj)
  · refine ⟨?_, ?_, ?_, fun h1 => ?_⟩
    · rintro rfl rfl h1
      rw [judgeBegin, h1, firstDenial_pass, firstDenial_check2, firstDenial_segmentRange, firstDenial_beginRange,
        firstDenial_check5, firstDenial_check6, firstDenial_beginState, firstDenial_check8, firstDenial_tag,
        firstDenial_context]
      rfl
    · rintro rfl rfl h1
      rw [judgeRead, h1, firstDenial_pass, firstDenial_check2, firstDenial_segmentRange, firstDenial_readRange,
        firstDenial_readKey, firstDenial_readState, firstDenial_tag, firstDenial_context]
      rfl
    · rintro rfl rfl h1
      rw [judgeErase, h1, firstDenial_pass, firstDenial_check2, firstDenial_segmentRange, firstDenial_check5,
        firstDenial_check6, firstDenial_eraseState, firstDenial_tag]
      rfl
    · rw [judgeWriteControl, h1, firstDenial_pass, firstDenial_check2, firstDenial_segmentRange, firstDenial_check5,
        firstDenial_check6, firstDenial_tag]
      rfl
  · refine refusedBy_of_judgement ha hl hr (judgement_tagInUse hk hc hlive ?_)
    rcases hpass with ⟨hen, ho⟩ | ⟨h1, hpresent⟩
    · rw [check1_control hen, if_pos (.inr ho)]
    · rw [h1]
      exact check1_readRecord hpresent

end Sys2Proof.Machine

end

section
/-! PROOF. READ RECORD: how it is answered, and the words of each kind of record. -/

namespace Sys2Proof.Machine

/-! ### The answer to a READ RECORD (R58, R194) -/

section ReadRecord

variable {s : State} {f : Frame} {rest : List RxFrame} (ha : s.awaits f rest) (hk : f.kind = 6) (hc : f.code = 1)
  (hl : s.ingestLink = .ready) (hp : (s.initiator f.initiator).state ≠ .absent)
  (hfree : s.tagLive f.initiator f.tag = false)
include ha hk hc hl hp hfree

/-- A READ RECORD of an initiator that is not Absent, with a free tag, is carried out and sends one frame (R58, R70). -/
theorem exec_readRecord {y : Frame} (hy : y.initiator = f.initiator)
    (h : actReadRecord f (s.taken rest) = (s.taken rest).send y) : exec .readRecord s = .next (s.answered rest y) := by
  obtain ⟨-, hs, -, hroom, -⟩ := id ha
  have hjudge : ∀ named real, judgeControl (s.taken rest) f named real = none := by
    intro named real
    have h1 : check1 ((s.taken rest).initiator f.initiator) (.control f.code) = none := by
      rw [hc]
      exact check1_readRecord hp
    have h9 : ¬ (s.taken rest).tagLive f.initiator f.tag = true := Bool.eq_false_iff.mp hfree
    rw [judgeControl, h1, firstDenial_pass, firstDenial_tag, if_neg h9]
    rfl
  have hsent : (s.taken rest).send y = s.answered rest y :=
    State.send_placed (s.taken rest) y hl (hy ▸ hp) (Nat.lt_trans hroom (by decide))
  have hact : takeReadRecord f (s.taken rest) = s.answered rest y := by
    rw [takeReadRecord, hjudge]
    exact h.trans hsent
  have hquiet : (takeReadRecord f (s.taken rest)).conditions.causes = [] := by
    rw [hact]
    exact hs
  exact congrArg Host.Outcome.next ((requestEvent_taken 1 _ s f rest ha hk hc hquiet).trans hact)

/-- The words of the record are returned, with the real segment of kind 0 in the header (R194; log 50). -/
theorem readRecord_ok {words : List Nat}
    (h : readRecordWords s (f.param 0) (f.param 1) (recordSecond s f) = .ok words) :
    exec .readRecord s =
      .next (s.answered rest
        { f.reply .done words with segment := if f.param 0 = 0 then recordReal s f else 0 }) := by
  have hwords : readRecordWords (s.taken rest) (f.param 0) (f.param 1) (recordSecond (s.taken rest) f) = .ok words := h
  have hframe : recordFrame (s.taken rest) f words =
      { f.reply .done words with segment := if f.param 0 = 0 then recordReal s f else 0 } := by
    rw [recordFrame, recordSegment]
    split <;> rfl
  refine exec_readRecord ha hk hc hl hp hfree rfl ?_
  rw [actReadRecord, hwords, ← hframe]

theorem readRecord_error {code : Code}
    (h : readRecordWords s (f.param 0) (f.param 1) (recordSecond s f) = .error code) :
    exec .readRecord s =
      .next (s.answered rest (f.refusal code (if f.param 0 = 0 then some (recordReal s f) else none))) := by
  have hwords : readRecordWords (s.taken rest) (f.param 0) (f.param 1) (recordSecond (s.taken rest) f) = .error code :=
    h
  refine exec_readRecord ha hk hc hl hp hfree rfl ?_
  rw [actReadRecord, hwords]
  rfl

/-- The answer to a READ RECORD of a segment. -/
theorem readRecord_segment (hkind : f.param 0 = 0) :
    (∀ words, readRecordWords s 0 (f.param 1) (recordReal s f) = .ok words →
      exec .readRecord s = .next (s.answered rest { f.reply .done words with segment := recordReal s f })) ∧
    ∀ code, readRecordWords s 0 (f.param 1) (recordReal s f) = .error code →
      exec .readRecord s = .next (s.answered rest (f.refusal code (some (recordReal s f)))) := by
  have hsecond : recordSecond s f = recordReal s f := if_pos hkind
  refine ⟨fun words h => ?_, fun code h => ?_⟩
  · rw [readRecord_ok ha hk hc hl hp hfree (by rw [hkind, hsecond]; exact h), if_pos hkind]
  · rw [readRecord_error ha hk hc hl hp hfree (by rw [hkind, hsecond]; exact h), if_pos hkind]

/-- The answer to a READ RECORD of a kind that names no segment. -/
theorem readRecord_other {k : Nat} (hkind : f.param 0 = k) (h0 : k ≠ 0) :
    (∀ words, readRecordWords s k (f.param 1) (f.param 2) = .ok words →
      exec .readRecord s = .next (s.answered rest (f.reply .done words))) ∧
    ∀ code, readRecordWords s k (f.param 1) (f.param 2) = .error code →
      exec .readRecord s = .next (s.answered rest (f.refusal code none)) := by
  subst hkind
  have hsecond : recordSecond s f = f.param 2 := if_neg h0
  refine ⟨fun words h => ?_, fun code h => ?_⟩
  · rw [readRecord_ok ha hk hc hl hp hfree (hsecond.symm ▸ h), if_neg h0]
    rfl
  · rw [readRecord_error ha hk hc hl hp hfree (hsecond.symm ▸ h), if_neg h0]

end ReadRecord

/-! ### The words of each kind of record (R194) -/

section Words

variable (s : State) {a b : Nat}

theorem readRecordWords_beyond {k : Nat} (h : 9 < k) : readRecordWords s k a b = .error .format := by
  obtain ⟨j, rfl⟩ := Nat.exists_eq_add_of_le' h
  rfl

theorem readRecordWords_segment :
    readRecordWords s 0 a b =
      if 1 ≤ a ∧ a ≤ 4 ∧ s.segmentExists a b = true then .ok (s.segment a b).words else .error .outOfRange := by
  have hbad : (decide (a < 1) || decide (4 < a) || !s.segmentExists a b) = true ↔
      ¬ (1 ≤ a ∧ a ≤ 4 ∧ s.segmentExists a b = true) := by
    rw [Bool.or_eq_true, volumeNumber_iff, Bool.not_eq_true', ← Bool.not_eq_true, ← not_and_or, and_assoc]
  exact (if_congr hbad rfl rfl).trans (ite_not ..)

theorem readRecordWords_volume :
    readRecordWords s 1 a b = if 1 ≤ a ∧ a ≤ 4 then .ok (s.volume a).words else .error .outOfRange :=
  (if_congr (volumeNumber_iff a) rfl rfl).trans (ite_not ..)

theorem readRecordWords_zone :
    readRecordWords s 2 a b =
      if (1 ≤ a ∧ a ≤ 4) ∧ (s.volume a).state ≠ .absent ∧ b < ceilDiv (s.volume a).count 4096 then
        .ok [flagWord (s.zone a b).writeInhibit, flagWord (s.zone a b).spanning]
      else .error .outOfRange := by
  have hbad : (decide (a < 1) || decide (4 < a) || decide ((s.volume a).state = .absent) ||
      decide (zoneCount (s.volume a).count ≤ b)) = true ↔
        ¬ ((1 ≤ a ∧ a ≤ 4) ∧ (s.volume a).state ≠ .absent ∧ b < ceilDiv (s.volume a).count 4096) := by
    rw [Bool.or_eq_true, Bool.or_eq_true, volumeNumber_iff, decide_eq_true_eq, decide_eq_true_eq, or_assoc,
      not_and_or (a := 1 ≤ a ∧ a ≤ 4), not_and_or (a := (s.volume a).state ≠ .absent), not_not, Nat.not_lt]
    rfl
  exact (if_congr hbad rfl rfl).trans (ite_not ..)

theorem readRecordWords_class :
    readRecordWords s 3 a b = if a ≤ 63 then .ok (classWords (s.classEntry a)) else .error .outOfRange :=
  (if_congr Nat.not_le.symm rfl rfl).trans (ite_not ..)

theorem readRecordWords_initiator :
    readRecordWords s 4 a b = if a ≤ 31 then .ok (s.initiator a).words else .error .outOfRange :=
  (if_congr Nat.not_le.symm rfl rfl).trans (ite_not ..)

theorem readRecordWords_hold :
    readRecordWords s 5 a b =
      if 1 ≤ a ∧ a ≤ 64 then .ok (holdWords (s.hold a) ++ [walkPosition a s.walkQueue]) else .error .outOfRange := by
  have hbad : (decide (a < 1) || decide (64 < a)) = true ↔ ¬ (1 ≤ a ∧ a ≤ 64) := by
    rw [Bool.or_eq_true, decide_eq_true_eq, decide_eq_true_eq]
    omega
  exact (if_congr hbad rfl rfl).trans (ite_not ..)

theorem readRecordWords_record :
    readRecordWords s 6 a b = if 1 ≤ a ∧ a ≤ 4 then .ok (recordWords (s.record a)) else .error .outOfRange :=
  (if_congr (volumeNumber_iff a) rfl rfl).trans (ite_not ..)

theorem readRecordWords_scan :
    readRecordWords s 7 a b =
      if a ≤ 1 then .ok (scanWords (if a = 0 then s.scanActive else s.scanQueued)) else .error .outOfRange :=
  (if_congr Nat.not_le.symm rfl rfl).trans (ite_not ..)

end Words

/-- A slot that is not in the walk queue has position 0 (R194). -/
theorem walkPosition_out {k : Nat} {q : List Nat} (h : k ∉ q) : walkPosition k q = 0 := by
  have hnone : q.findIdx? (fun x => decide (x = k)) = none := by
    rw [List.findIdx?_eq_none_iff]
    intro x hx
    exact decide_eq_false fun hxk => h (hxk ▸ hx)
  rw [walkPosition, hnone]

/-- The position of a slot counts from 1 at the head of the walk queue (R194). -/
theorem walkPosition_in {k : Nat} {before after : List Nat} (h : k ∉ before) :
    walkPosition k (before ++ k :: after) = before.length + 1 := by
  have hsome : (before ++ k :: after).findIdx? (fun x => decide (x = k)) = some before.length := by
    have hnone : before.findIdx? (fun x => decide (x = k)) = none := by
      rw [List.findIdx?_eq_none_iff]
      intro x hx
      exact decide_eq_false fun hxk => h (hxk ▸ hx)
    simp [List.findIdx?_append, hnone, List.findIdx?_cons]
  rw [walkPosition, hsome]

theorem Volume.words_absent {x : Volume} (h : x.state = .absent) : x.words = 0 :: List.replicate 8 4294967295 := by
  rw [Volume.words, if_pos h, h]
  rfl

theorem InitiatorEntry.words_absent {e : InitiatorEntry} (h : e.state = .absent) :
    e.words = 0 :: List.replicate 7 4294967295 := by
  rw [InitiatorEntry.words, if_pos h, h]
  rfl

/-! ### The statement -/

/-- Settles O23, by the kind of record: the words of each kind, with its absent fields, and the ranges of its
identifiers. -/
theorem readRecordReturns : Obligations.ReadRecordReturns := by
  refine ⟨fun s f rest ha hk hc hl hp hfree =>
    ⟨fun words h => readRecord_ok ha hk hc hl hp hfree h, fun code h => readRecord_error ha hk hc hl hp hfree h⟩,
    fun s f rest ha hk hc hl hp hfree => ?_⟩
  have hok : ∀ {k : Nat} {words : List Nat}, f.param 0 = k → k ≠ 0 →
      readRecordWords s k (f.param 1) (f.param 2) = .ok words →
      exec .readRecord s = .next (s.answered rest (f.reply .done words)) := fun hkind h0 h =>
    (readRecord_other ha hk hc hl hp hfree hkind h0).1 _ h
  have hbad : ∀ {k : Nat} {code : Code}, f.param 0 = k → k ≠ 0 →
      readRecordWords s k (f.param 1) (f.param 2) = .error code →
      exec .readRecord s = .next (s.answered rest (f.refusal code none)) := fun hkind h0 h =>
    (readRecord_other ha hk hc hl hp hfree hkind h0).2 _ h
  refine ⟨fun h => ?_, fun hkind h => ?_, fun hkind h1 h4 hex => ?_, fun hkind h => ?_,
    fun hkind h1 h4 => ⟨fun h => ?_, fun h => ?_⟩, fun hkind h1 h4 => ⟨fun h => ?_, fun h hz => ?_⟩,
    fun hkind h => ?_, fun hkind h => ⟨fun he => ?_, fun e he => ?_⟩,
    fun hkind h => ?_, fun hkind h => ⟨fun he => ?_, fun he => ?_⟩,
    fun hkind h => ?_, fun hkind h1 h64 => ⟨fun hn hq => ?_, fun x position hx hq => ?_⟩,
    fun hkind h1 h4 => ⟨fun hn => ?_, fun x hx => ?_⟩,
    fun hkind h => ?_, fun hkind h => ⟨fun hn => ?_, fun x hx => ?_⟩, fun hkind => ?_, fun hkind => ?_⟩
  · exact hbad rfl (by omega) (readRecordWords_beyond s h)
  · exact (readRecord_segment ha hk hc hl hp hfree hkind).2 _ ((readRecordWords_segment s).trans (if_neg h))
  · refine (readRecord_segment ha hk hc hl hp hfree hkind).1 _ ?_
    rw [readRecordWords_segment, if_pos ⟨h1, h4, hex⟩]
    rfl
  · rcases hkind with hkind | hkind | hkind
    · exact hbad hkind (by decide) ((readRecordWords_volume s).trans (if_neg h))
    · exact hbad hkind (by decide) ((readRecordWords_zone s).trans (if_neg fun hx => h hx.1))
    · exact hbad hkind (by decide) ((readRecordWords_record s).trans (if_neg h))
  · refine hok hkind (by decide) ?_
    rw [readRecordWords_volume, if_pos ⟨h1, h4⟩, Volume.words_absent h]
  · refine hok hkind (by decide) ?_
    rw [readRecordWords_volume, if_pos ⟨h1, h4⟩, Volume.words, if_neg h]
  · refine hbad hkind (by decide) ((readRecordWords_zone s).trans (if_neg fun hx => ?_))
    exact h.elim hx.2.1 (Nat.not_le.mpr hx.2.2)
  · exact hok hkind (by decide) ((readRecordWords_zone s).trans (if_pos ⟨⟨h1, h4⟩, h, hz⟩))
  · exact hbad hkind (by decide) ((readRecordWords_class s).trans (if_neg (Nat.not_le.mpr h)))
  · refine hok hkind (by decide) ?_
    rw [readRecordWords_class, if_pos h, he]
    rfl
  · refine hok hkind (by decide) ?_
    rw [readRecordWords_class, if_pos h, he]
    obtain ⟨base, _ | post, permanent, triggered, protection⟩ := e
    · rfl
    · rfl
  · exact hbad hkind (by decide) ((readRecordWords_initiator s).trans (if_neg (Nat.not_le.mpr h)))
  · refine hok hkind (by decide) ?_
    rw [readRecordWords_initiator, if_pos h, InitiatorEntry.words_absent he]
  · refine hok hkind (by decide) ?_
    rw [readRecordWords_initiator, if_pos h, InitiatorEntry.words, if_neg he]
    cases (s.initiator (f.param 1)).window <;> rfl
  · exact hbad hkind (by decide) ((readRecordWords_hold s).trans (if_neg (by omega)))
  · refine hok hkind (by decide) ?_
    rw [readRecordWords_hold, if_pos ⟨h1, h64⟩, hn, walkPosition_out hq]
    rfl
  · have hposition : walkPosition (f.param 1) s.walkQueue = position := by
      rcases hq with ⟨rfl, hout⟩ | ⟨before, after, hqueue, hout, rfl⟩
      · exact walkPosition_out hout
      · rw [hqueue, walkPosition_in hout]
    refine hok hkind (by decide) ?_
    rw [readRecordWords_hold, if_pos ⟨h1, h64⟩, hx, hposition]
    obtain ⟨front | _ | ⟨front, raisedTo⟩, reference, volume, first, last, filter, placed⟩ := x
    · rfl
    · rfl
    · rfl
  · refine hok hkind (by decide) ?_
    rw [readRecordWords_record, if_pos ⟨h1, h4⟩, hn]
    rfl
  · refine hok hkind (by decide) ?_
    rw [readRecordWords_record, if_pos ⟨h1, h4⟩, hx]
    obtain ⟨state, settled, context, initiator, tag, place, kind, writes, continuation, reissues, created, resumer⟩ := x
    simp only [recordWords, List.append_assoc]
    cases place <;> cases resumer <;> rfl
  · exact hbad hkind (by decide) ((readRecordWords_scan s).trans (if_neg (Nat.not_le.mpr h)))
  · refine hok hkind (by decide) ?_
    rw [readRecordWords_scan, if_pos h, hn]
    rfl
  · refine hok hkind (by decide) ?_
    rw [readRecordWords_scan, if_pos h, hx]
    obtain ⟨phase, ranges, through, _ | cursor, examined, mismatched, skipped, current, list, cancel, outcome⟩ := x
    · rfl
    · rfl
  · exact hok hkind (by decide) rfl
  · exact hok hkind (by decide) rfl

end Sys2Proof.Machine

end

section
/-! SUPPORT. What the frames and the failures of write transfers share: one condition raised while an operation completes
or not, the time the Clock gives over an ordinary step, and the context that the pair of a frame names. -/

namespace Sys2Proof.Machine

/-! ### One condition raised, whatever completes (R172, R174, R178) -/

/-- A step of a settled state that raises one condition makes at most one notice, whatever the Last Outcome record then
holds. -/
theorem State.raisesOne_raised {s u : State} {op : Operation} {c : Cond} {last : Option LastOutcome} (hs : s.settled)
    (hc : u.conditions = { (s.raise op c).conditions with last := last }) (hi : u.initiators = s.initiators) :
    s.raisesOne u.endStep c last u.notices := by
  have hsettled : s.conditions.causes = [] := hs
  rw [State.raise_eq, hsettled, List.nil_append] at hc
  have hcauses := congrArg Conditions.causes hc
  have hpresent : u.present u.conditions.noticeInitiator = s.present s.conditions.noticeInitiator := by
    rw [hc, State.present, State.initiator, hi]
    rfl
  rw [State.raisesOne, State.endStep_noticed]
  refine ⟨?_, u.notices_length, fun y hy => ?_, fun hn => ?_, fun hn hf hp => ?_⟩
  · rw [Conditions.noticed, hc]
    split <;> simp [hsettled]
  · have hframe := State.mem_notices hy
    rw [hc] at hframe
    exact hframe
  · obtain ⟨hne, hp⟩ := State.notices_ne_nil hn
    rw [hpresent] at hp
    refine ⟨?_, by simpa [State.present] using hp⟩
    by_contra hf
    exact hne (hcauses.trans (if_neg hf))
  · have hthere : s.present s.conditions.noticeInitiator = true := by simpa [State.present] using hp
    rw [hn, List.append_nil]
    rcases State.notices_eq_nil hn with hempty | habsent | hfull
    · rw [hcauses, if_pos hf] at hempty
      cases hempty
    · rw [hpresent, hthere] at habsent
      cases habsent
    · exact hfull

/-! ### The time over an ordinary step (R29, R33) -/

/-- An ordinary step leaves the time the Clock gives: it raises the mark at most to that time. -/
theorem State.Evolves.now {s t : State} (h : s.Evolves t) : t.now = s.now := by
  induction h with
  | refl => rfl
  | volatile _ hu ih => rw [hu]; exact ih
  | enqueue _ _ _ ih => exact ih
  | queues _ _ _ _ _ ih => exact ih
  | slot _ _ _ _ ih => exact ih
  | @mark t _ ih =>
    rw [← ih]
    unfold State.now Clock.now
    cases t.clock.state <;> simp
  | put _ _ _ _ _ ih => exact ih

/-- A step that raises flags and then completes an operation, at its end (R174, R178). -/
theorem reported_endStep {s v : State} (hs : s.settled) {raised : CondSet} {causes : List Cause} {op : Operation}
    {outcome : CondSet}
    (hv : v.conditions =
      { s.conditions.raisedWith raised causes with
        last := if outcome = 0#18 then s.conditions.last
          else some { op := op, outcome := outcome, time := s.now } }) :
    let t := v.endStep
    t.conditions.accrued = s.conditions.accrued ||| raised ∧ s.reports t op outcome ∧
      ∃ notices : List Frame, notices.length ≤ 1 ∧ t.txQueue = v.txQueue ++ notices ∧
        t = { v with conditions := t.conditions, txQueue := t.txQueue } := by
  intro t
  have ht : t = _ := v.endStep_noticed
  have hunit : t.conditions = v.conditions.noticed := congrArg State.conditions ht
  rw [hv] at hunit
  refine ⟨congrArg Conditions.accrued hunit, ?_, v.notices, v.notices_length, congrArg State.txQueue ht, by rw [ht]⟩
  have hsettled : s.conditions.causes = [] := hs
  rw [State.reports, hunit]
  unfold Conditions.noticed Conditions.raisedWith
  dsimp only
  rw [hsettled]

/-! ### A context stored, a segment that exists -/

theorem State.context_of_set {s t : State} {c : Nat} {x : Context} (hc : c < 32)
    (h : t.contexts = Table.set s.contexts c x) : t.context c = x ∧ ∀ d, d ≠ c → t.context d = s.context d := by
  have hcontext : ∀ d, t.context d = (s.setContext c x).context d := fun d =>
    congrArg (fun l => Table.get Context.free l d) h
  exact ⟨(hcontext c).trans (State.setContext_context_same _ _ _ hc),
    fun d hd => (hcontext d).trans (State.setContext_context_other _ _ _ _ hd)⟩

theorem State.write_lt {s : State} {c : Nat} {w : WriteContext} (h : s.context c = .write w) : c < 32 :=
  State.context_lt (s := s) (by rw [h]; nofun)

theorem State.segmentExists_lt {s : State} {v n : Nat} (h : s.segmentExists v n = true) : n < (s.volume v).count := by
  simp only [State.segmentExists, Bool.and_eq_true, decide_eq_true_eq] at h
  exact h.2

/-! ### The context that a pair names (R80) -/

theorem Context.holdsTag_write (w : WriteContext) (i t : Nat) :
    (Context.write w).holdsTag i t = true ↔
      w.initiator = i ∧ w.tag = t ∧ (w.removed = false ∨ w.state = .faulted ∨ w.state = .reissuing) := by
  simp [Context.holdsTag_iff]

/-- The pair of a frame names the lowest-numbered write context that holds its tag. -/
theorem State.writeOf_some {s : State} {i t c : Nat} {w : WriteContext} (h : s.writeOf i t = some (c, w)) :
    s.context c = .write w ∧ (Context.write w).holdsTag i t = true ∧
      ∀ k x, k < c → s.context k = .write x → ¬ (Context.write x).holdsTag i t = true := by
  obtain ⟨before, d, after, hrange, hfound, hnone⟩ := List.findSome?_eq_some_iff.mp h
  have hd : s.context d = .write w ∧ (Context.write w).holdsTag i t = true ∧ d = c := by
    split at hfound
    · next x hx =>
      split at hfound
      · next htag =>
        injection hfound with hpair
        injection hpair with hdc hxw
        exact ⟨hx.trans (congrArg _ hxw), hxw ▸ htag, hdc⟩
      · cases hfound
    · cases hfound
    · cases hfound
  obtain ⟨hctx, htag, rfl⟩ := hd
  refine ⟨hctx, htag, fun k x hk hx hholds => ?_⟩
  have hlisted : k ∈ before ++ d :: after := by
    rw [← hrange]
    exact State.write_listed hx
  have hsorted : (before ++ d :: after).Pairwise (· < ·) := by
    rw [← hrange]
    exact List.pairwise_lt_range
  have hbefore : k ∈ before := by
    rcases List.mem_append.mp hlisted with hb | hb
    · exact hb
    · have hafter := (List.pairwise_cons.mp (List.pairwise_append.mp hsorted).2.1).1
      rcases List.mem_cons.mp hb with rfl | hb
      · exact absurd hk (Nat.lt_irrefl k)
      · exact absurd (hafter k hb) (Nat.lt_asymm hk)
  have := hnone k hbefore
  simp [hx, hholds] at this

/-- A pair that no live write context holds names none. -/
theorem State.writeOf_none {s : State} {i t : Nat}
    (h : ∀ k w, s.context k = .write w → ¬ (Context.write w).holdsTag i t = true) : s.writeOf i t = none := by
  refine List.findSome?_eq_none_iff.mpr fun k _ => ?_
  split
  · next w hw => exact if_neg (h k w hw)
  · rfl
  · rfl

/-- A removed initiator's context holds no tag, unless it has a fault record (R54; log 24). -/
theorem Context.holdsTag_unnamed {i t : Nat} {w : WriteContext}
    (h : w.initiator = i → w.tag = t → w.removed = true ∧ w.state ≠ .faulted ∧ w.state ≠ .reissuing) :
    ¬ (Context.write w).holdsTag i t = true := by
  rw [Context.holdsTag_write]
  rintro ⟨hi, ht, hlive⟩
  obtain ⟨hremoved, hfaulted, hreissuing⟩ := h hi ht
  simp [hremoved, hfaulted, hreissuing] at hlive

/-- A frame whose taking changes nothing is discarded. -/
theorem frameEvent_discarded {kind : Nat} {act : Frame → State → State} {s : State} {f : Frame} {rest : List RxFrame}
    (h : s.awaits f rest) (hk : f.kind = kind) (ha : act f (s.taken rest) = s.taken rest) :
    frameEvent kind act s = s.taken rest := by
  rw [frameEvent_taken kind act s f rest h hk (by rw [ha]; exact h.2.1), ha]

end Sys2Proof.Machine

end

section
/-! PROOF. DATA frames: accepted, discarded with a condition, discarded without one. -/

namespace Sys2Proof.Machine

/-! ### The pending writes of an accepted frame (R82, R84, R85) -/

/-- A frame of n blocks crosses the end of the first segment of a spanning transfer (R85). -/
theorem WriteContext.crosses_iff (w : WriteContext) (n : Nat) :
    w.crosses n = true ↔
      w.forwardSegment = w.startSegment ∧ w.next.isSome = true ∧ 16384 < w.forwardOffset + n := by
  rw [WriteContext.crosses, Bool.and_eq_true, Bool.and_eq_true, decide_eq_true_eq, decide_eq_true_eq, and_assoc]
  rfl

theorem WriteContext.newPending_within {w : WriteContext} {n : Nat} (h : ¬ w.crosses n = true) (data : List Byte) :
    w.newPending n data = [freshPending w.forwardSegment w.forwardOffset n data] := if_neg h

theorem WriteContext.newPending_crossing {w : WriteContext} {n m : Nat} (h : w.crosses n = true) (hm : w.next = some m)
    (data : List Byte) :
    w.newPending n data =
      [freshPending w.forwardSegment w.forwardOffset (16384 - w.forwardOffset)
         (data.take ((16384 - w.forwardOffset) * 4096)),
       freshPending m 0 (n - (16384 - w.forwardOffset)) (data.drop ((16384 - w.forwardOffset) * 4096))] := by
  rw [WriteContext.newPending, if_pos h, hm]
  rfl

/-- A frame makes one or two pending writes, no more than the credit of a context that may take it (R81, R82). -/
theorem WriteContext.newPending_length {w : WriteContext} {n : Nat} (hcredit : 0 < w.credit)
    (hcross : w.crosses n = true → 2 ≤ w.credit) (data : List Byte) : (w.newPending n data).length ≤ w.credit := by
  by_cases h : w.crosses n = true
  · rw [WriteContext.newPending, if_pos h]
    exact hcross h
  · rw [WriteContext.newPending_within h]
    exact hcredit

/-- The blocks of a frame go to segments that the context works forward in. -/
theorem WriteContext.newPending_segment {w : WriteContext} {n : Nat} {data : List Byte} {e : PendingWrite}
    (he : e ∈ w.newPending n data) : e.segment = w.forwardSegment ∨ w.next = some e.segment := by
  by_cases h : w.crosses n = true
  · obtain ⟨m, hm⟩ := Option.isSome_iff_exists.mp ((w.crosses_iff n).mp h).2.1
    rw [WriteContext.newPending_crossing h hm] at he
    rcases List.mem_cons.mp he with rfl | he
    · exact .inl rfl
    · rw [List.mem_singleton.mp he]
      exact .inr hm
  · rw [WriteContext.newPending_within h] at he
    rw [List.mem_singleton.mp he]
    exact .inl rfl

/-- The forward point advances by the blocks of a frame, and a spanning transfer carries it out of its first segment when
it reaches the end of that (R82, R85). -/
theorem WriteContext.forwardAfter_eq (w : WriteContext) (n : Nat) :
    let reached := w.forwardOffset + n
    let carried := w.forwardSegment = w.startSegment ∧ 16384 ≤ reached
    w.forwardAfter n =
      (if carried then w.next.getD w.forwardSegment else w.forwardSegment,
        if carried ∧ w.next ≠ none then reached - 16384 else reached) := by
  intro reached carried
  unfold WriteContext.forwardAfter
  by_cases hs : w.forwardSegment = w.startSegment
  · rw [if_pos hs]
    cases hn : w.next with
    | none => simp [reached]
    | some m =>
      by_cases hr : w.forwardOffset + n < 16384
      · have hc : ¬ carried := fun h => Nat.not_le.mpr hr h.2
        simp [hc, Config.segmentBlocks, hr, reached]
      · have hc : carried := ⟨hs, Nat.not_lt.mp hr⟩
        simp [hc, Config.segmentBlocks, hr, reached]
  · have hc : ¬ carried := fun h => hs h.1
    simp [hs, hc, reached]

/-! ### The segments marked written (R82, R111) -/

theorem markWritten_volumes (v : Nat) (l : List PendingWrite) (s : State) :
    markWritten v l s = { s with volumes := (markWritten v l s).volumes } := by
  induction l generalizing s with
  | nil => rfl
  | cons e rest ih =>
    rw [markWritten, ih]
    rfl

/-- Every descriptor once the segments of a list of pending writes are marked written. -/
theorem markWritten_segment {s : State} (hw : s.canonical) {v : Nat} {l : List PendingWrite}
    (hl : ∀ e ∈ l, e.segment < (s.volume v).count) (u m : Nat) :
    (markWritten v l s).segment u m =
      if u = v ∧ ∃ e ∈ l, e.segment = m then { s.segment u m with writtenSince := true } else s.segment u m := by
  induction l generalizing s with
  | nil => simp [markWritten]
  | cons e rest ih =>
    have he := hl e List.mem_cons_self
    have hput := State.putSegment_segment hw he { s.segment v e.segment with writtenSince := true } u m
    rw [markWritten, ih (State.putSegment_canonical hw _ _ _) fun y hy => by
      rw [(s.putSegment_count _ _ _ _).1]
      exact hl y (List.mem_cons_of_mem _ hy), hput]
    by_cases hfirst : u = v ∧ m = e.segment
    · obtain ⟨rfl, rfl⟩ := hfirst
      simp
    · have hmem : (u = v ∧ ∃ y ∈ e :: rest, y.segment = m) ↔ (u = v ∧ ∃ y ∈ rest, y.segment = m) :=
        and_congr_right fun huv => by
          have : ¬ e.segment = m := fun h => hfirst ⟨huv, h.symm⟩
          simp [this]
      simp only [hmem, if_neg hfirst]

/-! ### A DATA frame by the state of its context (R81, R93) -/

section Taken

variable {s : State} {f : Frame} {c : Nat} {w : WriteContext}

theorem takeData_unnamed (h : s.writeOf f.initiator f.tag = none) : takeData f s = s := by
  simp only [takeData, h]

theorem takeData_streaming (h : s.writeOf f.initiator f.tag = some (c, w)) (hw : w.state = .streaming) :
    takeData f s = streamData c w f.count f.payload s := by
  simp only [takeData, h, hw]

theorem takeData_draining (h : s.writeOf f.initiator f.tag = some (c, w)) (hw : w.state = .draining) :
    takeData f s = noteData c w .countLong s := by
  simp only [takeData, h, hw]

theorem takeData_aborting (h : s.writeOf f.initiator f.tag = some (c, w)) (hw : w.state = .aborting) :
    takeData f s = s := by
  simp only [takeData, h, hw]

theorem takeData_recorded (h : s.writeOf f.initiator f.tag = some (c, w))
    (hw : w.state = .faulted ∨ w.state = .reissuing) : takeData f s = noteData c w .overrun s := by
  rcases hw with hw | hw <;> simp only [takeData, h, hw]

end Taken

/-- A DATA frame goes beyond the declared length when it has more blocks than remain (R81). -/
theorem WriteContext.declared_lt_iff (w : WriteContext) (n : Nat) : w.declared < w.received + n ↔ w.remaining < n := by
  unfold WriteContext.declared
  omega

theorem streamData_accepted {c : Nat} {w : WriteContext} {n : Nat} (hcredit : 0 < w.credit) (hn : n ≤ w.remaining)
    (hcross : w.crosses n = true → 2 ≤ w.credit) (data : List Byte) (s : State) :
    streamData c w n data s = acceptData c w n data s := by
  have hone : ¬ (w.crosses n && decide (w.credit = 1)) = true := fun h => by
    rw [Bool.and_eq_true, decide_eq_true_eq] at h
    have := hcross h.1
    omega
  rw [streamData, if_neg (Nat.ne_of_gt hcredit), if_neg (by rw [w.declared_lt_iff]; omega), if_neg hone]

/-- An accepted frame: the context, its requests and the marks, and nothing else. -/
theorem acceptData_eq (c : Nat) (w : WriteContext) (n : Nat) (data : List Byte) (s : State) :
    acceptData c w n data s =
      { s with
        contexts := Table.set s.contexts c (.write (w.accept n (w.newPending n data) s.idleTime))
        arbiter := { s.arbiter with write := s.arbiter.write ++ (w.newPending n data).map (w.request c) }
        volumes := (markWritten w.volume (w.newPending n data) s).volumes } := by
  have hvolumes : ∀ (l : List PendingWrite) (a b : State), a.volumes = b.volumes →
      (markWritten w.volume l a).volumes = (markWritten w.volume l b).volumes := by
    intro l
    induction l with
    | nil => exact fun _ _ h => h
    | cons e rest ih =>
      intro a b h
      refine ih _ _ ?_
      unfold State.putSegment
      rw [State.segment_congr h, State.volume_congr h, h]
  have hmarked := hvolumes (w.newPending n data)
    ((s.putWrite c (w.accept n (w.newPending n data) s.idleTime)).ask .write ((w.newPending n data).map (w.request c))) s rfl
  rw [← hmarked]
  exact markWritten_volumes _ _ _

/-- A DATA frame discarded with a condition changes the outcome set of its context and raises the condition, and no
operation completes (R93). -/
theorem noteData_noted {s : State} {f : Frame} {rest : List RxFrame} {c : Nat} {w : WriteContext} (h : s.awaits f rest)
    (hk : f.kind = 2) (hctx : s.context c = .write w) {cond : Cond}
    (ht : takeData f (s.taken rest) = noteData c w cond (s.taken rest)) :
    ∃ (t : State) (notices : List Frame), exec .dataFrame s = .next t ∧
      t.context c = .write { w with outcome := w.outcome ||| cond.bit } ∧
      (∀ d, d ≠ c → t.context d = s.context d) ∧ s.raisesOne t cond s.conditions.last notices ∧
      t = { s with
        rxQueue := rest, contexts := t.contexts, conditions := t.conditions, txQueue := s.txQueue ++ notices } := by
  have hc : c < 32 := State.write_lt hctx
  have hs : s.settled := h.2.1
  have hexec : exec .dataFrame s = .next (noteData c w cond (s.taken rest)).endStep := by
    rw [← ht]
    exact congrArg Host.Outcome.next (frameEvent_full 2 takeData s f rest h hk)
  have hnoted : noteData c w cond (s.taken rest) =
      ((s.taken rest).raise w.op cond).setContext c (.write { w with outcome := w.outcome.insert cond }) := rfl
  obtain ⟨hown, hother⟩ := State.context_of_set (s := s) (t := (noteData c w cond (s.taken rest)).endStep) hc
    (by rw [State.endStep_noticed, hnoted]; rfl)
  refine ⟨_, (noteData c w cond (s.taken rest)).notices, hexec, hown, hother, ?_, ?_⟩
  · exact State.raisesOne_raised (op := w.op) hs rfl rfl
  · rw [State.endStep_noticed, hnoted]
    rfl

/-- Settles O18: a frame that its context may take, a frame discarded by the state of its context, a frame whose pair
names no context, and the context that a pair names. -/
theorem dataAccepted : Obligations.DataAccepted := by
  refine ⟨?_, ?_, fun s f rest h hk hnone => ?_, fun s i tag c w hof => ?_⟩
  · intro s f rest c w h hk hof hst hw hforward hnext hcredit hn crosses first reached carried hcross
    obtain ⟨hctx, -⟩ := State.writeOf_some hof
    have hc : c < 32 := State.write_lt hctx
    have hcross' : w.crosses f.count = true → 2 ≤ w.credit := fun hx => hcross ((w.crosses_iff _).mp hx)
    have hlen := WriteContext.newPending_length hcredit hcross' f.payload
    have hinside : ∀ e ∈ w.newPending f.count f.payload, e.segment < (s.volume w.volume).count := fun e he =>
      State.segmentExists_lt <| (WriteContext.newPending_segment he).elim (fun hx => hx ▸ hforward) (hnext _)
    have hact : takeData f (s.taken rest) = acceptData c w f.count f.payload (s.taken rest) :=
      (takeData_streaming (s := s.taken rest) hof hst).trans (streamData_accepted hcredit hn hcross' _ _)
    rw [acceptData_eq] at hact
    have hevent := frameEvent_taken 2 takeData s f rest h hk (by rw [hact]; exact h.2.1)
    rw [hact] at hevent
    have hsegment := markWritten_segment (s := s.taken rest) hw hinside
    refine ⟨_, w.newPending f.count f.payload, congrArg Host.Outcome.next hevent, fun hx => ?_, fun m hx hm => ?_, ?_,
      fun d hd => ?_, rfl, fun e he => ?_, fun v m hvm => ?_, rfl⟩
    · exact WriteContext.newPending_within (fun hy => hx ((w.crosses_iff _).mp hy)) _
    · exact WriteContext.newPending_crossing ((w.crosses_iff _).mpr hx) hm _
    · refine (State.setContext_context_same s c _ hc).trans (congrArg Context.write ?_)
      have hidle : w.credit - (w.newPending f.count f.payload).length = 0 ↔
          w.credit = (w.newPending f.count f.payload).length := by omega
      rw [WriteContext.accept, w.forwardAfter_eq]
      simp only [hidle]
      rfl
    · exact State.setContext_context_other s c d _ hd
    · exact (hsegment w.volume e.segment).trans (if_pos ⟨rfl, e, he, rfl⟩)
    · exact (hsegment v m).trans (if_neg fun ⟨hv, e, he, hem⟩ => hvm hv e he hem)
  · intro s f rest c w h hk hof noted
    obtain ⟨hctx, -⟩ := State.writeOf_some hof
    refine ⟨fun hst => ?_, fun hst => ?_, fun hst => ?_⟩
    · exact noteData_noted h hk hctx (takeData_draining (s := s.taken rest) hof hst)
    · exact noteData_noted h hk hctx (takeData_recorded (s := s.taken rest) hof hst)
    · exact congrArg Host.Outcome.next (frameEvent_discarded h hk (takeData_aborting (s := s.taken rest) hof hst))
  · have hunnamed := State.writeOf_none (s := s.taken rest) fun k w hw => Context.holdsTag_unnamed (hnone k w hw)
    exact congrArg Host.Outcome.next (frameEvent_discarded h hk (takeData_unnamed hunnamed))
  · obtain ⟨hctx, htag, hlower⟩ := State.writeOf_some hof
    obtain ⟨hi, ht, hlive⟩ := (Context.holdsTag_write w i tag).mp htag
    refine ⟨hctx, hi, ht, hlive, fun k x hk hx hxi hxt => ?_⟩
    have hnot := hlower k x hk hx
    rw [Context.holdsTag_write] at hnot
    simpa [hxi, hxt] using hnot

end Sys2Proof.Machine

end

section
/-! PROOF. The fatal conditions of a transfer, and the last answer of one that aborts. -/

namespace Sys2Proof.Machine

/-! ### A context freed with its Terminated reply (R12, R95) -/

/-- The frames that a context's initiator gets when the context is freed after a fatal condition. -/
def WriteContext.terminations (w : WriteContext) : List Frame := (w.fatal.map (terminationFrame w)).toList

section Freed

variable {s : State} {c : Nat} {w : WriteContext}

/-- A freed context leaves the map as its writers are cleared, and the other contexts alone. -/
theorem freeWrite_freed (hw : s.canonical) (hc : c < 32) {t : State}
    (hvolumes : t.volumes = (freeWrite c w s).volumes) (hcontexts : t.contexts = (freeWrite c w s).contexts) :
    t.context c = .free ∧ (∀ d, d ≠ c → t.context d = s.context d) ∧ s.clears t c w := by
  rw [freeWrite_eq] at hvolumes hcontexts
  obtain ⟨hown, hother⟩ := State.context_of_set hc hcontexts
  obtain ⟨hin, hout⟩ := clearWriters_clears hw w c
  refine ⟨hown, hother, fun v m h => ?_, fun v m h => ?_⟩
  · exact (State.segment_congr hvolumes v m).trans (hin v m h)
  · exact (State.segment_congr hvolumes v m).trans (hout v m h)

/-- An Aborting context that its initiator hears is freed with the Terminated reply of its first fatal condition. -/
theorem freeAborting_heard (h : s.hears w) (hroom : s.txQueue.length < 2048) :
    freeAborting c w s = { freeWrite c w s with txQueue := s.txQueue ++ w.terminations } := by
  obtain ⟨hready, hp, hrem, hsilent⟩ := h
  have hheard : ¬ w.silent = true := by rw [hsilent]; nofun
  have heq := freeWrite_eq c w s
  unfold freeAborting WriteContext.terminations
  rw [if_neg hheard]
  cases hfatal : w.fatal with
  | none =>
    show freeWrite c w s = { freeWrite c w s with txQueue := s.txQueue ++ [] }
    rw [List.append_nil, heq]
  | some code =>
    refine (State.sendFor_placed (f := terminatedFrame w code) hrem ?_ ?_ ?_).trans ?_ <;> rw [heq]
    · exact hready
    · exact hp
    · exact hroom
    · rfl

end Freed

/-- t is the end of a step from s that, from v on, frees the context c, which stands as w, and places frames for its
initiator (R78, R174, R178). -/
structure State.Frees (s v t : State) (c : Nat) (w : WriteContext) (raised : CondSet) (frames : List Frame) : Prop where
  own : t.context c = .free
  other : ∀ d, d ≠ c → t.context d = v.context d
  clears : v.clears t c w
  accrued : t.conditions.accrued = s.conditions.accrued ||| raised
  reports : s.reports t w.op w.outcome
  placed : ∃ notices : List Frame, notices.length ≤ 1 ∧ t.txQueue = v.txQueue ++ frames ++ notices
  frame : t = { v with
    volumes := t.volumes, contexts := t.contexts, conditions := t.conditions, txQueue := t.txQueue }

/-- A step that raised flags frees a context and ends. -/
theorem freeWrite_frees {s v : State} {c : Nat} {raised : CondSet} {causes : List Cause} (hs : s.settled)
    (hc : c < 32) (hw : v.canonical) (hnow : v.now = s.now) (hv : v.conditions = s.conditions.raisedWith raised causes)
    (w : WriteContext) (frames : List Frame) :
    s.Frees v { freeWrite c w v with txQueue := v.txQueue ++ frames }.endStep c w raised frames := by
  let z : State := { freeWrite c w v with txQueue := v.txQueue ++ frames }
  have hfreed := freeWrite_eq c w v
  rw [hnow, hv] at hfreed
  have hz : z.conditions =
      { s.conditions.raisedWith raised causes with
        last := if w.outcome = 0#18 then s.conditions.last
          else some { op := w.op, outcome := w.outcome, time := s.now } } := congrArg State.conditions hfreed
  obtain ⟨haccrued, hreports, notices, hlen, htx, ht⟩ := reported_endStep hs hz
  obtain ⟨hown, hother, hclears⟩ := freeWrite_freed (w := w) (t := z.endStep) hw hc (by rw [ht]) (by rw [ht])
  refine ⟨hown, hother, hclears, haccrued, hreports, ⟨notices, hlen, htx⟩, ht.trans ?_⟩
  have hvolumes : z.endStep.volumes = z.volumes := by rw [ht]
  have hcontexts : z.endStep.contexts = z.contexts := by rw [ht]
  rw [hvolumes, hcontexts]
  simp only [z, hfreed]

/-! ### A fatal condition (R94 to R96) -/

/-- The context that a fatal condition sends to Aborting. -/
def WriteContext.aborted (w : WriteContext) (cond : Cond) (code : Code) : WriteContext :=
  { w with state := .aborting, idle := none, fatal := some code, outcome := w.outcome ||| cond.bit }

theorem fatalWrite_eq {w : WriteContext} (h : w.fatal = none) (c : Nat) (cond : Cond) (code : Code) (s : State) :
    fatalWrite c w cond code s = settleAborting c (w.aborted cond code) (s.raise w.op cond) := by
  unfold fatalWrite raiseFor
  dsimp only
  rw [h]
  rfl

/-- The step of a fatal condition: the context goes on Aborting, or is freed and answered. -/
theorem fatalWrite_aborts {s : State} {c : Nat} {w : WriteContext} (hctx : s.context c = .write w)
    (hfatal : w.fatal = none) (h : s.hears w) (hs : s.settled) (hw : s.canonical) (hroom : s.txQueue.length < 2048)
    (cond : Cond) (code : Code) :
    (fatalWrite c w cond code s).endStep.rxQueue = s.rxQueue ∧
      s.abortedBy (fatalWrite c w cond code s).endStep c w cond code := by
  have hc := State.write_lt hctx
  have heq := fatalWrite_eq hfatal c cond code s
  by_cases hp : w.pending = []
  · have hfree : settleAborting c (w.aborted cond code) (s.raise w.op cond) =
        freeAborting c (w.aborted cond code) (s.raise w.op cond) := if_pos hp
    have hne : ¬ (w.aborted cond code).outcome = 0#18 := fun hx => cond.bit_ne_zero (BitVec.or_eq_zero_iff.mp hx).2
    rw [hfree, freeAborting_heard (s := s.raise w.op cond) (w := w.aborted cond code) h hroom] at heq
    obtain ⟨hown, hother, hclears⟩ := freeWrite_freed (s := s.raise w.op cond) (w := w.aborted cond code)
      (t := (fatalWrite c w cond code s).endStep) hw hc (by rw [State.endStep_noticed, heq])
      (by rw [State.endStep_noticed, heq])
    have hfreed := freeWrite_eq c (w.aborted cond code) (s.raise w.op cond)
    rw [if_neg hne] at hfreed
    rw [hfreed] at heq
    refine ⟨by rw [State.endStep_noticed, heq]; rfl, fun hne => absurd hp hne,
      fun _ => ⟨hown, hclears, (fatalWrite c w cond code s).notices, ?_, State.raisesOne_raised (op := w.op) hs ?_ ?_⟩,
      hother, ?_⟩
    · rw [State.endStep_noticed, heq]
      rfl
    · rw [heq]
      rfl
    · rw [heq]
      rfl
    · rw [State.endStep_noticed, heq]
      rfl
  · have hput : settleAborting c (w.aborted cond code) (s.raise w.op cond) =
        (s.raise w.op cond).putWrite c (w.aborted cond code) := if_neg hp
    rw [hput] at heq
    obtain ⟨hown, hother⟩ := State.context_of_set (s := s) (t := (fatalWrite c w cond code s).endStep) hc
      (by rw [State.endStep_noticed, heq]; rfl)
    refine ⟨by rw [State.endStep_noticed, heq]; rfl,
      fun _ => ⟨hown, ?_, (fatalWrite c w cond code s).notices, ?_, State.raisesOne_raised (op := w.op) hs ?_ ?_⟩,
      fun hnil => absurd hnil hp, hother, ?_⟩
    · rw [State.endStep_noticed, heq]
      rfl
    · rw [State.endStep_noticed, heq]
      rfl
    · rw [heq]
      rfl
    · rw [heq]
      rfl
    · rw [State.endStep_noticed, heq]
      rfl

section Checks

variable {w : WriteContext} {n : Nat} (c : Nat) (data : List Byte) (s : State)

theorem streamData_uncredited (h : w.credit = 0) : streamData c w n data s = fatalWrite c w .overrun .overrun s :=
  if_pos h

theorem streamData_beyond (hcredit : 0 < w.credit) (h : w.remaining < n) :
    streamData c w n data s = fatalWrite c w .countLong .countLong s := by
  rw [streamData, if_neg (Nat.ne_of_gt hcredit), if_pos ((w.declared_lt_iff n).mpr h)]

theorem streamData_crossing (hcredit : w.credit = 1) (hn : n ≤ w.remaining) (h : w.crosses n = true) :
    streamData c w n data s = fatalWrite c w .overrun .overrun s := by
  rw [streamData, if_neg (by omega), if_neg (by rw [w.declared_lt_iff]; omega), if_pos (by simp [h, hcredit])]

end Checks

/-- A DATA frame that is a fatal condition. -/
theorem dataFrame_aborts {s : State} {f : Frame} {rest : List RxFrame} {c : Nat} {w : WriteContext} (h : s.awaits f rest)
    (hk : f.kind = 2) (hof : s.writeOf f.initiator f.tag = some (c, w)) (hst : w.state = .streaming)
    (hfatal : w.fatal = none) (hears : s.hears w) (hw : s.canonical) {cond : Cond} {code : Code}
    (hdata : streamData c w f.count f.payload (s.taken rest) = fatalWrite c w cond code (s.taken rest)) :
    ∃ t, exec .dataFrame s = .next t ∧ t.rxQueue = rest ∧ s.abortedBy t c w cond code := by
  have hexec := frameEvent_full 2 takeData s f rest h hk
  rw [takeData_streaming (s := s.taken rest) hof hst, hdata] at hexec
  have hroom : s.txQueue.length < 2048 := Nat.lt_trans h.2.2.2.1 (by decide)
  obtain ⟨hrx, haborted⟩ := fatalWrite_aborts (s := s.taken rest) (State.writeOf_some hof).1 hfatal hears h.2.1 hw hroom cond code
  exact ⟨_, congrArg Host.Outcome.next hexec, hrx, haborted⟩

theorem idleExpires_runsOut {s : State} {c : Nat} {w : WriteContext} (hctx : s.context c = .write w)
    (hst : w.state = .streaming) (hidle : w.idle = some 0) :
    idleExpires c s = fatalWrite c w .transferIdle .transferIdle s := by
  simp [idleExpires, hctx, hst, hidle]

/-! ### The last answer of a transfer (R86, R88, R92, R95) -/

/-- What an answered run leaves of the state and of its context. -/
theorem State.writeAnswered.folds {s : State} {bytes : List Byte} {f : Frame} {c : Nat} {w : WriteContext}
    {run rest : List PendingWrite} (h : s.writeAnswered bytes f c w run rest) :
    let x := (foldRun run w s).1
    let u := (foldRun run w s).2
    s.foldsTo u w x run ∧ s.MapMoved u ∧ w.Moved x ∧ u.canonical ∧ u.now = s.now ∧
      x.current < (u.volume w.volume).count := by
  obtain ⟨⟨-, -, -, -, -, hw⟩, hleaves, hstands, -⟩ := h
  obtain ⟨hu, hx, -⟩ := foldRun_moves run w s
  have hevolves := (State.Evolves.refl (s := s)).foldRun run w
  refine ⟨foldRun_foldsTo hw (run_inside hstands hleaves) fun m hm => hstands.inside (.inr (.inl hm)), hu, hx,
    hevolves.rewrites.canonical hw, hevolves.now, ?_⟩
  rw [hevolves.rewrites.count]
  exact foldRun_current_inside hstands hleaves

/-- The last answer of an Aborting transfer: the context is freed with its Terminated reply. -/
theorem settleConfirmed_aborted {s : State} {c before : Nat} {w : WriteContext} (hst : w.state = .aborting)
    (hp : w.pending = []) (h : s.hears w) (hroom : s.txQueue.length < 2048) :
    settleConfirmed c before w s = { freeWrite c w s with txQueue := s.txQueue ++ w.terminations } := by
  have hfree : settleConfirmed c before w s = settleAborting c w s := by rw [settleConfirmed, hst]
  rw [hfree, settleAborting, if_pos hp, freeAborting_heard h hroom]

/-- Settles O19: the fatal conditions by the order of their checks, and the last answer of an Aborting transfer. -/
theorem fatalCauseAborts : Obligations.FatalCauseAborts := by
  refine ⟨fun s c w hctx hst hfatal hears hs hw => ⟨?_, fun hon hidle hroom => ?_⟩, ?_⟩
  · intro f rest h hk hof crosses
    refine ⟨fun hcredit => ?_, fun hcredit hn => ?_, fun hcredit hn hx => ?_⟩
    · exact dataFrame_aborts h hk hof hst hfatal hears hw (streamData_uncredited _ _ _ hcredit)
    · exact dataFrame_aborts h hk hof hst hfatal hears hw (streamData_beyond _ _ _ hcredit hn)
    · exact dataFrame_aborts h hk hof hst hfatal hears hw
        (streamData_crossing _ _ _ hcredit hn ((w.crosses_iff _).mpr hx))
  · obtain ⟨hrx, haborted⟩ := fatalWrite_aborts hctx hfatal hears hs hw hroom .transferIdle .transferIdle
    rw [← idleExpires_runsOut hctx hst hidle] at hrx haborted
    exact ⟨_, congrArg Host.Outcome.next (onEvent_on s _ hon), hrx, haborted⟩
  · intro s bytes f c w run h hst
    obtain ⟨causes, hexec⟩ := exec_confirms h
    obtain ⟨hfolds, hu, hx, hw, hnow, -⟩ := h.folds
    obtain ⟨⟨⟨-, hs, -⟩, -, -, -, hctx, -⟩, -, -, hears, hroom⟩ := h
    have hc := State.write_lt hctx
    generalize foldRun run w s = p at hexec hfolds hu hx hw hnow
    obtain ⟨x, u⟩ := p
    obtain ⟨current, confirmedOffset, next, rfl⟩ := hx
    obtain ⟨volumes, clock, rfl⟩ := hu
    let ended := WriteContext.folded w { w with current := current, confirmedOffset := confirmedOffset, next := next } f
      run []
    let v := State.besides { s with volumes := volumes, clock := clock } (checkAfter bytes)
      (s.slots.setIfInBounds f.tag .free) (s.conditions.raisedWith (softSet f) causes)
    have hv := settleConfirmed_aborted (s := v) (c := c) (before := w.pending.length) (w := ended) hst rfl hears hroom
    have hfrees := freeWrite_frees (v := v) hs hc hw hnow rfl ended ended.terminations
    rw [← hv] at hfrees
    obtain ⟨notices, hlen, htx⟩ := hfrees.placed
    exact ⟨_, _, _, notices, hexec, hfolds, hfrees.own, hfrees.other, hfrees.clears, hfrees.accrued, hfrees.reports,
      hlen, htx, hfrees.frame⟩

end Sys2Proof.Machine

end

section
/-! PROOF. The END of a transfer, and the last answer of one that drains. -/

namespace Sys2Proof.Machine

/-! ### The segment of the last block (R15, R92) -/

theorem WriteContext.lastSegment_eq (w : WriteContext) : w.lastSegment = w.lastBlock := by
  unfold WriteContext.lastSegment WriteContext.lastBlock
  by_cases hs : w.current = w.startSegment <;> by_cases ho : w.confirmedOffset = 0 <;> simp [hs, ho]

theorem finalWriteFrame_eq (w : WriteContext) (closed : Bool) : finalWriteFrame w closed = completionFrame w closed := by
  unfold finalWriteFrame completionFrame
  rw [w.lastSegment_eq]
  rfl

theorem WriteContext.lastBlock_or (w : WriteContext) : w.lastBlock = w.startSegment ∨ w.lastBlock = w.current := by
  unfold WriteContext.lastBlock
  split
  · exact .inl rfl
  · exact .inr rfl

theorem WriteContext.lastBlock_worksIn (w : WriteContext) : w.worksIn w.volume w.lastBlock :=
  ⟨rfl, w.lastBlock_or.imp_right .inl⟩

/-- END closes the segment g of the last block of context c, which stands as w. -/
abbrev WriteContext.closesAtEnd (w : WriteContext) (c : Nat) (g : Segment) : Prop :=
  w.closeFlag = some true ∧ g.state = .opened ∧ g.writer = some c ∧ g.cls ≠ some 0 ∧ g.cls ≠ some 1

section CloseAtEnd

variable {s : State} {c : Nat} {w : WriteContext}

theorem closeAtEnd_closes (h : w.closesAtEnd c (s.segment w.volume w.lastBlock)) :
    closeAtEnd c w s =
      { s.putSegment w.volume w.lastBlock (s.closes (s.segment w.volume w.lastBlock)) with
        clock := { s.clock with mark := max s.clock.mark s.now } } := by
  obtain ⟨hflag, hopen, hwriter, hcls⟩ := h
  have hself := (closesByItself_iff _).mpr hcls
  rw [closeAtEnd, w.lastSegment_eq]
  dsimp only
  rw [if_pos (by simp [hflag, hwriter, hself]), State.closeSegment_opened id hopen]
  rfl

theorem closeAtEnd_stays (h : ¬ w.closesAtEnd c (s.segment w.volume w.lastBlock)) : closeAtEnd c w s = s := by
  rw [closeAtEnd, w.lastSegment_eq]
  split
  · next hasked =>
    simp only [Bool.and_eq_true, decide_eq_true_eq] at hasked
    obtain ⟨⟨hflag, hwriter⟩, hself⟩ := hasked
    exact if_neg fun hopen => h ⟨hflag, hopen, hwriter, (closesByItself_iff _).mp hself⟩
  · rfl

/-- The Map and the Clock once END has closed the segment of the last block, or left it. -/
theorem closeAtEnd_spec (hw : s.canonical) (hn : w.lastBlock < (s.volume w.volume).count) :
    let g := s.segment w.volume w.lastBlock
    let t := closeAtEnd c w s
    s.MapMoved t ∧ t.clock = (if w.closesAtEnd c g then { s.clock with mark := max s.clock.mark s.now } else s.clock) ∧
      ∀ v m, t.segment v m =
        if v = w.volume ∧ m = w.lastBlock then (if w.closesAtEnd c g then s.closes g else g) else s.segment v m := by
  intro g t
  by_cases h : w.closesAtEnd c g
  · have ht : t = _ := closeAtEnd_closes h
    rw [ht, if_pos h, if_pos h]
    exact ⟨⟨_, _, rfl⟩, rfl, State.putSegment_segment hw hn (s.closes g)⟩
  · have ht : t = s := closeAtEnd_stays h
    rw [ht, if_neg h, if_neg h]
    refine ⟨.refl s, rfl, fun v m => ?_⟩
    split
    · next hvm => rw [hvm.1, hvm.2]
    · rfl

end CloseAtEnd

/-! ### A transfer that completes (R92) -/

/-- A step that raised flags completes the transfer of a context that its initiator hears, and ends. -/
theorem completeWrite_ends {s v : State} {c : Nat} {w : WriteContext} {raised : CondSet} {causes : List Cause}
    (hs : s.settled) (hc : c < 32) (hw : v.canonical) (hnow : v.now = s.now)
    (hv : v.conditions = s.conditions.raisedWith raised causes) (hears : v.hears w) (hroom : v.txQueue.length < 2048)
    (hn : w.lastBlock < (v.volume w.volume).count) :
    let t := (completeWrite c w v).endStep
    v.finishes t c w ∧ t.conditions.accrued = s.conditions.accrued ||| raised ∧ s.reports t w.op w.outcome ∧
      (∃ notices : List Frame, notices.length ≤ 1 ∧
        t.txQueue =
          v.txQueue ++ [completionFrame w (decide ((t.segment w.volume w.lastBlock).state = .closed))] ++ notices) ∧
      t = { v with
        volumes := t.volumes, contexts := t.contexts, clock := t.clock, conditions := t.conditions
        txQueue := t.txQueue } := by
  obtain ⟨hready, hp, hrem, -⟩ := hears
  have hevolves := (State.Evolves.refl (s := v)).closeAtEnd c w
  have hcount := hevolves.rewrites.count
  obtain ⟨hmoved, hclock, hsegment⟩ := closeAtEnd_spec (c := c) hw hn
  have hcanonical := hevolves.rewrites.canonical hw
  have hnow' := hevolves.now.trans hnow
  have hcomplete : completeWrite c w v = (freeWrite c w (closeAtEnd c w v)).sendFor w (finalWriteFrame w
      (decide (((freeWrite c w (closeAtEnd c w v)).segment w.volume w.lastSegment).state = .closed))) := rfl
  rw [finalWriteFrame_eq, w.lastSegment_eq] at hcomplete
  generalize closeAtEnd c w v = a at hmoved hclock hsegment hcanonical hnow' hcount hcomplete
  obtain ⟨volumes, clock, rfl⟩ := hmoved
  let a : State := { v with volumes := volumes, clock := clock }
  have hfreed := freeWrite_eq c w a
  have hsent : completeWrite c w v = { freeWrite c w a with txQueue := a.txQueue ++
      [completionFrame w (decide (((freeWrite c w a).segment w.volume w.lastBlock).state = .closed))] } := by
    refine hcomplete.trans ((State.sendFor_placed hrem ?_ ?_ ?_).trans ?_) <;> rw [hfreed]
    · exact hready
    · exact hp
    · exact hroom
  have hfrees := freeWrite_frees (v := a) hs hc hcanonical hnow' hv w
    [completionFrame w (decide (((freeWrite c w a).segment w.volume w.lastBlock).state = .closed))]
  rw [← hsent] at hfrees
  intro t
  have hclosed : t.segment w.volume w.lastBlock = (freeWrite c w a).segment w.volume w.lastBlock := by
    refine State.segment_congr ?_ _ _
    rw [State.endStep_volumes, hsent]
  have hkept : t.clock = clock := congrArg State.clock hfrees.frame
  obtain ⟨hin, hout⟩ := hfrees.clears
  rw [← hclosed] at hfrees
  refine ⟨⟨hfrees.own, hfrees.other, ?_, fun u m hum => ⟨fun h => ?_, fun h => ?_⟩, ?_⟩, hfrees.accrued, hfrees.reports,
    hfrees.placed, ?_⟩
  · refine (hin _ _ ⟨w.lastBlock_worksIn, by rw [hcount]; exact hn⟩).trans ?_
    rw [hsegment, if_pos ⟨rfl, rfl⟩]
    split
    · exact Segment.without_of_ne nofun
    · rfl
  · rw [← hcount] at h
    rw [hin u m h, hsegment, if_neg hum]
  · rw [← hcount] at h
    rw [hout u m h, hsegment, if_neg hum]
  · exact hkept.trans hclock
  · rw [hkept]
    exact hfrees.frame

/-! ### An END frame (R91, R93) -/

section Taken

variable {s : State} {f : Frame} {c : Nat} {w : WriteContext}

theorem takeEnd_unnamed (h : s.writeOf f.initiator f.tag = none) : takeEnd f s = s := by
  simp only [takeEnd, h]

theorem takeEnd_streaming (h : s.writeOf f.initiator f.tag = some (c, w)) (hw : w.state = .streaming) :
    takeEnd f s = streamEnd c w f.closeFlag s := by
  simp only [takeEnd, h, hw]

theorem takeEnd_late (h : s.writeOf f.initiator f.tag = some (c, w)) (hw : w.state ≠ .streaming) : takeEnd f s = s := by
  cases hst : w.state with
  | streaming => exact absurd hst hw
  | draining | aborting | faulted | reissuing => simp only [takeEnd, h, hst]

end Taken

/-- The context of a transfer that has met its END, with the conditions that raises (R91). -/
def WriteContext.ended (w : WriteContext) (close : Bool) (missing : CondSet) : WriteContext :=
  { w with closeFlag := some close, idle := none, outcome := w.outcome ||| missing }

/-- The condition of an END that comes while blocks are still declared, as a set (R91). -/
def WriteContext.missing (w : WriteContext) : CondSet := if w.remaining = 0 then 0#18 else Cond.countShort.bit

/-- The state once an END has raised its condition, if any. -/
def State.missed (s : State) (w : WriteContext) : State :=
  if w.remaining = 0 then s else s.raise w.op .countShort

theorem State.missed_none (s : State) {w : WriteContext} (h : w.remaining = 0) : s.missed w = s := if_pos h

theorem State.missed_short (s : State) {w : WriteContext} (h : w.remaining ≠ 0) :
    s.missed w = s.raise w.op .countShort := if_neg h

theorem State.missed_eq (s : State) (w : WriteContext) :
    ∃ causes, s.missed w = { s with conditions := s.conditions.raisedWith w.missing causes } := by
  unfold State.missed WriteContext.missing
  split
  · exact ⟨s.conditions.causes, by rw [Conditions.raisedWith, BitVec.or_zero]⟩
  · exact ⟨_, State.raise_eq _ _ _⟩

theorem streamEnd_eq (c : Nat) (w : WriteContext) (close : Bool) (s : State) :
    streamEnd c w close s =
      if w.pending = [] then completeWrite c (w.ended close w.missing) (s.missed w)
      else (s.missed w).putWrite c { w.ended close w.missing with state := .draining } := by
  unfold streamEnd State.missed WriteContext.missing WriteContext.ended
  by_cases h : w.remaining = 0
  · simp only [h, if_true, BitVec.or_zero]
  · simp only [h, if_false]
    rfl

/-- The last answer of a Draining transfer completes it. -/
theorem settleConfirmed_drained {c before : Nat} {w : WriteContext} (hst : w.state = .draining) (hp : w.pending = [])
    (s : State) : settleConfirmed c before w s = completeWrite c w s := by
  rw [settleConfirmed, hst]
  exact if_pos hp

/-- Settles O20: an END with writes pending, one with none, the last answer of a Draining transfer, and an END that is
discarded. -/
theorem endFinishesTransfer : Obligations.EndFinishesTransfer := by
  refine ⟨?_, ?_, ?_, fun s f rest h hk => ⟨fun c w hof hst => ?_, fun hnone => ?_⟩⟩
  · intro s f rest c w h hk hof hst hp missing
    have hs : s.settled := h.2.1
    obtain ⟨hctx, -⟩ := State.writeOf_some hof
    have hact := takeEnd_streaming (s := s.taken rest) hof hst
    rw [streamEnd_eq, if_neg hp] at hact
    have hexec := frameEvent_full 3 takeEnd s f rest h hk
    rw [hact] at hexec
    let v := ((s.taken rest).missed w).putWrite c { w.ended f.closeFlag w.missing with state := .draining }
    obtain ⟨causes, hv⟩ := (s.taken rest).missed_eq w
    have ht : v.endStep = _ := v.endStep_noticed
    obtain ⟨hown, hother⟩ := State.context_of_set (s := s) (t := v.endStep) (State.write_lt hctx)
      (by rw [ht]; simp only [v, hv]; rfl)
    refine ⟨v.endStep, v.notices, congrArg Host.Outcome.next hexec, hown, hother, fun hzero => ?_, fun hleft => ?_, ?_⟩
    · have hconditions : v.conditions = s.conditions :=
        (congrArg State.conditions ((s.taken rest).missed_none hzero) :)
      have hquiet : v.conditions.causes = [] := by rw [hconditions]; exact hs
      exact ⟨(congrArg State.conditions (v.endStep_quiet hquiet)).trans hconditions, if_pos hquiet⟩
    · refine State.raisesOne_raised (op := w.op) hs ?_ (by simp only [v, hv]; rfl)
      exact (congrArg State.conditions ((s.taken rest).missed_short hleft) :)
    · rw [ht]
      simp only [v, hv]
      rfl
  · intro s f rest c w h hk hof hst hp hears hw hstands missing done
    have hs : s.settled := h.2.1
    obtain ⟨hctx, -⟩ := State.writeOf_some hof
    have hact := takeEnd_streaming (s := s.taken rest) hof hst
    rw [streamEnd_eq, if_pos hp] at hact
    have hexec := frameEvent_full 3 takeEnd s f rest h hk
    rw [hact] at hexec
    have hroom : s.txQueue.length < 2048 := Nat.lt_trans h.2.2.2.1 (by decide)
    obtain ⟨causes, hv⟩ := (s.taken rest).missed_eq w
    rw [hv] at hexec
    have hn : w.lastBlock < (s.volume w.volume).count :=
      State.segmentExists_lt (hstands _ (w.lastBlock_or.imp_right .inl))
    obtain ⟨hfinishes, haccrued, hreports, ⟨notices, hlen, htx⟩, hframe⟩ := completeWrite_ends (s := s)
      (v := { s.taken rest with conditions := s.conditions.raisedWith w.missing causes })
      (w := w.ended f.closeFlag w.missing) hs (State.write_lt hctx) hw rfl rfl hears hroom hn
    exact ⟨_, notices, congrArg Host.Outcome.next hexec, hfinishes, haccrued, hreports, hlen, htx, hframe⟩
  · intro s bytes f c w run h hst
    obtain ⟨causes, hexec⟩ := exec_confirms h
    obtain ⟨hfolds, hu, hx, hw, hnow, hcurrent⟩ := h.folds
    have hcount := hfolds.2.1
    obtain ⟨⟨⟨-, hs, -⟩, -, -, -, hctx, -⟩, -, hstands, hears, hroom⟩ := h
    have hc := State.write_lt hctx
    generalize foldRun run w s = p at hexec hfolds hu hx hw hnow hcurrent hcount
    obtain ⟨x, u⟩ := p
    obtain ⟨current, confirmedOffset, next, rfl⟩ := hx
    obtain ⟨volumes, clock, rfl⟩ := hu
    let done := WriteContext.folded w { w with current := current, confirmedOffset := confirmedOffset, next := next } f
      run []
    let v := State.besides { s with volumes := volumes, clock := clock } (checkAfter bytes)
      (s.slots.setIfInBounds f.tag .free) (s.conditions.raisedWith (softSet f) causes)
    rw [settleConfirmed_drained (s := v) (w := done) hst rfl] at hexec
    have hn : done.lastBlock < (v.volume w.volume).count := by
      rcases done.lastBlock_or with hx | hx <;> rw [hx]
      · exact (hcount w.volume).symm ▸ State.segmentExists_lt (hstands _ (.inl rfl))
      · exact hcurrent
    obtain ⟨hfinishes, haccrued, hreports, ⟨notices, hlen, htx⟩, hframe⟩ := completeWrite_ends (s := s) (v := v)
      (w := done) hs hc hw hnow rfl hears hroom hn
    exact ⟨_, _, _, notices, hexec, hfolds, hfinishes, haccrued, hreports, hlen, htx, hframe⟩
  · exact congrArg Host.Outcome.next (frameEvent_discarded h hk (takeEnd_late (s := s.taken rest) hof hst))
  · have hunnamed := State.writeOf_none (s := s.taken rest) fun k w hw => Context.holdsTag_unnamed (hnone k w hw)
    exact congrArg Host.Outcome.next (frameEvent_discarded h hk (takeEnd_unnamed hunnamed))

end Sys2Proof.Machine

end

section
/-! PROOF. A media write that fails. -/

namespace Sys2Proof.Machine

/-! ### From the failure to the state its context takes (R90, R140, R141) -/

/-- A failure is handed to the write context that owns the slot, and the slot no longer waits. -/
theorem State.fails.write {s u : State} {ev : Instr} {tag c : Nat} {timeout : Bool} {w : WriteContext}
    (h : s.fails ev tag (.write c) none timeout u) (hctx : s.context c = .write w) :
    exec ev s =
      .next (writeFails c (if timeout then .writeTimeout else .writeFault) (fun e => decide (e.mediaTag = some tag)) w
        u).endStep ∧
      s.settled ∧ s.slotTaken u ∧ (u.slot tag = .free ∨ u.slot tag = .busyLate) := by
  have hfreed : ∀ bytes t, (s.slotFreed bytes t).context c = .write w := fun _ _ => hctx
  rcases h with ⟨bytes, f, rfl, hb, ha, rfl, ho, hstatus, rfl, rfl⟩ | ⟨bytes, f, rfl, hb, ha, rfl, ho, -, rfl, rfl⟩ |
    ⟨rfl, hon, hs, htag, ⟨command, cls, hslot⟩, rfl, rfl⟩
  · obtain ⟨hon, hs, -, -, -, hkind, htag⟩ := id ha
    obtain ⟨hok, hsoft⟩ := hstatus rfl
    have hanswer : answerOf f = .fault := by simp [answerOf, hkind, hok, hsoft]
    have hact := responseArrives_owned ha (.inl rfl) ho
    simp only [handOver, hfreed, hanswer] at hact
    exact ⟨(exec_mstatus hon hb).trans (by rw [hact]; rfl), hs, ⟨_, _, rfl⟩,
      .inl (State.setSlot_slot_same _ _ _ htag)⟩
  · obtain ⟨hon, hs, -, -, -, hkind, htag⟩ := id ha
    have hanswer : answerOf f = .data f := by simp [answerOf, hkind]
    have hact := responseArrives_owned ha (.inr rfl) ho
    simp only [handOver, hfreed, hanswer] at hact
    exact ⟨(exec_mdata hon hb).trans (by rw [hact]; rfl), hs, ⟨_, _, rfl⟩,
      .inl (State.setSlot_slot_same _ _ _ htag)⟩
  · have hlate : (s.setSlot tag .busyLate).context c = .write w := hctx
    refine ⟨?_, hs, ⟨_, _, rfl⟩, .inr (State.setSlot_slot_same _ _ _ htag)⟩
    rw [exec_mediaTimeout hon]
    simp only [slotExpires, hslot, timeoutOwner, hlate]
    rfl

/-- A condition raised in a Condition Unit that has already raised some. -/
theorem State.raise_raisedWith {s : State} {x : Conditions} {raised : CondSet} {causes : List Cause}
    (h : s.conditions = x.raisedWith raised causes) (op : Operation) (c : Cond) :
    (s.raise op c).conditions = x.raisedWith (raised ||| c.bit) (s.raise op c).conditions.causes := by
  rw [Conditions.raisedWith, ← BitVec.or_assoc, State.raise_eq, h]
  rfl

theorem Conditions.raisedWith_none (x : Conditions) : x = x.raisedWith 0#18 x.causes := by
  rw [Conditions.raisedWith, BitVec.or_zero]

/-! ### A context that aborts (R90, R95, R142) -/

theorem State.orphanAll_slots {s t : State} (h : s.slots = t.slots) (l : List Nat) :
    (s.orphanAll l).slots = (t.orphanAll l).slots := by
  induction l generalizing s t with
  | nil => exact h
  | cons k rest ih =>
    refine ih ?_
    unfold State.setSlot State.slot
    rw [h]

/-- The entries of a list from the oldest failed one on. -/
def failedOn (failed : PendingWrite → Bool) (l : List PendingWrite) : List PendingWrite :=
  l.dropWhile (fun e => !failed e)

/-- The media tags of the writes that are sent with a failed one or after it. -/
def sentBehind (failed : PendingWrite → Bool) (l : List PendingWrite) : List Nat :=
  ((failedOn failed l).filter (fun e => !failed e)).filterMap PendingWrite.mediaTag

/-- A request of context c for one of a list of its pending writes. -/
def WriteContext.askedFor (w : WriteContext) (c : Nat) (l : List PendingWrite) (r : Request) : Bool :=
  decide (r.owner = .write c) && l.any (fun e => decide (w.command e = r.command))

/-- The failed entry of an Aborting context and every newer one leave its list, their requests and their slots. -/
theorem failAborting_eq (c : Nat) (failed : PendingWrite → Bool) (w : WriteContext) (s : State) :
    failAborting c failed w s =
      settleAborting c
        { w with
          outcome := w.outcome ||| Cond.mediaFault.bit, pending := w.pending.takeWhile (fun e => !failed e) }
        { s with
          slots := (s.orphanAll (sentBehind failed w.pending)).slots
          arbiter := { s.arbiter with
            write := s.arbiter.write.filter (fun r => !w.askedFor c (failedOn failed w.pending) r) }
          conditions := (s.raise w.op .mediaFault).conditions } := by
  let a := (s.raise w.op .mediaFault).withdraw .write (w.askedFor c (failedOn failed w.pending))
  have hslots : (a.orphanAll (sentBehind failed w.pending)).slots = (s.orphanAll (sentBehind failed w.pending)).slots :=
    State.orphanAll_slots (s := a) (t := s) rfl _
  have hdropped := a.orphanAll_eq (sentBehind failed w.pending)
  rw [hslots] at hdropped
  exact congrArg (settleAborting c _) hdropped

/-- A step that raised flags stores or frees an Aborting context that its initiator hears, and ends. -/
theorem settleAborting_ends {s v : State} {c : Nat} {w : WriteContext} {raised : CondSet} {causes : List Cause}
    (hs : s.settled) (hc : c < 32) (hw : v.canonical) (hnow : v.now = s.now)
    (hv : v.conditions = s.conditions.raisedWith raised causes) (hears : v.hears w) (hroom : v.txQueue.length < 2048) :
    let t := (settleAborting c w v).endStep
    ∃ notices : List Frame, notices.length ≤ 1 ∧ t.conditions.accrued = s.conditions.accrued ||| raised ∧
      (∀ d, d ≠ c → t.context d = v.context d) ∧
      (w.pending ≠ [] →
        t.context c = .write w ∧ t.volumes = v.volumes ∧ s.completesNothing t ∧ t.txQueue = v.txQueue ++ notices) ∧
      (w.pending = [] →
        t.context c = .free ∧ v.clears t c w ∧ s.reports t w.op w.outcome ∧
          t.txQueue = v.txQueue ++ w.terminations ++ notices) ∧
      t = { v with
        volumes := t.volumes, contexts := t.contexts, conditions := t.conditions, txQueue := t.txQueue } := by
  by_cases hp : w.pending = []
  · have hfree : settleAborting c w v = freeAborting c w v := if_pos hp
    have hfrees := freeWrite_frees hs hc hw hnow hv w w.terminations
    rw [← freeAborting_heard hears hroom, ← hfree] at hfrees
    obtain ⟨notices, hlen, htx⟩ := hfrees.placed
    exact ⟨notices, hlen, hfrees.accrued, hfrees.other, fun hne => absurd hp hne,
      fun _ => ⟨hfrees.own, hfrees.clears, hfrees.reports, htx⟩, hfrees.frame⟩
  · have hput : settleAborting c w v = v.putWrite c w := if_neg hp
    rw [hput]
    obtain ⟨haccrued, hnothing, notices, hlen, htx, ht⟩ := raisedWith_endStep (v := v.putWrite c w) hs hv
    obtain ⟨hown, hother⟩ := State.context_of_set (s := v) (t := (v.putWrite c w).endStep) (x := .write w) hc
      (congrArg State.contexts ht :)
    have hvolumes : (v.putWrite c w).endStep.volumes = v.volumes := (congrArg State.volumes ht :)
    have hcontexts : (v.putWrite c w).endStep.contexts = (v.putWrite c w).contexts :=
      (congrArg State.contexts ht :)
    refine ⟨notices, hlen, haccrued, hother, fun _ => ⟨hown, hvolumes, hnothing, htx⟩, fun hnil => absurd hnil hp, ?_⟩
    rw [hvolumes, hcontexts]
    exact ht

/-! ### A context that is Faulted (R148 to R150, R154) -/

/-- The list of a context whose write with a media tag has failed: that entry waits for no answer (R90; log 21). -/
def untagged (tag : Nat) (l : List PendingWrite) : List PendingWrite :=
  l.map (fun e => if e.mediaTag = some tag then { e with mediaTag := none } else e)

theorem clearFailed_eq (tag : Nat) (l : List PendingWrite) :
    clearFailed (fun e => decide (e.mediaTag = some tag)) l = untagged tag l := by
  simp [clearFailed, untagged]

/-- The Faulted context that a failed write leaves of a context that does not abort (R148, R149, R154). -/
def WriteContext.afterFault (w : WriteContext) (tag : Nat) : WriteContext :=
  { w with
    state := .faulted, credit := if w.state = .faulted then w.credit else 0
    idle := if w.state = .faulted then w.idle else none, outcome := w.outcome ||| Cond.mediaFault.bit
    pending := untagged tag w.pending }

theorem WriteContext.afterFault_new {w : WriteContext} (h : w.state ≠ .faulted) (tag : Nat) :
    w.afterFault tag =
      { w with
        state := .faulted, credit := 0, idle := none, outcome := w.outcome ||| Cond.mediaFault.bit
        pending := untagged tag w.pending } := by
  rw [WriteContext.afterFault, if_neg h, if_neg h]

theorem WriteContext.afterFault_again {w : WriteContext} (h : w.state = .faulted) (tag : Nat) :
    w.afterFault tag =
      { w with outcome := w.outcome ||| Cond.mediaFault.bit, pending := untagged tag w.pending } := by
  rw [WriteContext.afterFault, if_pos h, if_pos h, ← h]

/-- The Arbiter without the requests of a write context that wait. -/
def Arbiter.withoutWrites (a : Arbiter) (c : Nat) : Arbiter :=
  { a with write := a.write.filter (fun r => !decide (r.owner = .write c)) }

/-- A Streaming or Draining context that fails takes the Free record found for it. -/
theorem failLive_recorded {s : State} {r : Nat} {w : WriteContext} (h : s.freeRecord = some r)
    (hst : w.state ≠ .faulted) (c : Nat) (kind : FaultKind) (cont : Continuation) (tag : Nat) :
    failLive c kind cont (fun e => decide (e.mediaTag = some tag)) w s =
      settleFaulted c (w.afterFault tag)
        { s with
          arbiter := s.arbiter.withoutWrites c
          records := Table.set1 s.records r (some (FaultRecord.fresh c w kind cont s.now))
          conditions := (s.raise w.op .mediaFault).conditions } := by
  simp only [failLive, h, clearFailed_eq, WriteContext.afterFault_new hst]
  rfl

/-- With no record Free the context passes to Aborting, FAULT_LOST (R148). -/
theorem failLive_lost {s : State} {w : WriteContext} (h : s.freeRecord = none) (hfatal : w.fatal = none) (c : Nat)
    (kind : FaultKind) (cont : Continuation) (failed : PendingWrite → Bool) :
    failLive c kind cont failed w s =
      failAborting c failed
        { w with
          state := .aborting, idle := none, fatal := some .faultLost, outcome := w.outcome ||| Cond.faultLost.bit }
        (s.raise w.op .faultLost) := by
  simp only [failLive, h, raiseFor, hfatal]
  rfl

/-- A failed reissue returns its record to Held (R154). -/
theorem failReissuing_recorded {s : State} {c r : Nat} {x : FaultRecord} {w : WriteContext} (ho : s.recordOf c = some r)
    (hr : s.record r = some x) (hst : w.state ≠ .faulted) (kind : FaultKind) (tag : Nat) :
    failReissuing c kind (fun e => decide (e.mediaTag = some tag)) w s =
      settleFaulted c (w.afterFault tag)
        { s with
          arbiter := s.arbiter.withoutWrites c
          records := Table.set1 s.records r (some { x with state := .held, settled := false, kind := kind })
          conditions := (s.raise w.op .mediaFault).conditions } := by
  have ho' : (((s.raise w.op .mediaFault).withdrawWrites c).recordOf c) = some r := ho
  have hr' : (((s.raise w.op .mediaFault).withdrawWrites c).record r) = some x := hr
  simp only [failReissuing, raiseFor, clearFailed_eq, ho', hr', WriteContext.afterFault_new hst]
  rfl

/-- A failure in Faulted changes neither the record nor the requests that wait (R149). -/
theorem failFaulted_eq {w : WriteContext} (hst : w.state = .faulted) (c tag : Nat) (s : State) :
    failFaulted c (fun e => decide (e.mediaTag = some tag)) w s =
      settleFaulted c (w.afterFault tag) { s with conditions := (s.raise w.op .mediaFault).conditions } := by
  simp only [failFaulted, raiseFor, clearFailed_eq, WriteContext.afterFault_again hst]
  rfl

theorem settleFaulted_eq {w : WriteContext} (h : w.state = .faulted) (c : Nat) (s : State) :
    settleFaulted c w s = settleConfirmed c 0 w s := by rw [settleConfirmed, h]

/-- A record settled in a state whose Map and other records are those of s. -/
theorem State.settles.of_same {s v t : State} {c r : Nat} {x : FaultRecord} {w : WriteContext} {g : Segment}
    (h : v.settles t c r x w g) (hrecord : ∀ k, k ≠ r → v.record k = s.record k) (hvolumes : v.volumes = s.volumes) :
    s.settles t c r x w g := by
  obtain ⟨hown, hother, hctx, hplace, helse⟩ := h
  exact ⟨hown, fun k hk => (hother k hk).trans (hrecord k hk), hctx, hplace,
    fun u m hum => (helse u m hum).trans (State.segment_congr hvolumes u m)⟩

theorem State.recorded_fields (s : State) (c r : Nat) (x : FaultRecord) (w : WriteContext) :
    ∃ volumes contexts records,
      s.recorded c r x w = { s with volumes := volumes, contexts := contexts, records := records } := ⟨_, _, _, rfl⟩

/-- A step that raised flags stores a Faulted context with its record, or settles the record, and ends. -/
theorem settleFaulted_ends {s v : State} {c r : Nat} {x : FaultRecord} {w : WriteContext} {raised : CondSet}
    {causes : List Cause} (hs : s.settled) (hc : c < 32) (hst : w.state = .faulted) (hears : v.hears w)
    (hroom : v.txQueue.length < 2048) (hw : v.canonical) (hn : w.current < (v.volume w.volume).count)
    (ho : v.recordOf c = some r) (hr : v.record r = some x)
    (hres : ∀ p, x.resumer = some p → (v.initiator p.1).state ≠ .absent)
    (hv : v.conditions = s.conditions.raisedWith raised causes) :
    let t := (settleFaulted c w v).endStep
    ∃ notices : List Frame, notices.length ≤ 1 ∧ t.conditions.accrued = s.conditions.accrued ||| raised ∧
      s.completesNothing t ∧ (∀ d, d ≠ c → t.context d = v.context d) ∧
      ((∃ e ∈ w.pending, e.mediaTag ≠ none) →
        t.records = v.records ∧ t.context c = .write w ∧ t.volumes = v.volumes ∧ t.txQueue = v.txQueue ++ notices) ∧
      ((∀ e ∈ w.pending, e.mediaTag = none) →
        v.settles t c r x w (v.segment w.volume w.current) ∧
          t.txQueue = v.txQueue ++ settlingFrames x w r ++ notices) ∧
      t = { v with
        contexts := t.contexts, records := t.records, volumes := t.volumes, conditions := t.conditions
        txQueue := t.txQueue } := by
  rw [settleFaulted_eq hst]
  by_cases hsent : ∃ e ∈ w.pending, e.mediaTag ≠ none
  · rw [settleConfirmed_waiting hst hsent]
    obtain ⟨haccrued, hnothing, notices, hlen, htx, ht⟩ := raisedWith_endStep (v := v.putWrite c w) hs hv
    obtain ⟨hown, hother⟩ := State.context_of_set (s := v) (t := (v.putWrite c w).endStep) (x := .write w) hc
      (congrArg State.contexts ht :)
    generalize (v.putWrite c w).endStep = t at haccrued hnothing htx ht hown hother
    have hrecords : t.records = v.records := (congrArg State.records ht :)
    have hvolumes : t.volumes = v.volumes := (congrArg State.volumes ht :)
    have hcontexts : t.contexts = (v.putWrite c w).contexts := (congrArg State.contexts ht :)
    refine ⟨notices, hlen, haccrued, hnothing, hother, fun _ => ⟨hrecords, hown, hvolumes, htx⟩, fun hnone => ?_, ?_⟩
    · obtain ⟨e, he, htag⟩ := hsent
      exact absurd (hnone e he) htag
    · rw [hrecords, hvolumes, hcontexts]
      exact ht
  · have hnone : ∀ e ∈ w.pending, e.mediaTag = none := fun e he => by_contra fun htag => hsent ⟨e, he, htag⟩
    obtain ⟨hready, hp, hrem, -⟩ := hears
    obtain ⟨volumes, contexts, records, hrecorded⟩ := v.recorded_fields c r x w
    have hplaced := announceSettled_placed (s := v.recorded c r x w) (x := x) (w := w) hready hp hrem hres hroom r
    rw [settleConfirmed_settles hst hnone ho hr, hplaced, hrecorded]
    obtain ⟨haccrued, hnothing, notices, hlen, htx, ht⟩ := raisedWith_endStep
      (v := { v with
        volumes := volumes, contexts := contexts, records := records
        txQueue := v.txQueue ++ settlingFrames x w r
        conditions := { v.conditions with
          causes := v.conditions.causes ++ if x.reissues = 0 then [.faultRecord r] else [] } })
      (raised := raised) (causes := causes ++ if x.reissues = 0 then [.faultRecord r] else []) hs (by rw [hv]; rfl)
    generalize State.endStep _ = t at haccrued hnothing htx ht
    have hrecords : t.records = records := (congrArg State.records ht :)
    have hvolumes : t.volumes = volumes := (congrArg State.volumes ht :)
    have hcontexts : t.contexts = contexts := (congrArg State.contexts ht :)
    obtain ⟨hsettles, hother⟩ := State.recorded_settles (t := t) hc hr hw hn
      (by rw [hrecorded]; exact hvolumes) (by rw [hrecorded]; exact hcontexts) (by rw [hrecorded]; exact hrecords)
    refine ⟨notices, hlen, haccrued, hnothing, hother, fun hany => absurd hany hsent, fun _ => ⟨hsettles, htx⟩, ?_⟩
    rw [hrecords, hvolumes, hcontexts]
    exact ht

/-! ### The fault records (R147, R148) -/

theorem State.freeRecord_some {s : State} {r : Nat} (h1 : 1 ≤ r) (h4 : r ≤ 4) (hfree : s.record r = none)
    (hlower : ∀ k, 1 ≤ k → k < r → s.record k ≠ none) : s.freeRecord = some r := by
  show (List.range' 1 4).find? _ = some r
  rw [List.find?_range'_eq_some]
  refine ⟨by simp [hfree], by rw [List.mem_range'_1]; omega, fun k hk hkr => ?_⟩
  simp [hlower k hk hkr]

theorem State.freeRecord_none {s : State} (h : ∀ k, 1 ≤ k → k ≤ 4 → s.record k ≠ none) : s.freeRecord = none := by
  show (List.range' 1 4).find? _ = none
  rw [List.find?_eq_none]
  intro k hk
  rw [List.mem_range'_1] at hk
  simp [h k (by omega) (by omega)]

/-- The one record that names a context. -/
theorem State.recordOf_some {s : State} {c r : Nat} {x : FaultRecord} (hr : s.record r = some x) (hx : x.context = c)
    (hother : ∀ k y, k ≠ r → s.record k = some y → y.context ≠ c) : s.recordOf c = some r := by
  obtain ⟨h1, h4⟩ := State.record_range hr
  show (List.range' 1 4).find? _ = some r
  rw [List.find?_range'_eq_some]
  refine ⟨by simp [hr, hx], by rw [List.mem_range'_1]; omega, fun k hk hkr => ?_⟩
  cases hy : s.record k with
  | none => simp
  | some y => simp [hother k y (Nat.ne_of_lt hkr) hy]

theorem State.recordOf_congr {s t : State}
    (h : ∀ k, (t.record k).map FaultRecord.context = (s.record k).map FaultRecord.context) (c : Nat) :
    t.recordOf c = s.recordOf c := by
  unfold State.recordOf
  simp only [h]

/-! ### The step of a failed write -/

/-- The step of a failed write after which context c, which stood as w, is Faulted and its record r is x, or x settled;
u is the state once the slot no longer waits (R148 to R150, R154). -/
def State.holdsFault (s u : State) (ev : Instr) (c tag : Nat) (w : WriteContext) (r : Nat) (x : FaultRecord) : Prop :=
  ∃ (t : State) (notices : List Frame), exec ev s = .next t ∧ notices.length ≤ 1 ∧
    t.conditions.accrued = s.conditions.accrued ||| Cond.mediaFault.bit ∧ s.completesNothing t ∧
    (w.state ≠ .faulted → ∀ q, q ∈ t.arbiter.write ↔ q ∈ s.arbiter.write ∧ q.owner ≠ .write c) ∧
    (w.state = .faulted → t.arbiter = s.arbiter) ∧ (∀ d, d ≠ c → t.context d = s.context d) ∧
    ((∃ e ∈ untagged tag w.pending, e.mediaTag ≠ none) →
      t.record r = some x ∧ (∀ k, k ≠ r → t.record k = s.record k) ∧ t.context c = .write (w.afterFault tag) ∧
      t.volumes = s.volumes ∧ t.txQueue = s.txQueue ++ notices) ∧
    ((∀ e ∈ untagged tag w.pending, e.mediaTag = none) →
      s.settles t c r x (w.afterFault tag) (s.segment w.volume w.current) ∧
      t.txQueue = s.txQueue ++ settlingFrames x (w.afterFault tag) r ++ notices) ∧
    t = { u with
      arbiter := { u.arbiter with write := t.arbiter.write }, contexts := t.contexts, records := t.records
      volumes := t.volumes, conditions := t.conditions, txQueue := t.txQueue }

/-- A failed write whose context settles from a state in which its record is r. -/
theorem State.holdsFault_of_settled {s u v : State} {ev : Instr} {c tag r : Nat} {w : WriteContext} {x : FaultRecord}
    {queue : List Request} {records : Vector (Option FaultRecord) 4} {causes : List Cause} (hs : s.settled)
    (hctx : s.context c = .write w) (hears : s.hears w) (hroom : s.txQueue.length < 2048) (hw : s.canonical)
    (hn : w.current < (s.volume w.volume).count) (hu : s.slotTaken u)
    (hexec : exec ev s = .next (settleFaulted c (w.afterFault tag) v).endStep)
    (hv : v = { u with
      arbiter := { u.arbiter with write := queue }, records := records
      conditions := s.conditions.raisedWith Cond.mediaFault.bit causes })
    (hqueue : queue = if w.state = .faulted then s.arbiter.write
      else s.arbiter.write.filter (fun q => !decide (q.owner = .write c)))
    (hr : v.record r = some x) (hother : ∀ k, k ≠ r → v.record k = s.record k) (ho : v.recordOf c = some r)
    (hres : ∀ p, x.resumer = some p → (s.initiator p.1).state ≠ .absent) : s.holdsFault u ev c tag w r x := by
  obtain ⟨check, slots, rfl⟩ := hu
  obtain ⟨notices, hlen, haccrued, hnothing, hcontext, hwaits, hsettles, ht⟩ := settleFaulted_ends (v := v)
    (w := w.afterFault tag) hs (State.write_lt hctx) rfl (by rw [hv]; exact hears) (by rw [hv]; exact hroom)
    (by rw [hv]; exact hw) (by rw [hv]; exact hn) ho hr (by rw [hv]; exact hres) (by rw [hv])
  generalize (settleFaulted c (w.afterFault tag) v).endStep = t at *
  have harbiter : t.arbiter = { s.arbiter with write := queue } := by rw [ht, hv]
  refine ⟨t, notices, hexec, hlen, haccrued, hnothing, fun hst q => ?_, fun hst => ?_, fun d hd => ?_, fun hany => ?_,
    fun hnone => ?_, ?_⟩
  · rw [harbiter, hqueue, if_neg hst]
    simp
  · rw [harbiter, hqueue, if_pos hst]
  · rw [hcontext d hd, hv]
    rfl
  · obtain ⟨hrecords, hown, hvolumes, htx⟩ := hwaits hany
    have hrecord : ∀ k, t.record k = v.record k := fun k => congrArg (fun l => Table.get1 none l k) hrecords
    exact ⟨(hrecord r).trans hr, fun k hk => (hrecord k).trans (hother k hk), hown, by rw [hvolumes, hv],
      by rw [htx, hv]⟩
  · obtain ⟨hsettled, htx⟩ := hsettles hnone
    have hvolumes : v.volumes = s.volumes := by rw [hv]
    rw [State.segment_congr hvolumes] at hsettled
    exact ⟨hsettled.of_same hother hvolumes, by rw [htx, hv]⟩
  · rw [harbiter]
    rw [hv] at ht
    exact ht

/-- The step of a failed write after which context c, which stood as w, aborts with the flags and the fatal condition
given; u is the state once the slot no longer waits (R90, R95, R142, R148). -/
def State.abortsFault (s u : State) (ev : Instr) (c tag : Nat) (w : WriteContext) (raised : CondSet)
    (fatal : Option Code) : Prop :=
  let kept := w.pending.takeWhile (fun e => decide (e.mediaTag ≠ some tag))
  let gone := w.pending.dropWhile (fun e => decide (e.mediaTag ≠ some tag))
  ∃ (t : State) (notices : List Frame), exec ev s = .next t ∧ notices.length ≤ 1 ∧
    t.conditions.accrued = s.conditions.accrued ||| raised ∧
    (∀ q, q ∈ t.arbiter.write ↔
      q ∈ s.arbiter.write ∧ ¬ (q.owner = .write c ∧ ∃ e ∈ gone, q.command = w.command e)) ∧
    (∀ e ∈ gone, ∀ k command cls owner timer, e.mediaTag = some k → u.slot k = .busy command cls owner timer →
      t.slot k = .busy command cls none timer) ∧
    (∀ k, (∀ e ∈ gone, e.mediaTag = some k → k = tag) → t.slot k = u.slot k) ∧
    (∀ d, d ≠ c → t.context d = s.context d) ∧
    (kept ≠ [] →
      t.context c =
        .write
          { w with
            state := .aborting, idle := if w.state = .aborting then w.idle else none, fatal := fatal
            outcome := w.outcome ||| raised, pending := kept } ∧
      t.volumes = s.volumes ∧ s.completesNothing t ∧ t.txQueue = s.txQueue ++ notices) ∧
    (kept = [] →
      t.context c = .free ∧ s.clears t c w ∧ s.reports t w.op (w.outcome ||| raised) ∧
      t.txQueue =
        s.txQueue ++
          (match fatal with
           | some code => [terminationFrame w code]
           | none => []) ++ notices) ∧
    t = { u with
      slots := t.slots, arbiter := { u.arbiter with write := t.arbiter.write }, contexts := t.contexts
      volumes := t.volumes, conditions := t.conditions, txQueue := t.txQueue }

theorem WriteContext.askedFor_iff (w : WriteContext) (c : Nat) (l : List PendingWrite) (q : Request) :
    w.askedFor c l q = true ↔ q.owner = .write c ∧ ∃ e ∈ l, q.command = w.command e := by
  simp only [WriteContext.askedFor, Bool.and_eq_true, decide_eq_true_eq, List.any_eq_true, eq_comm (a := q.command)]

theorem mem_sentBehind {tag k : Nat} {l : List PendingWrite} :
    k ∈ sentBehind (fun e => decide (e.mediaTag = some tag)) l ↔
      k ≠ tag ∧ ∃ e ∈ failedOn (fun e => decide (e.mediaTag = some tag)) l, e.mediaTag = some k := by
  unfold sentBehind
  simp only [List.mem_filterMap, List.mem_filter, Bool.not_eq_true', decide_eq_false_iff_not]
  constructor
  · rintro ⟨e, ⟨he, hne⟩, hk⟩
    exact ⟨fun h => hne (h ▸ hk), e, he, hk⟩
  · rintro ⟨hne, e, he, hk⟩
    exact ⟨e, ⟨he, fun h => hne (Option.some.inj (hk.symm.trans h))⟩, hk⟩

/-- A failed write whose context is taken as Aborting, in a Condition Unit that has raised flags. -/
theorem State.abortsFault_of_failAborting {s u : State} {ev : Instr} {c tag : Nat} {w : WriteContext} {raised : CondSet}
    {causes : List Cause} {fatal : Option Code} (hs : s.settled) (hctx : s.context c = .write w) (hears : s.hears w)
    (hroom : s.txQueue.length < 2048) (hw : s.canonical) (hu : s.slotTaken u)
    (hslot : u.slot tag = .free ∨ u.slot tag = .busyLate) {z : State} {y : WriteContext}
    (hexec : exec ev s = .next (failAborting c (fun e => decide (e.mediaTag = some tag)) y z).endStep)
    (hz : z = { u with conditions := s.conditions.raisedWith raised causes })
    (hy : y = { w with
      state := .aborting, idle := if w.state = .aborting then w.idle else none, fatal := fatal
      outcome := w.outcome ||| raised }) :
    s.abortsFault u ev c tag w (raised ||| Cond.mediaFault.bit) fatal := by
  let failed := fun e : PendingWrite => decide (e.mediaTag = some tag)
  let kept := w.pending.takeWhile (fun e => decide (e.mediaTag ≠ some tag))
  let gone := w.pending.dropWhile (fun e => decide (e.mediaTag ≠ some tag))
  have hfn : (fun e => !failed e) = fun e => decide (e.mediaTag ≠ some tag) := by
    funext e
    simp [failed]
  have hgone : failedOn failed w.pending = gone := by rw [failedOn, hfn]
  obtain ⟨more, hraised⟩ : ∃ more, (z.raise y.op .mediaFault).conditions =
      s.conditions.raisedWith (raised ||| Cond.mediaFault.bit) more :=
    ⟨_, State.raise_raisedWith (congrArg State.conditions hz) y.op .mediaFault⟩
  have hslots : (z.orphanAll (sentBehind failed w.pending)).slots = (u.orphanAll (sentBehind failed w.pending)).slots :=
    State.orphanAll_slots (by rw [hz]) _
  let left : WriteContext := { w with
    state := .aborting, idle := if w.state = .aborting then w.idle else none, fatal := fatal
    outcome := w.outcome ||| (raised ||| Cond.mediaFault.bit), pending := kept }
  let v : State := { u with
    slots := (u.orphanAll (sentBehind failed w.pending)).slots
    arbiter := { u.arbiter with write := u.arbiter.write.filter (fun r => !w.askedFor c gone r) }
    conditions := s.conditions.raisedWith (raised ||| Cond.mediaFault.bit) more }
  have hfailed : failAborting c failed y z = settleAborting c left v := by
    have hpending : y.pending = w.pending := by rw [hy]
    rw [failAborting_eq, hraised, hfn, hpending, hslots, hgone, hy, BitVec.or_assoc]
    simp only [hz]
    rfl
  obtain ⟨check, slots, rfl⟩ := hu
  obtain ⟨notices, hlen, haccrued, hother, hkept, hfreed, ht⟩ := settleAborting_ends (v := v) (w := left) hs
    (State.write_lt hctx) hw rfl rfl hears hroom
  rw [← hfailed] at haccrued hother hkept hfreed ht
  generalize (failAborting c failed y z).endStep = t at *
  have hkeptSlots : t.slots = v.slots := (congrArg State.slots ht :)
  have harbiter : t.arbiter = v.arbiter := (congrArg State.arbiter ht :)
  have hslot' : ∀ k, t.slot k = _ := fun k =>
    (congrArg (fun l => Table.get Slot.free l k) hkeptSlots).trans (State.orphanAll_slot _ _ k)
  refine ⟨t, notices, hexec, hlen, haccrued, fun q => ?_, fun e he k command cls owner timer hk hbusy => ?_, fun k hk => ?_,
    hother, hkept, fun hnil => ?_, ?_⟩
  · rw [harbiter]
    refine List.mem_filter.trans (and_congr_right fun _ => ?_)
    rw [← WriteContext.askedFor_iff, Bool.not_eq_true', Bool.not_eq_true]
  · have hbehind : k ∈ sentBehind failed w.pending := by
      refine mem_sentBehind.mpr ⟨fun hkt => ?_, e, hgone.symm.subst (motive := (e ∈ ·)) he, hk⟩
      rw [← hkt, hbusy] at hslot
      simp at hslot
    rw [hslot', if_pos hbehind, hbusy]
    rfl
  · rw [hslot', if_neg fun hbehind => ?_]
    obtain ⟨hne, e, he, hek⟩ := mem_sentBehind.mp hbehind
    exact hne (hk e (hgone.subst (motive := (e ∈ ·)) he) hek)
  · obtain ⟨hown, hclears, hreports, htx⟩ := hfreed hnil
    refine ⟨hown, hclears, hreports, htx.trans ?_⟩
    cases fatal <;> rfl
  · rw [hkeptSlots, harbiter]
    exact ht

theorem writeFails_live {w : WriteContext} (h : w.state = .streaming ∨ w.state = .draining) (c : Nat) (kind : FaultKind)
    (failed : PendingWrite → Bool) (s : State) :
    writeFails c kind failed w s =
      failLive c kind (if w.state = .streaming then .resumeStreaming else .resumeDraining) failed w s := by
  rcases h with h | h <;> simp [writeFails, h]

/-- What a slot taken from its command leaves alone. -/
theorem State.slotTaken.same {s u : State} (h : s.slotTaken u) :
    u.conditions = s.conditions ∧ u.arbiter = s.arbiter ∧ u.records = s.records ∧ u.now = s.now := by
  obtain ⟨check, slots, rfl⟩ := h
  exact ⟨rfl, rfl, rfl, rfl⟩

/-- Settles O45, by the state of the context: a record taken, a record kept or Held again, and an Aborting list. -/
theorem writeFailureFaults : Obligations.WriteFailureFaults := by
  intro s u ev tag c timeout w h hctx hw hears hexists hroom kind list g faulted inRecord kept gone aborting
  obtain ⟨hexec, hs, hu, hslot⟩ := h.write hctx
  obtain ⟨hconditions, harbiter, hrecords, hnow⟩ := hu.same
  have hn := State.segmentExists_lt hexists
  have hrecord : ∀ r, u.record r = s.record r := fun r => congrArg (fun l => Table.get1 none l r) hrecords
  have hraise : ∀ cond, ∃ causes, (u.raise w.op cond).conditions = s.conditions.raisedWith cond.bit causes := fun cond =>
    ⟨_, (State.raise_raisedWith (hconditions.trans s.conditions.raisedWith_none) w.op cond).trans
      (by rw [BitVec.zero_or])⟩
  obtain ⟨causes, hraised⟩ := hraise .mediaFault
  refine ⟨fun r hst h1 h4 hnone hlower hothers => ?_, fun r x ho hr hres => ⟨fun hst => ?_, fun hst => ?_⟩,
    fun hst hfull hfatal => ?_, fun hst => ?_⟩
  · have hne : w.state ≠ .faulted := by rcases hst with hst | hst <;> rw [hst] <;> nofun
    have hfree : u.freeRecord = some r := State.freeRecord_some h1 h4 ((hrecord r).trans hnone) fun k hk hkr =>
      hrecord k ▸ hlower k hk hkr
    rw [writeFails_live hst, failLive_recorded hfree hne, hraised, hnow] at hexec
    have hown := Table.get1_set1_same none u.records r
      (some (FaultRecord.fresh c w kind (if w.state = .streaming then .resumeStreaming else .resumeDraining) s.now)) ⟨h1, h4⟩
    have hother := fun k (hk : k ≠ r) => (Table.get1_set1_other none u.records r k
      (some (FaultRecord.fresh c w kind (if w.state = .streaming then .resumeStreaming else .resumeDraining) s.now))
      hk).trans (hrecord k)
    refine State.holdsFault_of_settled hs hctx hears hroom hw hn hu hexec rfl ?_ hown hother ?_ nofun
    · rw [if_neg hne, harbiter]
    · exact State.recordOf_some hown rfl fun k y hk hy => hothers k y ((hother k hk).symm.trans hy)
  · have hfails : ∀ failed, writeFails c kind failed w u = failFaulted c failed w u := fun failed => by
      rw [writeFails, hst]
    rw [hfails, failFaulted_eq hst, hraised] at hexec
    refine State.holdsFault_of_settled (queue := u.arbiter.write) hs hctx hears hroom hw hn hu hexec rfl ?_
      ((hrecord r).trans hr) (fun k _ => hrecord k) ?_ hres
    · rw [if_pos hst, harbiter]
    · exact (State.recordOf_congr (fun k => congrArg _ (hrecord k)) c).trans ho
  · have hne : w.state ≠ .faulted := by rw [hst]; nofun
    have hfails : ∀ failed, writeFails c kind failed w u = failReissuing c kind failed w u := fun failed => by
      rw [writeFails, hst]
    have hof : u.recordOf c = some r := (State.recordOf_congr (fun k => congrArg _ (hrecord k)) c).trans ho
    rw [hfails, failReissuing_recorded hof ((hrecord r).trans hr) hne, hraised] at hexec
    have hown := Table.get1_set1_same none u.records r (some { x with state := .held, settled := false, kind := kind })
      (State.record_range hr)
    have hother := fun k (hk : k ≠ r) => (Table.get1_set1_other none u.records r k
      (some { x with state := .held, settled := false, kind := kind }) hk).trans (hrecord k)
    refine State.holdsFault_of_settled hs hctx hears hroom hw hn hu hexec rfl ?_ hown hother ?_ hres
    · rw [if_neg hne, harbiter]
    · refine (State.recordOf_congr (s := s) (fun k => ?_) c).trans ho
      by_cases hk : k = r
      · rw [hk]
        exact (congrArg (Option.map FaultRecord.context) hown :).trans
          (congrArg (Option.map FaultRecord.context) hr :).symm
      · exact congrArg _ (hother k hk)
  · have hne : w.state ≠ .aborting := by rcases hst with hst | hst <;> rw [hst] <;> nofun
    have hfree : u.freeRecord = none := State.freeRecord_none fun k hk hk4 => hrecord k ▸ hfull k hk hk4
    obtain ⟨lost, hlost⟩ := hraise .faultLost
    rw [writeFails_live hst, failLive_lost hfree hfatal] at hexec
    refine State.abortsFault_of_failAborting hs hctx hears hroom hw hu hslot hexec (by rw [← hlost]; rfl) ?_
    rw [if_neg hne]
  · have hfails : ∀ failed, writeFails c kind failed w u = failAborting c failed w u := fun failed => by
      rw [writeFails, hst]
    rw [hfails] at hexec
    have haborts := State.abortsFault_of_failAborting (raised := 0#18) (causes := s.conditions.causes) (fatal := w.fatal)
      hs hctx hears hroom hw hu hslot hexec (by rw [← s.conditions.raisedWith_none, ← hconditions])
      (by rw [if_pos hst, BitVec.or_zero, ← hst])
    rw [BitVec.zero_or] at haborts
    exact haborts

end Sys2Proof.Machine

end

section
/-! PROOF. A loss of the Ingest Link. -/

namespace Sys2Proof.Machine

/-! ### What a loss of the link does to one context (R98, R109) -/

/-- What a loss of the Ingest Link leaves of a context (R98, R109). -/
def Context.cut : Context → Context
  | .write w =>
    match w.state with
    | .streaming => w.silenced
    | .draining => w.silenced
    | .aborting => .write { w with silent := true }
    | .faulted => .write w
    | .reissuing => .write w
  | .read _ => .free
  | .free => .free

/-- The media tags of the reads of a context that are sent. -/
def Context.sentReads : Context → List Nat
  | .read r => r.list.filterMap ReadEntry.mediaTag
  | .write _ => []
  | .free => []

/-- A write context that ends at once with its link: it takes frames still or drains, with no write left to wait for. -/
abbrev WriteContext.endsNow (w : WriteContext) : Prop := (w.state = .streaming ∨ w.state = .draining) ∧ w.pending = []

/-- Segment m of volume v has for its writer the context c, which ends with the link (R12). -/
def State.losesWriter (s : State) (c v m : Nat) : Prop :=
  ∃ w, s.context c = .write w ∧ w.endsNow ∧ w.worksIn v m ∧ m < (s.volume v).count ∧ (s.segment v m).writer = some c

/-- Between s and t a loss of the Ingest Link has acted on the contexts of a list. -/
structure State.Cuts (s t : State) (l : List Nat) : Prop where
  frame : t = { s with
    contexts := t.contexts, volumes := t.volumes, slots := t.slots
    arbiter := { s.arbiter with read := t.arbiter.read }
    conditions := { s.conditions with last := t.conditions.last } }
  own : ∀ c ∈ l, t.context c = (s.context c).cut
  other : ∀ c, c ∉ l → t.context c = s.context c
  slot : ∀ k, t.slot k = if ∃ c ∈ l, k ∈ (s.context c).sentReads then (s.slot k).orphan else s.slot k
  asked : ∀ q, q ∈ t.arbiter.read ↔ q ∈ s.arbiter.read ∧ ∀ c ∈ l, ∀ r, s.context c = .read r → q.owner ≠ .read c
  canonical : s.canonical → t.canonical
  count : ∀ v, (t.volume v).count = (s.volume v).count
  cleared : s.canonical → ∀ c ∈ l, ∀ v m, s.losesWriter c v m → t.segment v m = { s.segment v m with writer := none }
  uncleared : s.canonical → ∀ v m, (∀ c ∈ l, ¬ s.losesWriter c v m) → t.segment v m = s.segment v m
  quiet : (∀ c ∈ l, ∀ w, s.context c = .write w → w.endsNow → w.outcome = 0#18) →
    (∀ c ∈ l, ∀ r, s.context c = .read r → r.outcome = 0#18) → t.conditions = s.conditions

namespace State.Cuts

variable {s t u : State} {c : Nat}

theorem refl (s : State) : s.Cuts s [] where
  frame := rfl
  own := by simp
  other _ _ := rfl
  slot := by simp
  asked := by simp
  canonical := id
  count _ := rfl
  cleared := by simp
  uncleared _ _ _ _ := rfl
  quiet _ _ := rfl

/-- A context that is no read and does not end at once is given what the loss leaves of it. -/
theorem stored (hread : ∀ r, s.context c ≠ .read r) (hwrite : ∀ w, s.context c = .write w → ¬ w.endsNow)
    (ht : t = { s with contexts := t.contexts }) (hown : t.context c = (s.context c).cut)
    (hother : ∀ d, d ≠ c → t.context d = s.context d) : s.Cuts t [c] := by
  have hsent : (s.context c).sentReads = [] := by
    cases hx : s.context c with
    | read r => exact absurd hx (hread r)
    | write w => rfl
    | free => rfl
  have hlost : ∀ v m, ¬ s.losesWriter c v m := fun v m ⟨w, hw, hends, _⟩ => hwrite w hw hends
  have hvolumes : t.volumes = s.volumes := by rw [ht]
  have hconditions : t.conditions = s.conditions := by rw [ht]
  have harbiter : t.arbiter = s.arbiter := by rw [ht]
  refine ⟨ht.trans ?_, by simpa using hown, by simpa using hother, fun k => ?_, fun q => ?_, fun hw v => ?_, fun v => ?_,
    fun _ d hd v m h => ?_, fun _ v m _ => State.segment_congr hvolumes v m, fun _ _ => hconditions⟩
  · rw [ht]
  · rw [if_neg (by simp [hsent]), ht]
    rfl
  · rw [harbiter]
    simp [hread]
  · rw [State.volume_congr hvolumes]
    exact hw v
  · rw [State.volume_congr hvolumes]
  · exact absurd (List.mem_singleton.mp hd ▸ h) (hlost v m)

/-- A write context that ends at once is freed without a reply. -/
theorem freed {w x : WriteContext} (hc : s.context c = .write w) (hends : w.endsNow)
    (hx : x.outcome = w.outcome ∧ ∀ v m, x.worksIn v m ↔ w.worksIn v m) : s.Cuts (freeWrite c x s) [c] := by
  obtain ⟨houtcome, hworks⟩ := hx
  have hsame : ∀ {y}, s.context c = .write y → y = w := fun hy => by
    have := hy.symm.trans hc
    injection this
  have heq := freeWrite_eq c x s
  have hvolumes : (freeWrite c x s).volumes = (clearWriters x c s).volumes := by rw [heq]
  obtain ⟨hown, hother⟩ := State.context_of_set (s := s) (t := freeWrite c x s) (State.write_lt hc) (by rw [heq])
  have hfree : (s.context c).cut = .free := by
    obtain ⟨hst, hp⟩ := hends
    rw [hc, Context.cut]
    rcases hst with hst | hst <;> rw [hst] <;> exact if_pos hp
  refine ⟨?_, by simpa [hfree] using hown, by simpa using hother, fun k => ?_, fun q => ?_, fun hw v => ?_, fun v => ?_,
    fun hw d hd v m h => ?_, fun hw v m hall => ?_, fun hq _ => ?_⟩
  · rw [heq]
  · rw [if_neg (by simp [hc, Context.sentReads]), heq]
    rfl
  · rw [heq]
    simp [hc]
  · rw [State.volume_congr hvolumes, clearWriters_clearEach]
    exact State.clearEach_canonical hw _ _ _ v
  · rw [State.volume_congr hvolumes, clearWriters_clearEach, State.clearEach_count]
  · rw [List.mem_singleton.mp hd] at h
    obtain ⟨y, hy, -, hin, hm, hwr⟩ := h
    rw [hsame hy] at hin
    rw [State.segment_congr hvolumes, (clearWriters_clears hw x c).1 v m ⟨(hworks v m).mpr hin, hm⟩]
    exact Segment.without_of_eq hwr
  · obtain ⟨hin, hout⟩ := clearWriters_clears hw x c
    rw [State.segment_congr hvolumes]
    by_cases hcase : x.worksIn v m ∧ m < (s.volume v).count
    · rw [hin v m hcase]
      exact Segment.without_of_ne fun hwr =>
        hall c (List.mem_singleton.mpr rfl) ⟨w, hc, hends, (hworks v m).mp hcase.1, hcase.2, hwr⟩
    · exact hout v m hcase
  · have hzero : x.outcome = 0#18 := houtcome.trans (hq c (List.mem_singleton.mpr rfl) w hc hends)
    rw [heq]
    simp only [hzero, if_true]

/-- A read is freed: its waiting entries are withdrawn, and its sent ones answer without an owner. -/
theorem dropped {r : ReadContext} (hc : s.context c = .read r) : s.Cuts (dropRead c r s) [c] := by
  have heq := dropRead_eq c r s
  have hvolumes : (dropRead c r s).volumes = s.volumes := by rw [heq]
  obtain ⟨hown, hother⟩ := State.context_of_set (s := s) (t := dropRead c r s)
    (State.context_lt (s := s) (by rw [hc]; nofun)) (by rw [heq])
  have hlost : ∀ v m, ¬ s.losesWriter c v m := fun v m ⟨w, hw, _⟩ => by
    rw [hc] at hw
    cases hw
  refine ⟨?_, by simpa [hc, Context.cut] using hown, by simpa using hother, fun k => ?_, fun q => ?_, fun hw v => ?_,
    fun v => ?_, fun _ d hd v m h => ?_, fun _ v m _ => State.segment_congr hvolumes v m, fun _ hq => ?_⟩
  · rw [heq]
  · rw [heq]
    simp only [List.mem_singleton, exists_eq_left, hc, Context.sentReads]
    exact s.orphanAll_slot _ k
  · rw [heq]
    simp [hc]
  · rw [State.volume_congr hvolumes]
    exact hw v
  · rw [State.volume_congr hvolumes]
  · exact absurd (List.mem_singleton.mp hd ▸ h) (hlost v m)
  · have hzero : r.outcome = 0#18 := hq c (List.mem_singleton.mpr rfl) r hc
    rw [heq]
    simp only [hzero, if_true]

/-- The loss acts on further contexts after one. -/
theorem cons {l : List Nat} (hc : c ∉ l) (h : s.Cuts t [c]) (k : t.Cuts u l) : s.Cuts u (c :: l) := by
  have hhead : c ∈ [c] := List.mem_singleton.mpr rfl
  have hsame : ∀ d ∈ l, t.context d = s.context d := fun d hd =>
    h.other d fun hdc => hc (List.mem_singleton.mp hdc ▸ hd)
  have hlost : s.canonical → ∀ d ∈ l, ∀ v m, ¬ s.losesWriter c v m → (t.losesWriter d v m ↔ s.losesWriter d v m) :=
    fun hw d hd v m hno => by
      have hsegment := h.uncleared hw v m fun e he => List.mem_singleton.mp he ▸ hno
      rw [State.losesWriter, State.losesWriter, hsame d hd, h.count, hsegment]
  refine ⟨?_, fun d hd => ?_, fun d hd => ?_, fun n => ?_, fun q => ?_, fun hw => k.canonical (h.canonical hw),
    fun v => (k.count v).trans (h.count v), fun hw d hd v m hdv => ?_, fun hw v m hall => ?_, fun hq hr => ?_⟩
  · rw [k.frame, h.frame]
  · rcases List.mem_cons.mp hd with rfl | hd
    · exact (k.other d hc).trans (h.own d hhead)
    · rw [k.own d hd, hsame d hd]
  · obtain ⟨hne, hd⟩ := not_or.mp (mt List.mem_cons.mpr hd)
    exact (k.other d hd).trans (h.other d fun hdc => hne (List.mem_singleton.mp hdc))
  · have hlater : (∃ d ∈ l, n ∈ (t.context d).sentReads) ↔ ∃ d ∈ l, n ∈ (s.context d).sentReads :=
      exists_congr fun d => and_congr_right fun hd => by rw [hsame d hd]
    rw [k.slot, h.slot]
    simp only [List.mem_cons, exists_eq_or_imp, hlater]
    by_cases hfirst : n ∈ (s.context c).sentReads <;> by_cases hrest : ∃ d ∈ l, n ∈ (s.context d).sentReads <;>
      simp [hfirst, hrest, Slot.orphan_idem]
  · rw [k.asked, h.asked, and_assoc, List.forall_mem_singleton, List.forall_mem_cons]
    refine and_congr_right fun _ => and_congr_right fun _ => forall₂_congr fun d hd => ?_
    rw [hsame d hd]
  · by_cases hfirst : s.losesWriter c v m
    · have hclear := h.cleared hw c hhead v m hfirst
      rw [← hclear]
      refine k.uncleared (h.canonical hw) v m fun e _ ⟨_, _, _, _, _, hwr⟩ => ?_
      rw [hclear] at hwr
      cases hwr
    · rcases List.mem_cons.mp hd with rfl | hd
      · exact absurd hdv hfirst
      · rw [k.cleared (h.canonical hw) d hd v m ((hlost hw d hd v m hfirst).mpr hdv),
          h.uncleared hw v m fun e he => List.mem_singleton.mp he ▸ hfirst]
  · have hno := hall c List.mem_cons_self
    rw [k.uncleared (h.canonical hw) v m fun d hd => (hlost hw d hd v m hno).not.mpr
        (hall d (List.mem_cons_of_mem _ hd))]
    exact h.uncleared hw v m fun e he => List.mem_singleton.mp he ▸ hno
  · rw [List.forall_mem_cons] at hq hr
    have hfirst := h.quiet (by simpa using hq.1) (by simpa using hr.1)
    rw [← hfirst]
    exact k.quiet (fun d hd => hsame d hd ▸ hq.2 d hd) fun d hd => hsame d hd ▸ hr.2 d hd

end State.Cuts

/-- A loss of the link acts on one context. -/
theorem dropContext_cuts (c : Nat) (s : State) : s.Cuts (dropContext c s) [c] := by
  unfold dropContext
  split
  · next w hc =>
    have hread : ∀ r, s.context c ≠ .read r := by simp [hc]
    have hwrite : ¬ w.endsNow → ∀ y, s.context c = .write y → ¬ y.endsNow := fun hno y hy => by
      injection hc.symm.trans hy with hwy
      exact hwy ▸ hno
    have hput : ∀ x : WriteContext, ¬ w.endsNow → (Context.write w).cut = .write x → s.Cuts (s.putWrite c x) [c] :=
      fun x hno hx => by
        obtain ⟨hown, hother⟩ := State.context_of_set (s := s) (t := s.putWrite c x) (x := .write x) (State.write_lt hc) rfl
        exact .stored hread (hwrite hno) rfl (by rw [hown, hc, hx]) hother
    have hends : w.state = .streaming ∨ w.state = .draining →
        s.Cuts (abortWrite c { w with silent := true } s) [c] := fun hst => by
      unfold abortWrite settleAborting
      split
      · next hp => exact .freed hc ⟨hst, hp⟩ ⟨rfl, fun _ _ => Iff.rfl⟩
      · next hp =>
        refine hput _ (fun hno => hp hno.2) ?_
        rw [Context.cut]
        rcases hst with hst | hst <;> rw [hst] <;> exact if_neg hp
    split
    · next hst => exact hends (.inl hst)
    · next hst => exact hends (.inr hst)
    · next hst => exact hput _ (by simp [hst]) (by rw [Context.cut, hst])
    · next hst => exact .stored hread (hwrite (by simp [hst])) rfl (by rw [hc, Context.cut, hst]) fun _ _ => rfl
    · next hst => exact .stored hread (hwrite (by simp [hst])) rfl (by rw [hc, Context.cut, hst]) fun _ _ => rfl
  · next r hc => exact .dropped hc
  · next hc => exact .stored (by simp [hc]) (by simp [hc]) rfl (by rw [hc]; rfl) fun _ _ => rfl

/-- A loss of the link acts on the contexts in turn (log 41). -/
theorem eachContext_cuts {l : List Nat} (hl : l.Nodup) (s : State) : s.Cuts (eachContext dropContext l s) l := by
  induction l generalizing s with
  | nil => exact .refl s
  | cons c rest ih =>
    obtain ⟨hc, hrest⟩ := List.nodup_cons.mp hl
    exact .cons hc (dropContext_cuts c s) (ih hrest _)

/-! ### The whole step (R133, R156, R185) -/

section

variable {s u : State} (h : s.Cuts u (List.range 32))
include h

theorem State.Cuts.every_context (c : Nat) : u.context c = (s.context c).cut := by
  by_cases hc : s.context c = .free
  · by_cases hlist : c ∈ List.range 32
    · exact h.own c hlist
    · rw [h.other c hlist, hc]
      rfl
  · exact h.own c (State.listed hc)

/-- Every read is dropped (R109, R142). -/
theorem State.Cuts.dropsReads : s.dropsReads u (fun _ => True) := by
  refine ⟨fun c r hr => ⟨fun _ => ?_, fun hno => absurd trivial hno⟩,
    fun c r hr _ e he k command cls owner timer hk hbusy => ?_, fun k hk => ?_, fun q => ?_, ?_⟩
  · rw [h.every_context, hr]
    rfl
  · have hsent : ∃ d ∈ List.range 32, k ∈ (s.context d).sentReads :=
      ⟨c, State.read_listed hr, by rw [hr]; exact List.mem_filterMap.mpr ⟨e, he, hk⟩⟩
    rw [h.slot, if_pos hsent, hbusy]
    rfl
  · rw [h.slot]
    split
    · next hsent =>
      obtain ⟨c, -, hkc⟩ := hsent
      refine Slot.orphan_of_idle (hk.resolve_left fun hnone => ?_)
      cases hx : s.context c with
      | read r =>
        rw [hx] at hkc
        obtain ⟨e, he, htag⟩ := List.mem_filterMap.mp hkc
        exact hnone c r hx trivial e he htag
      | write _ | free => simp [hx, Context.sentReads] at hkc
    · rfl
  · refine (h.asked q).trans (and_congr_right fun _ => ⟨?_, fun hno c _ r hr hq => hno ⟨c, r, hq, hr, trivial⟩⟩)
    rintro hall ⟨c, r, hq, hr, -⟩
    exact hall c (State.read_listed hr) r hr hq
  · exact (congrArg State.arbiter h.frame :)

/-- The transfers end without a condition of their own (R78, R174). -/
theorem State.Cuts.endsQuietly : s.endsQuietly u (fun _ => True) :=
  ⟨(congrArg State.conditions h.frame :), fun hwrites hreads =>
    h.quiet (fun c _ w hc hends => hwrites c w hc trivial hends.1 hends.2) fun c _ r hc => hreads c r hc trivial⟩

/-- The writers that name the contexts freed are cleared, and no other (R12). -/
theorem State.Cuts.clearsFreed (hw : s.canonical) : s.clearsFreed u WriteContext.endsNow := by
  refine ⟨fun c w v m hc hends hin hm hwr => ?_, fun c w v m hc hends hin hm hwr => ?_, fun v m hall => ?_⟩
  · exact h.cleared hw c (State.write_listed hc) v m ⟨w, hc, hends, hin, hm, hwr⟩
  · by_cases hany : ∃ d ∈ List.range 32, s.losesWriter d v m
    · obtain ⟨d, hd, hlost⟩ := hany
      rw [h.cleared hw d hd v m hlost] at hwr
      cases hwr
    · have hnone : ∀ d ∈ List.range 32, ¬ s.losesWriter d v m := fun d hd hlost => hany ⟨d, hd, hlost⟩
      rw [h.uncleared hw v m hnone] at hwr
      exact hnone c (State.write_listed hc) ⟨w, hc, hends, hin, hm, hwr⟩
  · exact h.uncleared hw v m fun c _ ⟨w, hc, hends, hin, hm, hwr⟩ => hall c w hc hends hin hm hwr

end

/-- The state in which the loss acts on the contexts: the link is Lost and both queues are empty (R185). -/
def State.unlinked (s : State) : State :=
  { s with ingestLink := .lost, ingestCheck := FrameCheck.cleared, rxQueue := [], txQueue := [] }

/-- The state after a loss of the link, with what it leaves in u of the contexts. -/
def State.linkLost (s u : State) : State :=
  { s.unlinked with
    contexts := u.contexts, volumes := u.volumes, slots := u.slots
    arbiter := { s.arbiter with read := u.arbiter.read }
    conditions := { s.conditions with last := u.conditions.last }
    eraseQueue := s.eraseQueue.map (fun e => { e with requester := none })
    records := s.records.map (fun r => r.map (fun x => { x with resumer := none }))
    collection := none }

/-- The event of a loss of a Ready Ingest Link. -/
theorem exec_ingestLinkReset {s : State} (hon : s.takesEvents = true) (hl : s.ingestLink = .ready) :
    ∃ u, s.unlinked.Cuts u (List.range 32) ∧ exec .ingestLinkReset s = .next (s.linkLost u).endStep := by
  have hcuts := eachContext_cuts (List.nodup_range (n := 32)) s.unlinked
  refine ⟨_, hcuts, congrArg Host.Outcome.next ((onEvent_on s _ hon).trans (congrArg State.endStep ?_))⟩
  have hlost : ingestLost s =
      { ((eachContext dropContext (List.range 32) s.unlinked).dropRequesters (fun _ => none)).dropResumers
        (fun _ => none) with collection := none } := if_pos hl
  rw [hlost]
  generalize eachContext dropContext (List.range 32) s.unlinked = u at hcuts
  rw [hcuts.frame]
  rfl

/-- Settles O13: the contexts one after the other, then the requesters, the resumers and the collection. -/
theorem ingestLinkLoss : Obligations.IngestLinkLoss := by
  refine ⟨fun s hon hs hl => ?_, fun s t hon hl hw hexec => ?_⟩
  · obtain ⟨u, hcuts, hexec⟩ := exec_ingestLinkReset hon hl
    have hquiet : (s.linkLost u).endStep = s.linkLost u := State.endStep_quiet _ hs
    rw [hquiet] at hexec
    have hcontext : ∀ c, (s.linkLost u).context c = (s.context c).cut := hcuts.every_context
    obtain ⟨hreads, horphaned, hslots, hasked, -⟩ := hcuts.dropsReads
    obtain ⟨-, hsilent⟩ := hcuts.endsQuietly
    refine ⟨_, hexec, fun c w hc hst => ?_, fun c w hc hst => ?_, fun c w hc hst => ?_, fun c hc => ?_,
      ⟨hreads, horphaned, hslots, hasked, rfl⟩, rfl, fun r => ?_, ⟨rfl, fun hwrites hreads => ?_⟩, rfl⟩
    · rw [hcontext, hc, Context.cut]
      rcases hst with hst | hst <;> rw [hst]
    · rw [hcontext, hc, Context.cut, hst]
    · rw [hcontext, hc, Context.cut]
      rcases hst with hst | hst <;> rw [hst]
    · rw [hcontext, hc]
      rfl
    · exact Table.get1_map _ rfl s.records r
    · show ({ s.conditions with last := u.conditions.last } : Conditions) = s.conditions
      rw [hsilent hwrites hreads]
      rfl
  · obtain ⟨u, hcuts, hlost⟩ := exec_ingestLinkReset hon hl
    have ht : t = (s.linkLost u).endStep := by
      injection hexec.symm.trans hlost
    have hvolumes : t.volumes = u.volumes := by
      rw [ht, State.endStep_volumes]
      rfl
    obtain ⟨hcleared, hnamed, hkept⟩ := hcuts.clearsFreed hw
    simp only [State.clearsFreed, State.segment_congr hvolumes]
    exact ⟨hcleared, hnamed, hkept⟩

end Sys2Proof.Machine

end

section
/-! SUPPORT. The pieces of a range, and a read context that is stored or ends. -/

namespace Sys2Proof.Machine

/-! ### The pieces of a range (R103, R166) -/

theorem pieces_sum {n start stop : Nat} (h : stop - start ≤ 8 * n) :
    ((pieces n start stop).map Prod.snd).sum = stop - start := by
  induction n generalizing start with
  | zero =>
    rw [pieces, List.map_nil, List.sum_nil]
    omega
  | succ n ih =>
    rw [pieces]
    split
    · rw [List.map_cons, List.sum_cons, ih (by omega)]
      dsimp only
      omega
    · rw [List.map_nil, List.sum_nil]
      omega

theorem pieces_within {n start stop : Nat} :
    ∀ p ∈ pieces n start stop, 1 ≤ p.2 ∧ p.2 ≤ 8 ∧ start ≤ p.1 ∧ p.1 + p.2 ≤ stop := by
  induction n generalizing start with
  | zero => exact fun p hp => absurd hp List.not_mem_nil
  | succ n ih =>
    intro p hp
    rw [pieces] at hp
    split at hp
    · rcases List.mem_cons.mp hp with rfl | hp
      · dsimp only
        omega
      · have := ih p hp
        omega
    · exact absurd hp List.not_mem_nil

theorem pieces_length_le (n start stop : Nat) : (pieces n start stop).length ≤ n := by
  induction n generalizing start with
  | zero => exact Nat.le_refl _
  | succ n ih =>
    rw [pieces]
    split
    · exact Nat.succ_le_succ (ih _)
    · exact Nat.zero_le _

/-- Each piece ends before every later one begins: a piece has at most the 8 blocks by which the next is further on. -/
theorem pieces_pairwise (n start stop : Nat) : (pieces n start stop).Pairwise (fun a b => a.1 + a.2 ≤ b.1) := by
  induction n generalizing start with
  | zero => exact List.Pairwise.nil
  | succ n ih =>
    rw [pieces]
    split
    · refine List.Pairwise.cons (fun p hp => ?_) (ih _)
      have := pieces_within p hp
      dsimp only
      omega
    · exact List.Pairwise.nil

theorem pieces_ne_nil {n start stop : Nat} (h : start < stop) : pieces (n + 1) start stop ≠ [] := by
  rw [pieces, if_pos h]
  nofun

theorem pieces_empty (n start : Nat) : pieces n start start = [] := by
  cases n with
  | zero => rfl
  | succ n => exact if_neg (Nat.lt_irrefl start)

/-! ### A read context stored or completed (R105) -/

theorem settleRead_stored {r : ReadContext} (h : r.list ≠ []) (c : Nat) (s : State) :
    settleRead c r s = s.setContext c (.read r) := if_neg h

/-- A read with an empty list ends: its initiator hears the final reply, and its context is Free (R105). -/
theorem settleRead_ended {r : ReadContext} {s : State} (h : r.list = []) (hl : s.ingestLink = .ready)
    (hp : (s.initiator r.initiator).state ≠ .absent) (hroom : s.txQueue.length < 2048) (c : Nat) :
    settleRead c r s =
      { s with
        contexts := Table.set s.contexts c .free
        txQueue := s.txQueue ++ [finalReadFrame r]
        conditions :=
          { s.conditions with
            last := if r.outcome = 0#18 then s.conditions.last
              else some { op := r.op, outcome := r.outcome, time := s.now } } } := by
  have hheard : (decide (s.ingestLink = .ready) && s.present r.initiator && s.txRoom) = true := by
    have hspace : s.txQueue.length < Config.transmitLimit := hroom
    simp [State.present, State.txRoom, hl, hp, hspace]
  rw [settleRead, if_pos h, completeRead_eq, if_pos hheard]

end Sys2Proof.Machine

end

section
/-! PROOF. An admitted READ and the pieces of its range. -/

namespace Sys2Proof.Machine

/-- What an admitted READ has passed: its sender is Enabled, and it asks for a block at least (R58, R60). -/
theorem judgeRead_none {s : State} {f : Frame} (h : judgeRead s f = none) :
    (s.initiator f.initiator).state = .enabled ∧ 1 ≤ f.count := by
  simp only [judgeRead, firstDenial_eq_none, List.forall_mem_cons, deny_eq_none] at h
  obtain ⟨h1, -, -, h4, -⟩ := h
  simp only [checkReadRange, refuseWhen_eq_none, Bool.or_eq_false_iff, decide_eq_false_iff_not] at h4
  obtain ⟨⟨-, hcount⟩, -⟩ := h4
  exact ⟨enabled_of_check1 (by simp) h1, by omega⟩

theorem State.freeContext_free {s : State} {c : Nat} (h : s.freeContext = some c) : s.context c = .free := by
  simpa using List.find?_some h

theorem readFrame_admitted {s : State} {f : Frame} {rest : List RxFrame} {c : Nat} (ha : s.awaits f rest)
    (hk : f.kind = 4) (hj : judgeRead s f = none) (hc : s.freeContext = some c) :
    exec .readFrame s = .next (admittedRead f c (s.taken rest)).endStep := by
  have hjudge : judgeRead (s.taken rest) f = none := hj
  have hfree : (s.taken rest).freeContext = some c := hc
  refine congrArg Host.Outcome.next ((frameEvent_full 4 takeRead s f rest ha hk).trans ?_)
  simp only [takeRead, hjudge, hfree]

/-- The final reply of a READ that serves no block, though it asks for some: SHORT (R102, R105). -/
theorem finalReadFrame_unserved {s : State} {f : Frame} (h : 1 ≤ f.count) (n : Nat) :
    finalReadFrame (freshRead s f n) =
      { replyFrame f.initiator f.tag f.volume .short with
        segment := n, offset := f.offset, count := 0 }.withPayload (wordsBytes [0]) := by
  have hshort : (if 0 = f.count then Status.done else Status.short) = .short := if_neg (by omega)
  unfold finalReadFrame freshRead
  dsimp only
  rw [hshort]
  rfl

/-- Settles O21: the range that is not empty, stored with its media reads; the empty one, answered at once; the pieces
of any range. -/
theorem readOpensTransfer : Obligations.ReadOpensTransfer := by
  refine ⟨?_, fun n start stop _ hroom =>
    ⟨pieces_sum hroom, pieces_within, pieces_length_le n start stop, pieces_pairwise n start stop⟩⟩
  intro s f rest c ha hk hl hj hc n served list
  obtain ⟨-, hs, -, hroom, -⟩ := id ha
  obtain ⟨hen, hcount⟩ := judgeRead_none hj
  have hlt := State.freeContext_lt hc
  have hexec := readFrame_admitted ha hk hj hc
  let r := freshRead s f n
  let u := (s.taken rest).ask .read (r.requests c)
  have hact : admittedRead f c (s.taken rest) = settleRead c r u := rfl
  have hlist : r.list = (pieces 8 f.offset (f.offset + served)).map waitingEntry := rfl
  refine ⟨fun hpos => ?_, fun hzero => ?_⟩
  · have hsome : r.list ≠ [] := fun h =>
      pieces_ne_nil (Nat.lt_add_of_pos_right hpos) (List.map_eq_nil_iff.mp h)
    have hquiet : (u.setContext c (.read r)).endStep = u.setContext c (.read r) := State.endStep_quiet _ hs
    rw [hact, settleRead_stored hsome, hquiet] at hexec
    exact ⟨_, hexec, State.setContext_context_same u c _ hlt, fun d => State.setContext_context_other u c d _, rfl, rfl⟩
  · have hnone : r.list = [] := by rw [hlist, hzero, Nat.add_zero, pieces_empty, List.map_nil]
    have hpresent : (u.initiator r.initiator).state ≠ .absent := by
      show (s.initiator f.initiator).state ≠ .absent
      rw [hen]
      decide
    have hspace : s.txQueue.length < 2048 := Nat.lt_of_lt_of_le hroom (by decide)
    have hasks : u.arbiter = s.arbiter := by
      have hrequests : r.requests c = [] := by rw [ReadContext.requests, hnone, List.map_nil]
      show s.arbiter.setQueue .read (s.arbiter.read ++ r.requests c) = s.arbiter
      rw [hrequests, List.append_nil]
      rfl
    have hended := settleRead_ended (s := u) hnone hl hpresent hspace c
    rw [finalReadFrame_unserved hcount] at hended
    rw [hact, State.endStep_quiet _ (by rw [hended]; exact hs), hended] at hexec
    refine ⟨_, hexec, fun d => ?_, rfl, hasks⟩
    obtain ⟨hown, hother⟩ := State.context_of_set (s := s) (t := s.setContext c .free) hlt rfl
    by_cases hd : d = c
    · rw [hd, State.freeContext_free hc]
      exact hown
    · exact hother d hd

end Sys2Proof.Machine

end

section
/-! PROOF. COLLECT ACTIVITY, and the examination of one segment. -/

namespace Sys2Proof.Machine

/-! ### COLLECT ACTIVITY (R112) -/

theorem volumeOpen_iff (s : State) (f : Frame) (v : Nat) :
    volumeOpen s f v = true ↔ check2 s (s.initiator f.initiator) v = none := Option.isNone_iff_eq_none

/-- The collection that a request starts, at its real segment. -/
def Frame.collection (f : Frame) (n : Nat) : Collection :=
  { initiator := f.initiator, tag := f.tag, volume := f.param 0, nextSegment := n, entries := [] }

section Judged

variable {s : State} {f : Frame} {n : Nat}

theorem actCollect_noVolume (h : ¬ check2 s (s.initiator f.initiator) (f.param 0) = none) :
    actCollect f n s = refuseControl f .noVolume (some n) s := by
  rw [← volumeOpen_iff, Bool.not_eq_true] at h
  rw [actCollect, h]
  rfl

variable (hv : check2 s (s.initiator f.initiator) (f.param 0) = none)

include hv

theorem actCollect_outOfRange (h : (s.volume (f.param 0)).count ≤ n) :
    actCollect f n s = refuseControl f .outOfRange (some n) s := by
  rw [actCollect, (volumeOpen_iff s f _).mpr hv]
  exact if_pos h

theorem actCollect_busy (h : n < (s.volume (f.param 0)).count) (hc : s.collection ≠ none) :
    actCollect f n s = refuseControl f .busy (some n) s := by
  rw [actCollect, (volumeOpen_iff s f _).mpr hv]
  exact (if_neg (Nat.not_le.mpr h)).trans (if_pos (Option.isSome_iff_ne_none.mpr hc))

theorem actCollect_starts (h : n < (s.volume (f.param 0)).count) (hc : s.collection = none) :
    actCollect f n s = { s with collection := some (f.collection n) } := by
  rw [actCollect, (volumeOpen_iff s f _).mpr hv, hc]
  exact if_neg (Nat.not_le.mpr h)

end Judged

/-- COLLECT ACTIVITY of an officer is carried out on the real segment it names (R56, R57). -/
theorem collectActivity_taken {s : State} {f : Frame} {rest : List RxFrame} (h : s.officerAsks f rest 18) :
    exec .collectActivity s =
      .next (actCollect f ((s.initiator f.initiator).relocate (f.param 0) (f.param 1)) (s.taken rest)).endStep := by
  obtain ⟨ha, hk, hc, -, hen, hofficer, htag⟩ := h
  refine congrArg Host.Outcome.next ((requestEvent_full 18 takeCollect s f rest ha hk hc).trans ?_)
  have hjudge := judgeControl_passes (s.taken rest) f (some (f.param 1))
    (some (((s.taken rest).initiator f.initiator).relocate (f.param 0) (f.param 1))) hen hofficer htag
  simp only [takeCollect, hjudge]
  rfl

/-- COLLECT ACTIVITY of an officer that the Control Unit refuses (R74). -/
theorem collectActivity_refused {s : State} {f : Frame} {rest : List RxFrame} {n : Nat} {code : Code}
    (h : s.officerAsks f rest 18) (hn : n = (s.initiator f.initiator).relocate (f.param 0) (f.param 1))
    (hact : actCollect f n (s.taken rest) = refuseControl f code (some n) (s.taken rest)) :
    exec .collectActivity s = .next (s.answered rest (f.refusal code (some n))) := by
  obtain ⟨⟨-, hs, -, hroom, -⟩, -, -, hl, hen, -, -⟩ := id h
  rw [collectActivity_taken h, ← hn, hact, refuseControl_answered s f rest code _ hl hen hroom]
  exact congrArg Host.Outcome.next (State.endStep_quiet _ hs)

/-! ### The examination of one segment (R113) -/

/-- The reply of a collection that stops, with its entries and its resume segment (R113). -/
def Collection.reply (x : Collection) (resume : Option Nat) : Frame :=
  controlReply x.initiator x.tag 18 .done
    ([x.entries.length] ++ x.entries.map ActivityEntry.word ++ [optionWord resume])

/-- A collection that has examined the segment at which it stands, whose descriptor is g. -/
def Collection.examined (x : Collection) (g : Segment) : Collection :=
  { x with nextSegment := x.nextSegment + 1, entries := x.entries ++ activityOf x.nextSegment g }

/-- The Map once the two flags of the segment at which a collection stands are cleared (R113). -/
def State.activityTaken (s : State) (x : Collection) : State :=
  s.putSegment x.volume x.nextSegment
    { s.segment x.volume x.nextSegment with readSince := false, writtenSince := false }

theorem stopCollection_heard {x : Collection} {s : State} (hl : s.ingestLink = .ready)
    (hp : (s.initiator x.initiator).state ≠ .absent) (hroom : s.txQueue.length < 2048) (resume : Option Nat) :
    stopCollection x resume s = { s with collection := none, txQueue := s.txQueue ++ [x.reply resume] } :=
  State.send_placed { s with collection := none } (x.reply resume) hl hp hroom

theorem collectionExamine_quiet {s t : State} (hon : s.takesEvents = true) (hs : t.settled) (h : examine s = t) :
    exec .collectionExamine s = .next t := by
  have hact : onEvent s examine = t := by rw [onEvent_quiet s examine hon (by rw [h]; exact hs), h]
  exact congrArg Host.Outcome.next hact

theorem examine_beyond {s : State} {x : Collection} (hx : s.collection = some x)
    (he : s.segmentExists x.volume x.nextSegment = false) : examine s = stopCollection x none s := by
  simp only [examine, hx, he, Bool.false_eq_true, if_false]

/-- A collection whose next segment exists: the last of its volume or the entry 256 stops it (R113). -/
theorem examine_stands {s : State} {x : Collection} (hx : s.collection = some x)
    (he : s.segmentExists x.volume x.nextSegment = true) :
    examine s =
      if (s.volume x.volume).count ≤ x.nextSegment + 1 then
        stopCollection (x.examined (s.segment x.volume x.nextSegment)) none (s.activityTaken x)
      else if 256 ≤ (x.examined (s.segment x.volume x.nextSegment)).entries.length then
        stopCollection (x.examined (s.segment x.volume x.nextSegment)) (some (x.nextSegment + 1)) (s.activityTaken x)
      else { s.activityTaken x with collection := some (x.examined (s.segment x.volume x.nextSegment)) } := by
  have hcount : ((s.activityTaken x).volume x.volume).count = (s.volume x.volume).count :=
    (s.putSegment_count _ _ _ _).1
  simp only [examine, hx, he, if_true, ← hcount, examineNext, decide_eq_true_eq]
  rfl

/-- Settles O42: the rows of COLLECT ACTIVITY in their order, then an examination by where the collection stands. -/
theorem collectionRuns : Obligations.CollectionRuns := by
  refine ⟨?_, ?_⟩
  · intro s f rest h n volumeOpen
    obtain ⟨⟨-, hs, -⟩, -⟩ := id h
    refine ⟨fun hv => collectActivity_refused h rfl (actCollect_noVolume hv),
      fun hv hn => collectActivity_refused h rfl (actCollect_outOfRange hv hn),
      fun hv hn hc => collectActivity_refused h rfl (actCollect_busy hv hn hc), fun hv hn hc => ?_⟩
    rw [collectActivity_taken h, actCollect_starts (s := s.taken rest) hv hn hc]
    exact congrArg Host.Outcome.next (State.endStep_quiet _ hs)
  · intro s x hon hs hx hl hp hroom g entry entries cleared reply
    have hstop := fun resume => stopCollection_heard (x := x.examined g) (s := s.activityTaken x) hl hp hroom resume
    refine ⟨fun he => collectionExamine_quiet hon hs ?_, fun he hend => collectionExamine_quiet hon hs ?_,
      fun he hmore hfull => collectionExamine_quiet hon hs ?_, fun he hmore hfew => collectionExamine_quiet hon hs ?_⟩
    · exact (examine_beyond hx he).trans (stopCollection_heard hl hp hroom none)
    · exact (examine_stands hx he).trans ((if_pos hend).trans (hstop none))
    · exact (examine_stands hx he).trans ((if_neg (Nat.not_le.mpr hmore)).trans
        ((if_pos hfull).trans (hstop (some (x.nextSegment + 1)))))
    · exact (examine_stands hx he).trans ((if_neg (Nat.not_le.mpr hmore)).trans (if_neg (Nat.not_le.mpr hfew)))

end Sys2Proof.Machine

end

section
/-! SUPPORT. The entry of a read that a media tag names, the blocks that leave a read, the entries that leave with a
failed one, and the end of a step that stored or ended a read. -/

namespace Sys2Proof.Machine

/-! ### The entry that a media tag names (R103, R104, R106) -/

section Tagged

variable {before after : List ReadEntry} {e : ReadEntry} {tag : Nat}

theorem entryOfTag_eq (he : e.mediaTag = some tag) (hother : ∀ y ∈ before ++ after, y.mediaTag ≠ some tag) :
    entryOfTag tag (before ++ e :: after) = some e := by
  rw [entryOfTag, List.find?_append, List.find?_eq_none.mpr, Option.none_or,
    List.find?_cons_of_pos (by simpa using he)]
  intro y hy
  simpa using hother y (List.mem_append_left _ hy)

theorem servesTag_eq (he : e.mediaTag = some tag) (hother : ∀ y ∈ before ++ after, y.mediaTag ≠ some tag) (f : Frame) :
    servesTag f tag (before ++ e :: after) = f.holdsBlocks e.count := by
  rw [servesTag, entryOfTag_eq he hother]

theorem markArrived_eq (he : e.mediaTag = some tag) (hother : ∀ y ∈ before ++ after, y.mediaTag ≠ some tag)
    (data : List Byte) :
    markArrived tag data (before ++ e :: after) =
      before ++ { e with progress := .arrived, mediaTag := none, data := data } :: after := by
  have hkeep : ∀ l : List ReadEntry, (∀ y ∈ l, y ∈ before ++ after) → markArrived tag data l = l := fun l hl =>
    (List.map_congr_left fun y hy => if_neg (hother y (hl y hy))).trans (List.map_id l)
  have hown : markArrived tag data (e :: after) =
      { e with progress := .arrived, mediaTag := none, data := data } :: markArrived tag data after := by
    rw [markArrived, List.map_cons, if_pos he]
    rfl
  rw [hkeep after fun y hy => List.mem_append_right _ hy] at hown
  rw [markArrived, List.map_append]
  exact congrArg₂ _ (hkeep before fun y hy => List.mem_append_left _ hy) hown

/-- The entries before the one that a tag names. -/
theorem takeWhile_untagged (he : e.mediaTag = some tag) (hother : ∀ y ∈ before ++ after, y.mediaTag ≠ some tag) :
    (before ++ e :: after).takeWhile (fun x => !decide (x.mediaTag = some tag)) = before := by
  rw [List.takeWhile_append_of_pos fun y hy => by simpa using hother y (List.mem_append_left _ hy),
    List.takeWhile_cons_of_neg (by simpa using he), List.append_nil]

/-- The entry that a tag names, with every newer one. -/
theorem dropWhile_untagged (he : e.mediaTag = some tag) (hother : ∀ y ∈ before ++ after, y.mediaTag ≠ some tag) :
    (before ++ e :: after).dropWhile (fun x => !decide (x.mediaTag = some tag)) = e :: after := by
  rw [List.dropWhile_append_of_pos fun y hy => by simpa using hother y (List.mem_append_left _ hy),
    List.dropWhile_cons_of_neg (by simpa using he)]

/-- The entries that leave with a failed one, without that one. -/
theorem filter_untagged (he : e.mediaTag = some tag) (hother : ∀ y ∈ before ++ after, y.mediaTag ≠ some tag) :
    (e :: after).filter (fun x => !decide (x.mediaTag = some tag)) = after := by
  rw [List.filter_cons_of_neg (by simpa using he)]
  exact List.filter_eq_self.mpr fun y hy => by simpa using hother y (List.mem_append_right _ hy)

end Tagged

/-! ### The blocks that leave a read (R104, R110) -/

/-- A read once a run of arrived entries has left its list. -/
def ReadContext.delivering (r : ReadContext) (heads kept : List ReadEntry) : ReadContext :=
  { r with list := kept, delivered := r.delivered + (heads.map ReadEntry.count).sum }

/-- Between s and t the blocks of a run of entries of a read leave as RDATA frames, and the first delivery of the read
marks its segment read. -/
structure State.Delivers (s t : State) (r : ReadContext) (heads : List ReadEntry) : Prop where
  frame : t = { s with volumes := t.volumes, txQueue := s.txQueue ++ heads.map (rdataFrame r) }
  marked : t.segment r.volume r.segment =
    { s.segment r.volume r.segment with
      readSince := (s.segment r.volume r.segment).readSince || decide (heads ≠ [] ∧ r.delivered = 0) }
  other : ∀ v m, ¬ (v = r.volume ∧ m = r.segment) → t.segment v m = s.segment v m

theorem State.Delivers.refl (s : State) (r : ReadContext) : s.Delivers s r [] where
  frame := by rw [List.map_nil, List.append_nil]
  marked := by simp
  other _ _ _ := rfl

theorem markRead_eq (r : ReadContext) (s : State) : markRead r s = { s with volumes := (markRead r s).volumes } := by
  unfold markRead
  split <;> rfl

theorem markRead_canonical {s : State} (hw : s.canonical) (r : ReadContext) : (markRead r s).canonical := by
  unfold markRead
  split
  · exact State.putSegment_canonical hw _ _ _
  · exact hw

theorem markRead_count (r : ReadContext) (s : State) (v : Nat) :
    ((markRead r s).volume v).count = (s.volume v).count := by
  unfold markRead
  split
  · exact (s.putSegment_count _ _ _ _).1
  · rfl

theorem markRead_segment {s : State} (hw : s.canonical) {r : ReadContext} (hn : r.segment < (s.volume r.volume).count)
    (v m : Nat) :
    (markRead r s).segment v m =
      if v = r.volume ∧ m = r.segment then
        { s.segment r.volume r.segment with
          readSince := (s.segment r.volume r.segment).readSince || decide (r.delivered = 0) }
      else s.segment v m := by
  unfold markRead
  split
  · next h => simp [State.putSegment_segment hw hn, h]
  · next h =>
    split
    · next hvm => simp [hvm, h]
    · rfl

/-- The blocks of the oldest entry leave, and then those of a run of newer ones. The delivered count only rises, so it
is the first of them that marks the segment. -/
theorem State.Delivers.cons {s u t : State} {r : ReadContext} {e : ReadEntry} {heads : List ReadEntry}
    (hw : s.canonical) (hn : r.segment < (s.volume r.volume).count)
    (hu : u = markRead r { s with txQueue := s.txQueue ++ [rdataFrame r e] })
    (h : u.Delivers t { r with delivered := r.delivered + e.count } heads) : s.Delivers t r (e :: heads) := by
  have hfields : u = { s with volumes := u.volumes, txQueue := s.txQueue ++ [rdataFrame r e] } := by
    rw [hu]
    exact markRead_eq r _
  have hsegment := markRead_segment (s := { s with txQueue := s.txQueue ++ [rdataFrame r e] }) hw hn
  rw [← hu] at hsegment
  refine ⟨?_, ?_, fun v m hvm => (h.other v m hvm).trans ((hsegment v m).trans (if_neg hvm))⟩
  · have hframes : u.txQueue ++ heads.map (rdataFrame r) = s.txQueue ++ (e :: heads).map (rdataFrame r) := by
      rw [hfields]
      exact List.append_assoc _ _ _
    refine h.frame.trans ?_
    rw [← hframes, hfields]
    rfl
  · have hown : u.segment r.volume r.segment =
        { s.segment r.volume r.segment with
          readSince := (s.segment r.volume r.segment).readSince || decide (r.delivered = 0) } :=
      (hsegment r.volume r.segment).trans (if_pos ⟨rfl, rfl⟩)
    have hmarked : t.segment r.volume r.segment =
        { u.segment r.volume r.segment with
          readSince := (u.segment r.volume r.segment).readSince ||
            decide (heads ≠ [] ∧ r.delivered + e.count = 0) } := h.marked
    rw [hmarked, hown]
    by_cases h0 : r.delivered = 0 <;> simp [h0]

/-- The oldest entry has arrived: it leaves, and the rest goes on from there. -/
theorem deliverHeads_arrived {e : ReadEntry} (h : e.progress = .arrived) (rest : List ReadEntry) (r : ReadContext)
    (s : State) :
    deliverHeads (e :: rest) r s =
      deliverHeads rest { r with delivered := r.delivered + e.count } (markRead r (s.send (rdataFrame r e))) := if_pos h

/-- The oldest entry has not arrived: every entry stays. -/
theorem deliverHeads_waits {kept : List ReadEntry} (h : ∀ e, kept.head? = some e → e.progress ≠ .arrived)
    (r : ReadContext) (s : State) : deliverHeads kept r s = (r.delivering [] kept, s) := by
  cases kept with
  | nil => rfl
  | cons e rest => exact if_neg (h e rfl)

/-- A run of arrived entries leaves a read that its initiator hears (R104). -/
theorem deliverHeads_delivers {heads kept : List ReadEntry} (hheads : ∀ e ∈ heads, e.progress = .arrived)
    (hkept : ∀ e, kept.head? = some e → e.progress ≠ .arrived) {r : ReadContext} {s : State}
    (hl : s.ingestLink = .ready) (hp : (s.initiator r.initiator).state ≠ .absent)
    (hroom : s.txQueue.length + heads.length ≤ 2048) (hw : s.canonical)
    (hn : r.segment < (s.volume r.volume).count) :
    (deliverHeads (heads ++ kept) r s).1 = r.delivering heads kept ∧
      s.Delivers (deliverHeads (heads ++ kept) r s).2 r heads := by
  induction heads generalizing r s with
  | nil =>
    rw [List.nil_append, deliverHeads_waits hkept]
    exact ⟨rfl, .refl s r⟩
  | cons e rest ih =>
    rw [List.length_cons] at hroom
    have hsent := s.send_placed (rdataFrame r e) hl hp (show s.txQueue.length < 2048 by omega)
    let u := markRead r { s with txQueue := s.txQueue ++ [rdataFrame r e] }
    have hu : u = { s with volumes := u.volumes, txQueue := s.txQueue ++ [rdataFrame r e] } := markRead_eq r _
    have hlength : u.txQueue.length = s.txQueue.length + 1 := by
      rw [hu, List.length_append, List.length_singleton]
    have hcount : (u.volume r.volume).count = (s.volume r.volume).count := markRead_count r _ r.volume
    rw [List.cons_append, deliverHeads_arrived (hheads e List.mem_cons_self), hsent]
    obtain ⟨hleft, hrest⟩ := ih (r := { r with delivered := r.delivered + e.count }) (s := u)
      (fun x hx => hheads x (List.mem_cons_of_mem _ hx)) (by rw [hu]; exact hl) (by rw [hu]; exact hp) (by omega)
      (markRead_canonical (s := { s with txQueue := s.txQueue ++ [rdataFrame r e] }) hw r) (hcount ▸ hn)
    refine ⟨hleft.trans ?_, hrest.cons hw hn rfl⟩
    simp only [ReadContext.delivering, List.map_cons, List.sum_cons, Nat.add_assoc]

/-! ### The entries that leave with a failed one (R106, R142) -/

/-- A request of context c for one of a list of entries of its read. -/
def ReadContext.askedFor (r : ReadContext) (c : Nat) (l : List ReadEntry) (q : Request) : Bool :=
  decide (q.owner = .read c) && l.any (fun e => decide (readCommand r.volume r.segment e = q.command))

theorem ReadContext.askedFor_iff (r : ReadContext) (c : Nat) (l : List ReadEntry) (q : Request) :
    r.askedFor c l q = true ↔ q.owner = .read c ∧ ∃ e ∈ l, q.command = readCommand r.volume r.segment e := by
  simp only [ReadContext.askedFor, Bool.and_eq_true, decide_eq_true_eq, List.any_eq_true, eq_comm (a := q.command)]

/-- A read that stopped short at a failed entry, with the entries before it. -/
def ReadContext.failing (r : ReadContext) (kept : List ReadEntry) : ReadContext :=
  { r with list := kept, ending := some .faulted, outcome := r.outcome ||| Cond.mediaFault.bit }

/-- The state once the requests and the slots of the entries that leave a read are given up. -/
def State.readCut (s : State) (c : Nat) (r : ReadContext) (e : ReadEntry) (newer : List ReadEntry) : State :=
  { s with
    slots := (s.orphanAll (newer.filterMap ReadEntry.mediaTag)).slots
    arbiter := { s.arbiter with read := s.arbiter.read.filter (fun q => !r.askedFor c (e :: newer) q) }
    conditions := (s.raise r.op .mediaFault).conditions }

/-- The failed entry of a read and every newer one leave its list, their requests and their slots (R106). -/
theorem readFails_eq {r : ReadContext} {kept newer : List ReadEntry} {e : ReadEntry} {tag : Nat}
    (hlist : r.list = kept ++ e :: newer) (he : e.mediaTag = some tag)
    (hother : ∀ x ∈ kept ++ newer, x.mediaTag ≠ some tag) (c : Nat) (s : State) :
    readFails c (fun x => decide (x.mediaTag = some tag)) r s =
      settleRead c (r.failing kept) (s.readCut c r e newer) := by
  let a := (s.raise r.op .mediaFault).withdraw .read (r.askedFor c (e :: newer))
  have hslots : (a.orphanAll (newer.filterMap ReadEntry.mediaTag)).slots =
      (s.orphanAll (newer.filterMap ReadEntry.mediaTag)).slots := State.orphanAll_slots (s := a) (t := s) rfl _
  have hcut := a.orphanAll_eq (newer.filterMap ReadEntry.mediaTag)
  rw [hslots] at hcut
  simp only [readFails, hlist, takeWhile_untagged he hother, dropWhile_untagged he hother, filter_untagged he hother]
  exact congrArg (settleRead c (r.failing kept)) hcut

/-! ### A read stored or ended in a step that raised flags (R105, R174, R178) -/

theorem settleRead_ends {s v : State} {c : Nat} {r : ReadContext} {raised : CondSet} {causes : List Cause}
    (hs : s.settled) (hc : c < 32) (hnow : v.now = s.now) (hv : v.conditions = s.conditions.raisedWith raised causes)
    (hl : v.ingestLink = .ready) (hp : (v.initiator r.initiator).state ≠ .absent) (hroom : v.txQueue.length < 2048) :
    let t := (settleRead c r v).endStep
    ∃ notices : List Frame, notices.length ≤ 1 ∧ t.conditions.accrued = s.conditions.accrued ||| raised ∧
      (∀ d, d ≠ c → t.context d = v.context d) ∧
      (r.list ≠ [] → t.context c = .read r ∧ s.completesNothing t ∧ t.txQueue = v.txQueue ++ notices) ∧
      (r.list = [] →
        t.context c = .free ∧ s.reports t r.op r.outcome ∧ t.txQueue = v.txQueue ++ [finalReadFrame r] ++ notices) ∧
      t = { v with contexts := t.contexts, conditions := t.conditions, txQueue := t.txQueue } := by
  by_cases hnil : r.list = []
  · rw [settleRead_ended hnil hl hp hroom]
    obtain ⟨haccrued, hreports, notices, hlen, htx, ht⟩ := reported_endStep (s := s)
      (v := { v with
        contexts := Table.set v.contexts c .free, txQueue := v.txQueue ++ [finalReadFrame r]
        conditions := { v.conditions with
          last := if r.outcome = 0#18 then v.conditions.last
            else some { op := r.op, outcome := r.outcome, time := v.now } } })
      hs (by rw [hv, hnow]; rfl)
    have hcontexts := congrArg State.contexts ht
    obtain ⟨hown, hother⟩ := State.context_of_set hc hcontexts
    refine ⟨notices, hlen, haccrued, hother, fun hne => absurd hnil hne, fun _ => ⟨hown, hreports, htx⟩, ?_⟩
    generalize State.endStep _ = t at hcontexts ht ⊢
    rw [hcontexts]
    exact ht
  · rw [settleRead_stored hnil]
    obtain ⟨haccrued, hnothing, notices, hlen, htx, ht⟩ := raisedWith_endStep (v := v.setContext c (.read r)) hs hv
    have hcontexts := congrArg State.contexts ht
    obtain ⟨hown, hother⟩ := State.context_of_set (s := v) (x := .read r) hc hcontexts
    refine ⟨notices, hlen, haccrued, hother, fun _ => ⟨hown, hnothing, htx⟩, fun hn => absurd hn hnil, ?_⟩
    generalize State.endStep _ = t at hcontexts ht ⊢
    rw [hcontexts]
    exact ht

/-- A read stored or ended in a step that raised nothing: no notice is made. -/
theorem settleRead_quiet {v : State} {c : Nat} {r : ReadContext} (hs : v.settled) (hc : c < 32)
    (hl : v.ingestLink = .ready) (hp : (v.initiator r.initiator).state ≠ .absent) (hroom : v.txQueue.length < 2048) :
    let t := (settleRead c r v).endStep
    (∀ d, d ≠ c → t.context d = v.context d) ∧
      (r.list ≠ [] → t.context c = .read r ∧ t.txQueue = v.txQueue ∧ t.conditions = v.conditions) ∧
      (r.list = [] →
        t.context c = .free ∧ t.txQueue = v.txQueue ++ [finalReadFrame r] ∧ v.reports t r.op r.outcome ∧
          t.conditions = { v.conditions with last := t.conditions.last }) ∧
      t = { v with contexts := t.contexts, conditions := t.conditions, txQueue := t.txQueue } := by
  by_cases hnil : r.list = []
  · have hended := settleRead_ended hnil hl hp hroom c
    rw [State.endStep_quiet _ (by rw [hended]; exact hs), hended]
    obtain ⟨hown, hother⟩ := State.context_of_set (s := v) (t := v.setContext c .free) hc rfl
    exact ⟨hother, fun hne => absurd hnil hne, fun _ => ⟨hown, rfl, rfl, rfl⟩, rfl⟩
  · have hquiet : (v.setContext c (.read r)).endStep = v.setContext c (.read r) := State.endStep_quiet _ hs
    rw [settleRead_stored hnil, hquiet]
    obtain ⟨hown, hother⟩ := State.context_of_set (s := v) (t := v.setContext c (.read r)) hc rfl
    exact ⟨hother, fun _ => ⟨hown, rfl, rfl⟩, fun h => absurd h hnil, rfl⟩

end Sys2Proof.Machine

end

section
/-! PROOF. The answers to the media reads of a read: blocks that arrive, and a media read that fails. -/

namespace Sys2Proof.Machine

/-! ### From the answer to the read that owns its slot (R104, R106, R140, R141) -/

theorem State.read_lt {s : State} {c : Nat} {r : ReadContext} (h : s.context c = .read r) : c < 32 :=
  State.context_lt (s := s) (by rw [h]; nofun)

/-- An MSTATUS is an answer without blocks, and fails the read that it answers (R106). -/
theorem answerRead_status {f : Frame} (hk : f.kind = 19) (c tag : Nat) (r : ReadContext) (s : State) :
    answerRead c tag (answerOf f) r s = readFails c (fun e => decide (e.mediaTag = some tag)) r s := by
  unfold answerOf
  rw [if_neg (by omega)]
  split
  · rfl
  · split <;> rfl

theorem answerRead_data {f : Frame} (hk : f.kind = 20) (c tag : Nat) (r : ReadContext) (s : State) :
    answerRead c tag (answerOf f) r s =
      if servesTag f tag r.list then readArrives c tag f.payload r s
      else readFails c (fun e => decide (e.mediaTag = some tag)) r s := by
  rw [answerOf, if_pos hk]
  rfl

/-- A response to a Busy slot is handed to the read that owns it. -/
theorem responseArrives_read {s : State} {bytes : List Byte} {f : Frame} {c kind : Nat} {r : ReadContext}
    (ha : s.answers bytes f kind) (hk : kind = 19 ∨ kind = 20) (ho : s.owned f.tag (.read c))
    (hctx : s.context c = .read r) :
    responseArrives bytes s = answerRead c f.tag (answerOf f) r (s.slotFreed bytes f.tag) := by
  have hfreed : (s.slotFreed bytes f.tag).context c = .read r := hctx
  rw [responseArrives_owned ha hk ho]
  simp only [handOver, hfreed]

/-- A failure is handed to the read that owns the slot, in a state in which the slot is taken from it. -/
theorem State.fails.read {s u : State} {ev : Instr} {tag c : Nat} {timeout : Bool} {r : ReadContext}
    {kept newer : List ReadEntry} {e : ReadEntry} (h : s.fails ev tag (.read c) (some e.count) timeout u)
    (hctx : s.context c = .read r) (hlist : r.list = kept ++ e :: newer) (he : e.mediaTag = some tag)
    (hother : ∀ x ∈ kept ++ newer, x.mediaTag ≠ some tag) :
    exec ev s = .next (readFails c (fun x => decide (x.mediaTag = some tag)) r u).endStep ∧ s.settled ∧
      s.slotTaken u := by
  rcases h with ⟨bytes, f, rfl, hb, ha, rfl, ho, -, -, rfl⟩ | ⟨bytes, f, rfl, hb, ha, rfl, ho, hblocks, -, rfl⟩ |
    ⟨rfl, hon, hs, -, ⟨command, cls, hslot⟩, -, rfl⟩
  · obtain ⟨hon, hs, -, -, -, hkind, -⟩ := id ha
    refine ⟨?_, hs, ⟨_, _, rfl⟩⟩
    rw [exec_mstatus hon hb, responseArrives_read ha (.inl rfl) ho hctx, answerRead_status hkind]
  · obtain ⟨hon, hs, -, -, -, hkind, -⟩ := id ha
    refine ⟨?_, hs, ⟨_, _, rfl⟩⟩
    rw [exec_mdata hon hb, responseArrives_read ha (.inr rfl) ho hctx, answerRead_data hkind, hlist,
      servesTag_eq he hother, hblocks _ rfl]
    rfl
  · have hlate : (s.setSlot tag .busyLate).context c = .read r := hctx
    refine ⟨?_, hs, ⟨_, _, rfl⟩⟩
    rw [exec_mediaTimeout hon]
    simp only [slotExpires, hslot, timeoutOwner, hlate]

/-- An MDATA with exactly the blocks of an entry: the run of arrived entries leaves, and the read is stored or ends. -/
theorem exec_readArrives {s : State} {bytes : List Byte} {f : Frame} {c : Nat} {r : ReadContext}
    {before after : List ReadEntry} {e : ReadEntry} (ha : s.answers bytes f 20) (hb : bytesAreMdata bytes = true)
    (ho : s.owned f.tag (.read c)) (hctx : s.context c = .read r) (hlist : r.list = before ++ e :: after)
    (he : e.mediaTag = some f.tag) (hother : ∀ y ∈ before ++ after, y.mediaTag ≠ some f.tag)
    (hblocks : f.holdsBlocks e.count = true) {heads kept : List ReadEntry}
    (hsplit : before ++ { e with progress := .arrived, mediaTag := none, data := f.payload } :: after = heads ++ kept) :
    exec (.mdata bytes) s =
      .next (settleRead c (deliverHeads (heads ++ kept) r (s.slotFreed bytes f.tag)).1
        (deliverHeads (heads ++ kept) r (s.slotFreed bytes f.tag)).2).endStep := by
  obtain ⟨hon, -, -, -, -, hkind, -⟩ := id ha
  rw [exec_mdata hon hb, responseArrives_read ha (.inr rfl) ho hctx, answerRead_data hkind, hlist,
    servesTag_eq he hother, hblocks, readArrives, hlist, markArrived_eq he hother, hsplit]
  rfl

/-- Settles O48: the blocks that leave in order, and the read that a failed media read stops short. -/
theorem readServed : Obligations.ReadServed := by
  refine ⟨?_, ?_⟩
  · intro s bytes f c r before after e heads kept ha hb ho hctx hlist he hother hblocks hl hp hroom hw hexists hsplit
      hheads hkept delivered frames status
    have hlength : heads.length ≤ r.list.length := by
      have := congrArg List.length hsplit
      rw [hlist]
      simp only [List.length_append, List.length_cons] at this ⊢
      omega
    have hexec := exec_readArrives ha hb ho hctx hlist he hother hblocks hsplit
    obtain ⟨-, hs, -⟩ := id ha
    obtain ⟨hleft, hdelivers⟩ := deliverHeads_delivers (s := s.slotFreed bytes f.tag) hheads hkept hl hp
      (show s.txQueue.length + heads.length ≤ 2048 by omega) hw (State.segmentExists_lt hexists)
    rw [hleft] at hexec
    generalize (deliverHeads (heads ++ kept) r (s.slotFreed bytes f.tag)).2 = v at hexec hdelivers
    obtain ⟨hframe, hmarked, hother'⟩ := hdelivers
    have hroom' : v.txQueue.length < 2048 := by
      rw [hframe]
      show (s.txQueue ++ heads.map (rdataFrame r)).length < 2048
      rw [List.length_append, List.length_map]
      omega
    obtain ⟨hcontext, hstored, hended, ht⟩ := settleRead_quiet (v := v) (c := c) (r := r.delivering heads kept)
      (by rw [hframe]; exact hs) (State.read_lt hctx) (by rw [hframe]; exact hl) (by rw [hframe]; exact hp) hroom'
    generalize (settleRead c (r.delivering heads kept) v).endStep = t at *
    have hvolumes : t.volumes = v.volumes := (congrArg State.volumes ht :)
    refine ⟨t, hexec, (State.segment_congr hvolumes _ _).trans hmarked, fun hne => ?_, fun hnil => ?_, fun d hd => ?_,
      fun x m hxm => (State.segment_congr hvolumes x m).trans (hother' x m hxm), ?_⟩
    · obtain ⟨hown, htx, hunit⟩ := hstored hne
      exact ⟨hown, by rw [htx, hframe]; rfl, by rw [hunit, hframe]; rfl⟩
    · obtain ⟨hown, htx, hreports, hunit⟩ := hended hnil
      refine ⟨hown, ?_, ?_, ?_⟩
      · rw [htx, hframe]
        rfl
      · rw [hframe] at hreports
        exact hreports
      · rw [hunit, hframe]
        rfl
    · rw [hcontext d hd, hframe]
      rfl
    · rw [hvolumes]
      rw [hframe] at ht
      exact ht
  · intro s u ev tag c timeout r kept newer e h hctx hlist he hother hl hp hroom outcome
    obtain ⟨hexec, hs, check, slots, rfl⟩ := h.read hctx hlist he hother
    rw [readFails_eq hlist he hother] at hexec
    let u : State := { s with mediaCheck := check, slots := slots }
    have hraised : (u.readCut c r e newer).conditions =
        s.conditions.raisedWith Cond.mediaFault.bit (u.raise r.op .mediaFault).conditions.causes :=
      (State.raise_raisedWith (s := u) s.conditions.raisedWith_none r.op .mediaFault).trans (by rw [BitVec.zero_or])
    obtain ⟨notices, hlen, haccrued, hcontext, hstored, hended, ht⟩ := settleRead_ends (v := u.readCut c r e newer)
      (r := r.failing kept) hs (State.read_lt hctx) rfl hraised hl hp hroom
    generalize (settleRead c (r.failing kept) (u.readCut c r e newer)).endStep = t at *
    have harbiter : t.arbiter = (u.readCut c r e newer).arbiter := (congrArg State.arbiter ht :)
    have hslots : t.slots = (u.readCut c r e newer).slots := (congrArg State.slots ht :)
    have hslot : ∀ k, t.slot k = _ := fun k =>
      (congrArg (fun l => Table.get Slot.free l k) hslots).trans (State.orphanAll_slot u _ k)
    refine ⟨t, notices, hexec, hlen, haccrued, fun q => ?_, fun x hx k command cls owner left hk hbusy => ?_,
      fun k hk => ?_, hcontext, hstored, hended, ?_⟩
    · rw [harbiter]
      refine List.mem_filter.trans (and_congr_right fun _ => ?_)
      rw [Bool.not_eq_true', ← Bool.not_eq_true]
      exact not_congr (r.askedFor_iff c (e :: newer) q)
    · rw [hslot, if_pos (List.mem_filterMap.mpr ⟨x, hx, hk⟩)]
      exact congrArg Slot.orphan hbusy
    · rw [hslot, if_neg fun hmem => ?_]
      obtain ⟨x, hx, hxk⟩ := List.mem_filterMap.mp hmem
      exact hk x hx hxk
    · rw [hslots, harbiter]
      exact ht

end Sys2Proof.Machine

end

section
/-! PROOF. SWEEP, and the beginning of a pass. -/

namespace Sys2Proof.Machine

/-- A pass begins at the lowest volume that is not Absent, or ends at once (R127). -/
theorem beginPass_begins {s : State} (hs : s.sweeper = { state := .idle, passAgain := true })
    (hc : s.clock.state = .running) :
    beginPass s = { s with sweeper := { state := s.passFrom 0, passAgain := false } } := by
  have hr := (s.running_iff).mpr hc
  simp [beginPass, hs, hr]

/-- The beginning of a pass raises no condition, so its step makes no notice. -/
theorem exec_passBegin {s : State} (ht : s.takesEvents = true) (hs : s.settled)
    (hi : s.sweeper = { state := .idle, passAgain := true }) (hc : s.clock.state = .running) :
    exec .passBegin s = .next { s with sweeper := { state := s.passFrom 0, passAgain := false } } := by
  have hbegin := beginPass_begins hi hc
  have hquiet : (beginPass s).conditions.causes = [] := by
    rw [hbegin]
    exact hs
  exact congrArg Host.Outcome.next ((onEvent_quiet s beginPass ht hquiet).trans hbegin)

/-- Settles O34: SWEEP writes the pass-again flag alone, and a pass begins by the first volume that is not Absent. -/
theorem sweepAndPassBegin : Obligations.SweepAndPassBegin := by
  refine ⟨fun s f rest h => ?_, fun s ht hs hi hc => ⟨fun v h1 h4 hv hbelow => ?_, fun hnone => ?_⟩⟩
  · have hact : actSweep f (s.taken rest) = answerControl f .done [] ((s.taken rest).clocked s.clock true) := rfl
    exact congrArg Host.Outcome.next (controlEvent_clocked h hact)
  · have hnext : s.nextVolume 0 = some v := State.nextVolume_eq_some h1 h1 h4 hv fun u _ => hbelow u
    rw [exec_passBegin ht hs hi hc, State.passFrom, hnext]
  · have hnext : s.nextVolume 0 = none := State.nextVolume_eq_none fun u _ => hnone u
    rw [exec_passBegin ht hs hi hc, State.passFrom, hnext]

end Sys2Proof.Machine

end

section
/-! PROOF. PLACE HOLD and RELEASE HOLD. -/

namespace Sys2Proof.Machine

/-! ### A request that writes one slot of the Hold Table -/

/-- The state once a hold slot and the walk queue are written (R116, R118). -/
def State.reheld (s : State) (k : Nat) (x : Option Hold) (queue : List Nat) : State :=
  { s with holds := s.holds.setIfInBounds (k - 1) x, walkQueue := queue }

theorem State.setHold_reheld {s : State} {k : Nat} (hk : 1 ≤ k) (x : Option Hold) (queue : List Nat) :
    { s.setHold k x with walkQueue := queue } = s.reheld k x queue := by
  have hne : k ≠ 0 := by omega
  rw [State.setHold, Table.set1, if_neg hne]
  rfl

/-- A control request of an officer that writes one hold slot is answered, and nothing else changes (R193). -/
theorem controlEvent_reheld {s : State} {f : Frame} {rest : List RxFrame} {request k : Nat}
    {act : Frame → State → State} {x : Option Hold} {queue : List Nat} {status : Status} {words : List Nat}
    (h : s.officerAsks f rest request)
    (ha : act f (s.taken rest) = answerControl f status words ((s.taken rest).reheld k x queue)) :
    controlEvent request act s = (s.answered rest (f.reply status words)).reheld k x queue := by
  obtain ⟨⟨-, hs, -, hroom, -⟩, -, -, hl, hen, -, -⟩ := id h
  have hlimit : Config.intakeLimit ≤ Config.transmitLimit := by decide
  have hpresent : (s.initiator f.initiator).state ≠ .absent := by
    rw [hen]
    decide
  have hplaced : act f (s.taken rest) = (s.answered rest (f.reply status words)).reheld k x queue :=
    ha.trans (State.send_placed _ _ hl hpresent (Nat.lt_of_lt_of_le hroom hlimit))
  rw [controlEvent_taken request act s f rest h (by rw [hplaced]; exact hs), hplaced]

/-- A control request of an officer that is answered and changes nothing else (R193). -/
theorem controlEvent_only_answered {s : State} {f : Frame} {rest : List RxFrame} {request : Nat}
    {act : Frame → State → State} {status : Status} {words : List Nat} (h : s.officerAsks f rest request)
    (ha : act f (s.taken rest) = answerControl f status words (s.taken rest)) :
    controlEvent request act s = s.answered rest (f.reply status words) :=
  controlEvent_answered s.volumes s.clock h ha

/-! ### The tests of a PLACE HOLD (R116) -/

/-- Check 2 passes a volume from 1 to 4, in the sender's set and not Absent (R59). -/
theorem check2_eq_none_iff (s : State) (e : InitiatorEntry) (v : Nat) :
    check2 s e v = none ↔ 1 ≤ v ∧ v ≤ 4 ∧ e.volumes.getLsbD (v - 1) = true ∧ (s.volume v).state ≠ .absent := by
  simp [check2, refuseWhen, InitiatorEntry.hasVolume, and_assoc, Nat.one_le_iff_ne_zero]

/-- The range of a hold lies inside its volume, and its filter is absent or a class from 1 to 63 (R116). -/
def Frame.holdInRange (f : Frame) (s : State) : Prop :=
  f.param 1 ≤ f.param 2 ∧ f.param 2 < (s.volume (f.param 0)).count ∧
    ∀ k, wordOption (f.param 3) = some k → 1 ≤ k ∧ k ≤ 63

theorem badFilter_iff (filter : Option Nat) :
    badFilter filter = true ↔ ¬ ∀ k, filter = some k → 1 ≤ k ∧ k ≤ 63 := by
  cases filter with
  | none => simp [badFilter]
  | some c =>
    simp only [badFilter, Bool.or_eq_true, decide_eq_true_eq, Option.some.injEq, forall_eq']
    omega

theorem holdRange_refused_iff (f : Frame) (s : State) :
    (decide (f.param 2 < f.param 1) || decide ((s.volume (f.param 0)).count ≤ f.param 2) ||
      badFilter (wordOption (f.param 3))) = true ↔ ¬ f.holdInRange s := by
  simp only [Bool.or_eq_true, decide_eq_true_eq, badFilter_iff, Frame.holdInRange, not_and_or, not_le, not_lt, or_assoc]

theorem State.freeHold_eq_none_iff (s : State) :
    s.freeHold = none ↔ ¬ ∃ k, 1 ≤ k ∧ k ≤ 64 ∧ s.hold k = none := by
  simp [State.freeHold, Nat.lt_succ_iff]

/-- The slot taken is the lowest Free one (R116). -/
theorem State.freeHold_eq_some {s : State} {k : Nat} (h1 : 1 ≤ k) (h64 : k ≤ 64) (hk : s.hold k = none)
    (hbelow : ∀ j, 1 ≤ j → j < k → s.hold j ≠ none) : s.freeHold = some k := by
  refine List.find?_range'_eq_some.mpr ⟨by simpa using hk, List.mem_range'_1.mpr ⟨h1, by omega⟩, fun j hj hlt => ?_⟩
  simpa using hbelow j hj hlt

/-- A segment of a range is Erasing, and of the filter's class when there is one (R116). -/
def State.erasesWithin (s : State) (v first last : Nat) (filter : Option Nat) : Prop :=
  ∃ n, first ≤ n ∧ n ≤ last ∧ (s.segment v n).state = .erasing ∧ (filter = none ∨ filter = (s.segment v n).cls)

/-- An Erasing segment is listed in the canonical Map, so the listed entries tell whether there is one (log 37). -/
theorem erasingIn_iff {s : State} (hw : s.canonical) (v first last : Nat) (filter : Option Nat) :
    erasingIn s v first last filter = true ↔ s.erasesWithin v first last filter := by
  simp only [erasingIn, List.any_eq_true, Bool.and_eq_true, Bool.or_eq_true, decide_eq_true_eq]
  constructor
  · rintro ⟨e, he, ⟨⟨hstate, hfirst⟩, hlast⟩, hfilter⟩
    have hread : s.segment v e.1 = e.2 := Sparse.get_of_mem Segment.fresh (hw v) he
    exact ⟨e.1, hfirst, hlast, hread ▸ hstate, hread ▸ hfilter⟩
  · rintro ⟨n, hfirst, hlast, hstate, hfilter⟩
    have hlisted : (n, s.segment v n) ∈ (s.volume v).segments := by
      refine Sparse.mem_of_get_ne Segment.fresh fun hfresh => ?_
      rw [State.segment, hfresh] at hstate
      cases hstate
    exact ⟨_, hlisted, ⟨⟨hstate, hfirst⟩, hlast⟩, hfilter⟩

/-! ### PLACE HOLD, judged in the order of its rule (R116) -/

section Judged

variable {s : State} {f : Frame}

theorem judgePlaceHold_noVolume (hv : ¬ check2 s (s.initiator f.initiator) (f.param 0) = none) :
    judgePlaceHold s f = some .noVolume := by
  rw [← volumeOpen_iff, Bool.not_eq_true] at hv
  rw [judgePlaceHold, hv]
  rfl

variable (hv : check2 s (s.initiator f.initiator) (f.param 0) = none)

include hv

theorem judgePlaceHold_outOfRange (hr : ¬ f.holdInRange s) : judgePlaceHold s f = some .outOfRange := by
  rw [judgePlaceHold, (volumeOpen_iff s f _).mpr hv]
  exact if_pos ((holdRange_refused_iff f s).mpr hr)

variable (hr : f.holdInRange s)

include hr

/-- With its volume and range passed, a PLACE HOLD is judged by the Hold Table and the Erasing segments. -/
theorem judgePlaceHold_inRange :
    judgePlaceHold s f =
      if s.freeHold.isNone then some .tableFull
      else refuseWhen (erasingIn s (f.param 0) (f.param 1) (f.param 2) (wordOption (f.param 3))) .eraseInProgress := by
  rw [judgePlaceHold, (volumeOpen_iff s f _).mpr hv]
  exact if_neg fun hbad => (holdRange_refused_iff f s).mp hbad hr

theorem judgePlaceHold_tableFull (hfull : s.freeHold = none) : judgePlaceHold s f = some .tableFull := by
  rw [judgePlaceHold_inRange hv hr, hfull]
  rfl

variable {k : Nat} (hfree : s.freeHold = some k) (hw : s.canonical)

include hfree hw

theorem judgePlaceHold_erasing
    (he : s.erasesWithin (f.param 0) (f.param 1) (f.param 2) (wordOption (f.param 3))) :
    judgePlaceHold s f = some .eraseInProgress := by
  rw [judgePlaceHold_inRange hv hr, hfree, (erasingIn_iff hw _ _ _ _).mpr he]
  rfl

theorem judgePlaceHold_passes
    (he : ¬ s.erasesWithin (f.param 0) (f.param 1) (f.param 2) (wordOption (f.param 3))) :
    judgePlaceHold s f = none := by
  rw [← erasingIn_iff hw, Bool.not_eq_true] at he
  rw [judgePlaceHold_inRange hv hr, hfree, he]
  rfl

end Judged

theorem actPlaceHold_refused {s : State} {f : Frame} {code : Code} (h : judgePlaceHold s f = some code) :
    actPlaceHold f s = refuseControl f code none s := by
  simp only [actPlaceHold, h]

/-- A PLACE HOLD that passes takes the Free slot found and joins the tail of the walk queue (R116, R119). -/
theorem actPlaceHold_placed {s : State} {f : Frame} {k : Nat} (h : judgePlaceHold s f = none)
    (hfree : s.freeHold = some k) :
    actPlaceHold f s = answerControl f .done [k] (s.reheld k (some (freshHold s f)) (s.walkQueue ++ [k])) := by
  obtain ⟨-, h1, -⟩ := State.freeHold_spec hfree
  simp only [actPlaceHold, h, hfree]
  exact congrArg (answerControl f .done [k]) (State.setHold_reheld h1 _ _)

/-! ### RELEASE HOLD by the state of its slot (R118) -/

theorem holdNumber_refused_iff (k : Nat) : (decide (k < 1) || decide (64 < k)) = true ↔ k < 1 ∨ 64 < k := by
  simp only [Bool.or_eq_true, decide_eq_true_eq]

theorem actReleaseHold_outOfRange {s : State} {f : Frame} (h : f.param 0 < 1 ∨ 64 < f.param 0) :
    actReleaseHold f s = refuseControl f .outOfRange none s :=
  if_pos ((holdNumber_refused_iff _).mpr h)

theorem actReleaseHold_free {s : State} {f : Frame} (h1 : 1 ≤ f.param 0) (h64 : f.param 0 ≤ 64)
    (hk : s.hold (f.param 0) = none) : actReleaseHold f s = refuseControl f .stateDenied none s := by
  rw [actReleaseHold, if_neg (by rw [holdNumber_refused_iff]; omega), hk]

theorem actReleaseHold_used {s : State} {f : Frame} {h : Hold} (hk : s.hold (f.param 0) = some h) :
    actReleaseHold f s = releaseHold f (f.param 0) h s := by
  obtain ⟨h1, h64⟩ := State.hold_range hk
  rw [actReleaseHold, if_neg (by rw [holdNumber_refused_iff]; omega), hk]

section Released

variable {s : State} {f : Frame} {k : Nat} {h : Hold}

theorem releaseHold_releasing {front raisedTo : Nat} (hp : h.phase = .releasing front raisedTo) :
    releaseHold f k h s = answerControl f .unchanged [3] s := by
  simp only [releaseHold, hp]

variable (hk : 1 ≤ k)

include hk

/-- A Placing hold that has raised nothing leaves its slot and the walk queue. -/
theorem releaseHold_unraised (hp : h.phase = .placing h.first) :
    releaseHold f k h s =
      answerControl f .done [0] (s.reheld k none (s.walkQueue.filter (fun q => !decide (q = k)))) := by
  simp only [releaseHold, hp, if_true]
  exact congrArg (answerControl f .done [0]) (State.setHold_reheld hk _ _)

/-- A Placing hold that has raised counts turns round where it stands, at its place in the walk queue. -/
theorem releaseHold_raised {front : Nat} (hp : h.phase = .placing front) (hf : front ≠ h.first) :
    releaseHold f k h s =
      answerControl f .done [3] (s.reheld k (some { h with phase := .releasing h.first front }) s.walkQueue) := by
  simp only [releaseHold, hp, if_neg hf]
  exact congrArg (answerControl f .done [3]) (State.setHold_reheld hk _ s.walkQueue)

/-- An Active hold starts to lower its whole range, from the tail of the walk queue. -/
theorem releaseHold_active (hp : h.phase = .active) :
    releaseHold f k h s =
      answerControl f .done [3]
        (s.reheld k (some { h with phase := .releasing h.first (h.last + 1) }) (s.walkQueue ++ [k])) := by
  simp only [releaseHold, hp]
  exact congrArg (answerControl f .done [3]) (State.setHold_reheld hk _ _)

end Released

/-- A PLACE HOLD that fails a row of its rule is refused and changes nothing (R74, R116). -/
theorem exec_placeHold_refused {s : State} {f : Frame} {rest : List RxFrame} {code : Code}
    (h : s.officerAsks f rest 6) (hj : judgePlaceHold s f = some code) :
    exec .placeHold s = .next (s.answered rest (f.refusal code none)) :=
  congrArg Host.Outcome.next (controlEvent_refused h (actPlaceHold_refused (s := s.taken rest) hj))

/-- Settles O29: each row of PLACE HOLD in its order, then RELEASE HOLD by the state of its slot. -/
theorem holdsPlacedAndReleased : Obligations.HoldsPlacedAndReleased := by
  refine ⟨?_, ?_⟩
  · intro s f rest h hw v first last filter volumeOk inRange slotFree erasing refused
    have hvolume : check2 s (s.initiator f.initiator) (f.param 0) = none ↔ volumeOk := check2_eq_none_iff s _ _
    refine ⟨fun hv => ?_, fun hv hr => ?_, fun hv hr hfull => ?_, fun hv hr hfree he => ?_,
      fun k hv hr he h1 h64 hk hbelow => ?_⟩
    · exact exec_placeHold_refused h (judgePlaceHold_noVolume (mt hvolume.mp hv))
    · exact exec_placeHold_refused h (judgePlaceHold_outOfRange (hvolume.mpr hv) hr)
    · have hnone := (s.freeHold_eq_none_iff).mpr hfull
      exact exec_placeHold_refused h (judgePlaceHold_tableFull (hvolume.mpr hv) hr hnone)
    · obtain ⟨k, hk⟩ := Option.ne_none_iff_exists'.mp (mt (s.freeHold_eq_none_iff).mp (not_not.mpr hfree))
      exact exec_placeHold_refused h (judgePlaceHold_erasing (hvolume.mpr hv) hr hk hw he)
    · have hfree := State.freeHold_eq_some h1 h64 hk hbelow
      have hj : judgePlaceHold s f = none := judgePlaceHold_passes (hvolume.mpr hv) hr hfree hw he
      exact congrArg Host.Outcome.next (controlEvent_reheld h (actPlaceHold_placed (s := s.taken rest) hj hfree))
  · intro s f rest h slot
    refine ⟨fun hk => ?_, fun h1 h64 hk => ?_, fun x h1 h64 hk => ?_⟩
    · exact congrArg Host.Outcome.next (controlEvent_refused h (actReleaseHold_outOfRange hk))
    · exact congrArg Host.Outcome.next (controlEvent_refused h (actReleaseHold_free (s := s.taken rest) h1 h64 hk))
    · have hact : actReleaseHold f (s.taken rest) = releaseHold f slot x (s.taken rest) :=
        actReleaseHold_used (s := s.taken rest) hk
      refine ⟨fun front raisedTo hp => ?_, fun hp => ?_, fun front hp hf => ?_, fun hp => ?_⟩
      · exact congrArg Host.Outcome.next (controlEvent_only_answered h (hact.trans (releaseHold_releasing hp)))
      · exact congrArg Host.Outcome.next (controlEvent_reheld h (hact.trans (releaseHold_unraised h1 hp)))
      · exact congrArg Host.Outcome.next (controlEvent_reheld h (hact.trans (releaseHold_raised h1 hp hf)))
      · exact congrArg Host.Outcome.next (controlEvent_reheld h (hact.trans (releaseHold_active h1 hp)))

end Sys2Proof.Machine

end

section
/-! PROOF. The responses and the timeouts of the Media Port that no owner takes. -/

namespace Sys2Proof.Machine

/-! ### A response by the state of its slot (R140, R142, R143) -/

/-- The row of the table that a response belongs to (log 20). -/
theorem exec_response {s : State} {c : Instr} {bytes : List Byte} {kind : Nat}
    (hrow : (c = .mstatus bytes ∧ bytesAreMdata bytes = false ∧ kind = 19) ∨
      (c = .mdata bytes ∧ bytesAreMdata bytes = true ∧ kind = 20)) (hon : s.takesEvents = true) :
    exec c s = .next (responseArrives bytes s).endStep ∧ (kind = 19 ∨ kind = 20) := by
  rcases hrow with ⟨rfl, hb, rfl⟩ | ⟨rfl, hb, rfl⟩
  · exact ⟨exec_mstatus hon hb, .inl rfl⟩
  · exact ⟨exec_mdata hon hb, .inr rfl⟩

/-- A response of good form is taken by the slot it names. -/
theorem responseArrives_slot {s : State} {bytes : List Byte} {f : Frame} {kind : Nat} (ha : s.answers bytes f kind)
    (hk : kind = 19 ∨ kind = 20) :
    responseArrives bytes s = answerSlot f { s with mediaCheck := checkAfter bytes } := by
  obtain ⟨-, -, hl, hpass, hbody, hkind, htag⟩ := ha
  have hform : ((decide (f.kind = 19) || decide (f.kind = 20)) && decide (f.tag < 16)) = true := by
    rw [hkind]
    rcases hk with rfl | rfl <;> simp [htag]
  simp only [responseArrives, if_pos hl, if_pos hpass, takeResponse, hbody, hform, if_true]

theorem answerSlot_unowned {s : State} {f : Frame} {command : MediaCommand} {cls : MediaClass} {timer : Nat}
    (h : s.slot f.tag = .busy command cls none timer) : answerSlot f s = s.setSlot f.tag .free := by
  simp only [answerSlot, h]

/-- A slot that is Free already stays as it is. -/
theorem State.setSlot_free {s : State} {t : Nat} (h : s.slot t = .free) : s.setSlot t .free = s := by
  have hslots : s.slots.setIfInBounds t .free = s.slots := by
    ext k hk : 1
    by_cases hkt : t = k
    · subst hkt
      simp only [State.slot, Table.get, hk, getElem?_pos, Option.getD_some] at h
      simp [h]
    · simp [hkt]
  rw [State.setSlot, Table.set, hslots]

/-- A response to a slot that is Busy-late or Free is late (R143). -/
theorem answerSlot_late {s : State} {f : Frame} (h : s.slot f.tag = .busyLate ∨ s.slot f.tag = .free) :
    answerSlot f s = (s.setSlot f.tag .free).raiseAlone (engineOp .media) .mediaLate := by
  rcases h with h | h
  · simp only [answerSlot, h, raiseLate]
  · rw [State.setSlot_free h]
    simp only [answerSlot, h, raiseLate]

/-- A response whose check word fails touches no slot (R144). -/
theorem responseArrives_failed {s : State} {bytes : List Byte} (hl : s.mediaLink = .ready)
    (hpass : checkPasses bytes = false) :
    responseArrives bytes s =
      { s with mediaCheck := checkAfter bytes }.raiseAlone (engineOp .frame) .frameCheck := by
  simp only [responseArrives, if_pos hl, hpass, Bool.false_eq_true, if_false]

/-- A step that raises one condition of the engine over a change of the Media Port alone. -/
theorem raisedAlone_ends {s : State} (hs : s.settled) (check : FrameCheck) (slots : Vector Slot 16) (kind : OpKind)
    (cond : Cond) :
    let u : State := { s with mediaCheck := check, slots := slots }
    let t := (u.raiseAlone (engineOp kind) cond).endStep
    ∃ notices : List Frame,
      t = { u with conditions := t.conditions, txQueue := s.txQueue ++ notices } ∧
        s.raisesOne t cond
          (some { op := { initiator := none, tag := none, kind := kind }, outcome := cond.bit, time := s.now })
          notices := by
  intro u t
  have hraised := State.raisesOne_endStep (u := u.raiseAlone (engineOp kind) cond) (op := engineOp kind) hs
    (by rw [State.raiseAlone_eq, State.raiseAlone_eq]; rfl) (by rw [State.raiseAlone_eq])
  refine ⟨_, ?_, hraised⟩
  have ht : t = _ := State.endStep_noticed (u.raiseAlone (engineOp kind) cond)
  rw [ht]
  simp only [State.raiseAlone_eq]
  rfl

/-! ### The timer of a slot (R141, R142) -/

/-- A timeout that raises nothing ends with its step. -/
theorem mediaTimeout_quiet {s t : State} {n : Nat} (hon : s.takesEvents = true) (ht : t.settled)
    (h : slotExpires n s = t) : exec (.mediaTimeout n) s = .next t := by
  rw [exec_mediaTimeout hon, h, State.endStep_quiet t ht]

theorem slotExpires_left {s : State} {n : Nat}
    (h : (∃ command cls owner timer, s.slot n = .busy command cls owner (timer + 1)) ∨ s.slot n = .free ∨
      s.slot n = .busyLate) : slotExpires n s = s := by
  rcases h with ⟨command, cls, owner, timer, h⟩ | h | h
  · cases owner <;> simp only [slotExpires, h]
  · simp only [slotExpires, h]
  · simp only [slotExpires, h]

/-- Settles O47: a response by the state of its slot, one whose check word fails, and a timeout by the state of its
slot. -/
theorem answersWithoutOwner : Obligations.AnswersWithoutOwner := by
  refine ⟨?_, fun s n command cls hon hs _ => ⟨fun hslot => ?_, fun owner timer hslot => ?_, fun hslot => ?_⟩⟩
  · intro s c bytes kind hrow alone
    refine ⟨fun f command cls timer ha hslot => ?_, fun f ha hslot => ?_, fun hon hs hl hpass => ?_⟩
    · obtain ⟨hexec, hk⟩ := exec_response hrow ha.1
      have hquiet : (s.slotFreed bytes f.tag).endStep = s.slotFreed bytes f.tag := State.endStep_quiet _ ha.2.1
      rw [hexec, responseArrives_slot ha hk, answerSlot_unowned (s := { s with mediaCheck := checkAfter bytes }) hslot]
      exact congrArg Host.Outcome.next hquiet
    · obtain ⟨hexec, hk⟩ := exec_response hrow ha.1
      rw [responseArrives_slot ha hk, answerSlot_late (s := { s with mediaCheck := checkAfter bytes }) hslot] at hexec
      obtain ⟨notices, ht, hraises⟩ := raisedAlone_ends (s := s) ha.2.1 (checkAfter bytes)
        (Table.set s.slots f.tag .free) .media .mediaLate
      exact ⟨_, notices, hexec, ht, hraises⟩
    · obtain ⟨hexec, -⟩ := exec_response hrow hon
      rw [responseArrives_failed hl hpass] at hexec
      obtain ⟨notices, ht, hraises⟩ := raisedAlone_ends hs (checkAfter bytes) s.slots .frame .frameCheck
      exact ⟨_, notices, hexec, ht, hraises⟩
  · exact mediaTimeout_quiet (t := s.setSlot n .busyLate) hon hs (by simp only [slotExpires, hslot])
  · exact mediaTimeout_quiet hon hs (slotExpires_left (.inl ⟨_, _, _, _, hslot⟩))
  · exact mediaTimeout_quiet hon hs (slotExpires_left (.inr hslot))

end Sys2Proof.Machine

end

section
/-! PROOF. One grant of the Media Arbiter, and the waiting entry that takes the tag of a granted command. -/

namespace Sys2Proof.Machine

/-! ### The one entry of a list that a test picks -/

section OneEntry

variable {α : Type} {p : α → Bool} {before after : List α} {e : α}

/-- A change of the entries that a test picks is a change of the one entry it holds of. -/
theorem map_ite_one (f : α → α) (hother : ∀ x ∈ before ++ after, p x = false) (he : p e = true) :
    (before ++ e :: after).map (fun x => if p x then f x else x) = before ++ f e :: after := by
  have hkeep : ∀ l : List α, (∀ x ∈ l, x ∈ before ++ after) → l.map (fun x => if p x then f x else x) = l := fun l hl =>
    (List.map_congr_left fun x hx => if_neg (by simp [hother x (hl x hx)])).trans (List.map_id l)
  rw [List.map_append, List.map_cons, if_pos he, hkeep before fun x hx => List.mem_append_left _ hx,
    hkeep after fun x hx => List.mem_append_right _ hx]

theorem find?_one (hother : ∀ x ∈ before ++ after, p x = false) (he : p e = true) :
    (before ++ e :: after).find? p = some e := by
  rw [List.find?_append, List.find?_eq_none.mpr, Option.none_or, List.find?_cons_of_pos he]
  intro x hx
  simp [hother x (List.mem_append_left _ hx)]

end OneEntry

/-! ### The slot and the class of a grant (R146) -/

theorem State.freeSlot_some {s : State} {t : Nat} (ht : t < 16) (hfree : s.slot t = .free)
    (hlower : ∀ k, k < t → s.slot k ≠ .free) : s.freeSlot = some t := by
  simp only [State.freeSlot, List.find?_range_eq_some, List.mem_range, decide_eq_true_eq, Bool.not_eq_true',
    decide_eq_false_iff_not]
  exact ⟨hfree, ht, hlower⟩

/-- Every class has its place in the rotation. -/
theorem MediaClass.mem_rotation (last cls : MediaClass) : cls ∈ last.rotation := by cases last <;> cases cls <;> decide

/-- The class of a grant is the first eligible one in rotation. -/
theorem State.nextClass_some {s : State} {cls : MediaClass} (hel : s.eligible cls = true)
    (hfirst : ∀ before after, s.arbiter.last.rotation = before ++ cls :: after → ∀ c ∈ before, s.eligible c = false) :
    s.nextClass = some cls := by
  obtain ⟨before, after, hrotation⟩ := List.append_of_mem (MediaClass.mem_rotation s.arbiter.last cls)
  rw [State.nextClass, hrotation, List.find?_append, List.find?_eq_none.mpr, Option.none_or,
    List.find?_cons_of_pos hel]
  intro c hc
  simp [hfirst before after hrotation c hc]

theorem Arbiter.setQueue_same (a : Arbiter) (c : MediaClass) (q : List Request) : (a.setQueue c q).queue c = q := by
  cases c <;> rfl

theorem Arbiter.setQueue_other (a : Arbiter) {c d : MediaClass} (q : List Request) (h : d ≠ c) :
    (a.setQueue c q).queue d = a.queue d := by
  cases c <;> cases d <;> simp [Arbiter.setQueue, Arbiter.queue] at h ⊢

/-! ### The owner that takes the tag (R139) -/

/-- The tag of a granted command is recorded in the block that asked, and nothing else changes. -/
theorem recordTag_fields (r : Request) (t : Nat) (s : State) :
    recordTag r t s =
      { s with
        contexts := (recordTag r t s).contexts, eraseQueue := (recordTag r t s).eraseQueue
        scanActive := (recordTag r t s).scanActive } := by
  unfold recordTag
  split
  · split <;> rfl
  · split <;> rfl
  · rfl
  · split <;> rfl

section Owners

variable {s : State} {r : Request} {c : Nat} (t : Nat)

theorem recordTag_write {w : WriteContext} (ho : r.owner = .write c) (hc : s.context c = .write w) :
    recordTag r t s =
      s.putWrite c
        { w with pending := w.pending.map (fun e => if asksFor w r e then { e with mediaTag := some t } else e) } := by
  simp only [recordTag, ho, hc]

theorem recordTag_read {x : ReadContext} (ho : r.owner = .read c) (hc : s.context c = .read x) :
    recordTag r t s = s.setContext c (.read { x with list := sendEntry r.command t x.list }) := by
  simp only [recordTag, ho, hc]

/-- The waiting entry of the erase queue that a command is for. -/
def EraseEntry.asks (command : MediaCommand) (e : EraseEntry) : Bool :=
  decide (e.volume = command.volume) && decide (e.segment = command.segment) && decide (e.progress = .waiting)

theorem EraseEntry.asks_iff (command : MediaCommand) (e : EraseEntry) :
    e.asks command = true ↔ e.volume = command.volume ∧ e.segment = command.segment ∧ e.progress = .waiting := by
  simp [EraseEntry.asks, and_assoc]

theorem recordTag_erase (ho : r.owner = .erase) :
    recordTag r t s =
      { s with
        eraseQueue := s.eraseQueue.map (fun e =>
          if e.asks r.command then { e with mediaTag := some t, progress := .sent } else e) } := by
  simp only [recordTag, ho]
  rfl

theorem recordTag_scan {x : Scan} (ho : r.owner = .scan) (hx : s.scanActive = some x) :
    recordTag r t s = s.putScan { x with list := sendEntry r.command t x.list } := by
  simp only [recordTag, ho, hx]

/-- The entry of a read list that a command asks for is sent. -/
theorem sendEntry_one {command : MediaCommand} {before after : List ReadEntry} {e : ReadEntry}
    (hother : ∀ y ∈ before ++ after, y.asks command = false) (he : e.asks command = true) :
    sendEntry command t (before ++ e :: after) = before ++ { e with mediaTag := some t, progress := .sent } :: after :=
  map_ite_one (fun e : ReadEntry => { e with mediaTag := some t, progress := .sent }) hother he

theorem recordTag_eraseQueue (h : r.owner ≠ .erase) : (recordTag r t s).eraseQueue = s.eraseQueue := by
  unfold recordTag
  split
  · split <;> rfl
  · split <;> rfl
  · next ho => exact absurd ho h
  · split <;> rfl

theorem recordTag_scanActive (h : r.owner ≠ .scan) : (recordTag r t s).scanActive = s.scanActive := by
  unfold recordTag
  split
  · split <;> rfl
  · split <;> rfl
  · rfl
  · next ho => exact absurd ho h

theorem recordTag_contexts (h : r.owner = .erase ∨ r.owner = .scan) : (recordTag r t s).contexts = s.contexts := by
  unfold recordTag
  split
  · next ho => simp [ho] at h
  · next ho => simp [ho] at h
  · rfl
  · split <;> rfl

end Owners

/-! ### The grant (R139, R146) -/

theorem grant_eq {s : State} {t : Nat} {cls : MediaClass} {r : Request} {rest : List Request}
    (hl : s.mediaLink = .ready) (hslot : s.freeSlot = some t) (hcls : s.nextClass = some cls)
    (hq : s.arbiter.queue cls = r :: rest) : grant s = grantTo cls r rest t s := by
  simp only [grant, hl, hslot, hcls, hq, if_true]

/-- What a grant writes: the slot, the Arbiter, the owner's entry and the link (R139). -/
theorem grantTo_eq (cls : MediaClass) (r : Request) (rest : List Request) (t : Nat) (s : State) :
    grantTo cls r rest t s =
      { s with
        slots := Table.set s.slots t (.busy r.command cls (some r.owner) s.mediaTimeout)
        arbiter := { s.arbiter.setQueue cls rest with last := cls }
        contexts := (recordTag r t s).contexts, eraseQueue := (recordTag r t s).eraseQueue
        scanActive := (recordTag r t s).scanActive
        mediaOut := (commandFrame r.command t (s.blocksOf r)).wire } := by
  have hfields := recordTag_fields r t s
  unfold grantTo
  generalize recordTag r t s = u at hfields
  rw [hfields]
  rfl

theorem State.blocksOf_write {s : State} {r : Request} {c : Nat} {w : WriteContext} (ho : r.owner = .write c)
    (hc : s.context c = .write w) :
    s.blocksOf r = ((w.pending.find? (asksFor w r)).map PendingWrite.data).getD [] := by
  simp only [State.blocksOf, ho, hc]

/-- Settles O43: the grant by its slot and its class, and the recorded tag by the kind of owner. -/
theorem grantFollowsRotation : Obligations.GrantFollowsRotation := by
  refine ⟨fun s t cls r rest hon hs hl hslot ht hlower hel hq hfirst => ?_,
    fun s r t => ⟨fun c w before e after ho hc hlist hother he => ?_, fun before e after ho hlist hother hv hn hp => ?_,
      fun c x before e after ho hc hlist hother he => ?_, fun x before e after ho hx hlist hother he => ?_,
      recordTag_contexts t, recordTag_eraseQueue t, recordTag_scanActive t⟩⟩
  · have hgrant := grant_eq hl (State.freeSlot_some ht hslot hlower) (State.nextClass_some hel hfirst) hq
    rw [grantTo_eq] at hgrant
    have hquiet := onEvent_quiet s grant hon (by rw [hgrant]; exact hs)
    rw [hgrant] at hquiet
    refine ⟨_, congrArg Host.Outcome.next hquiet, ?_, fun k hk => ?_, ?_, fun c hc => ?_, rfl, rfl, ⟨rfl, rfl, rfl⟩, rfl⟩
    · exact s.setSlot_slot_same t _ ht
    · exact s.setSlot_slot_other t k _ hk
    · exact s.arbiter.setQueue_same cls rest
    · exact s.arbiter.setQueue_other rest hc
  · obtain ⟨hown, hothers⟩ := State.context_of_set (s := s) (t := recordTag r t s) (State.write_lt hc)
      (congrArg State.contexts (recordTag_write t ho hc))
    refine ⟨?_, ?_, hothers⟩
    · rw [State.blocksOf_write ho hc, hlist, find?_one hother he]
      rfl
    · rw [hown, hlist, map_ite_one (fun e : PendingWrite => { e with mediaTag := some t }) hother he]
  · have hothers : ∀ x ∈ before ++ after, x.asks r.command = false := fun x hx =>
      Bool.eq_false_iff.mpr fun hasks => hother x hx ((x.asks_iff r.command).mp hasks)
    refine ⟨by simp only [State.blocksOf, ho], ?_⟩
    rw [recordTag_erase t ho, hlist]
    exact map_ite_one (fun e : EraseEntry => { e with mediaTag := some t, progress := .sent }) hothers
      ((e.asks_iff r.command).mpr ⟨hv, hn, hp⟩)
  · obtain ⟨hown, hothers⟩ := State.context_of_set (s := s) (t := recordTag r t s) (State.read_lt hc)
      (congrArg State.contexts (recordTag_read t ho hc))
    exact ⟨by rw [hown, hlist, sendEntry_one t hother he], hothers⟩
  · rw [recordTag_scan t ho hx, hlist, sendEntry_one t hother he]
    rfl

end Sys2Proof.Machine

end

section
/-! PROOF. A RESUME judged, the beginning of a reissue, and a reissue that succeeds. -/

namespace Sys2Proof.Machine

/-! ### The judgement of a RESUME (R151) -/

/-- The event of a RESUME of an Enabled officer, in the row of the table that takes it (log 19). -/
theorem exec_resume {s : State} {f : Frame} {rest : List RxFrame} (h : s.officerAsks f rest 17) :
    exec (if f.param 1 = 1 then .resumeAbandon else .resumeReissue) s = .next (actResume f (s.taken rest)).endStep := by
  obtain ⟨⟨hon, -, hrx, hroom, hform⟩, hk, hc, -, hen, ho, htag⟩ := h
  have hj : judgeControl (s.taken rest) f none none = none := judgeControl_passes _ f none none hen ho htag
  have htake : takeResume f (s.taken rest) = actResume f (s.taken rest) := by simp only [takeResume, hj]
  have hevent : ∀ pick : RxFrame → Bool, pick (.whole f) = true →
      onEvent s (takeFrame pick (onFrame takeResume)) = (actResume f (s.taken rest)).endStep := fun pick hpick => by
    rw [onEvent_on s _ hon, takeFrame_taken pick _ s _ rest hrx hpick hroom, ← htake]
    rfl
  split
  · next hd => exact congrArg Host.Outcome.next (hevent _ (by simp [isAbandon, isRequest, hform, hk, hc, hd]))
  · next hd => exact congrArg Host.Outcome.next (hevent _ (by simp [isAbandon, isRequest, hform, hk, hc, hd]))

/-- A refused RESUME is answered, and changes nothing. -/
theorem exec_resume_refused {s : State} {f : Frame} {rest : List RxFrame} {code : Code} (h : s.officerAsks f rest 17)
    (hj : judgeResume (s.taken rest) f = some code) :
    exec (if f.param 1 = 1 then .resumeAbandon else .resumeReissue) s =
      .next (s.answered rest (f.refusal code none)) := by
  have hact : actResume f (s.taken rest) = s.answered rest (f.refusal code none) := by
    obtain ⟨⟨-, -, -, hroom, -⟩, -, -, hl, hen, -, -⟩ := id h
    simp only [actResume, hj]
    exact refuseControl_answered s f rest code none hl hen hroom
  have hquiet : (s.answered rest (f.refusal code none)).endStep = s.answered rest (f.refusal code none) :=
    State.endStep_quiet _ h.1.2.1
  rw [exec_resume h, hact, hquiet]

section Rows

variable {s : State} {f : Frame} {x : FaultRecord}

theorem judgeResume_outOfRange (h : f.param 0 < 1 ∨ 4 < f.param 0) : judgeResume s f = some .outOfRange :=
  if_pos (by simpa using h)

/-- A RESUME of a record and a disposition in their ranges is judged by the record. -/
theorem judgeResume_inRange (h1 : 1 ≤ f.param 0) (h4 : f.param 0 ≤ 4) :
    judgeResume s f =
      if 1 < f.param 1 then some .format
      else
        match s.record (f.param 0) with
        | none => some .format
        | some x =>
          if x.state = .reissuing then some .format
          else if !x.settled then some .busy
          else refuseWhen (decide (f.param 1 = 0) && decide (3 ≤ x.reissues)) .limit := by
  refine (if_neg ?_).trans rfl
  simp only [Bool.or_eq_true, decide_eq_true_eq]
  omega

theorem judgeResume_held (h1 : 1 ≤ f.param 0) (h4 : f.param 0 ≤ 4) (hd : f.param 1 ≤ 1)
    (hx : s.record (f.param 0) = some x) (hheld : x.state = .held) (hset : x.settled = true) :
    judgeResume s f = refuseWhen (decide (f.param 1 = 0) && decide (3 ≤ x.reissues)) .limit := by
  rw [judgeResume_inRange h1 h4, if_neg (Nat.not_lt.mpr hd), hx]
  simp only [hheld, hset]
  rfl

end Rows

/-! ### A reissue begins (R111, R152) -/

/-- A descriptor written, whether its segment exists or not. -/
theorem State.putSegment_segment_if {s : State} (hw : s.canonical) (v n : Nat) (g : Segment) (u m : Nat) :
    (s.putSegment v n g).segment u m =
      if (u = v ∧ m = n) ∧ n < (s.volume v).count then g else s.segment u m := by
  by_cases hn : n < (s.volume v).count
  · rw [State.putSegment_segment hw hn]
    simp only [hn, and_true]
  · rw [s.putSegment_beyond v n g (Nat.not_lt.mp hn), if_neg fun h => hn h.2]

/-- Every descriptor once the segments of a list of writes are marked written, those that exist. -/
theorem markWritten_segment_if {s : State} (hw : s.canonical) (v : Nat) (l : List PendingWrite) (u m : Nat) :
    (markWritten v l s).segment u m =
      if u = v ∧ m < (s.volume u).count ∧ ∃ e ∈ l, e.segment = m then { s.segment u m with writtenSince := true }
      else s.segment u m := by
  induction l generalizing s with
  | nil => simp [markWritten]
  | cons e rest ih =>
    rw [markWritten, ih (State.putSegment_canonical hw _ _ _), (s.putSegment_count _ _ _ _).1,
      State.putSegment_segment_if hw]
    by_cases hfirst : (u = v ∧ m = e.segment) ∧ e.segment < (s.volume v).count
    · obtain ⟨⟨rfl, rfl⟩, hm⟩ := hfirst
      simp [hm]
    · have hmem : (u = v ∧ m < (s.volume u).count ∧ ∃ y ∈ e :: rest, y.segment = m) ↔
          (u = v ∧ m < (s.volume u).count ∧ ∃ y ∈ rest, y.segment = m) := by
        refine and_congr_right fun huv => and_congr_right fun hm => ?_
        have hne : e.segment ≠ m := fun h => hfirst ⟨⟨huv, h.symm⟩, by rw [h, ← huv]; exact hm⟩
        simp [hne]
      simp only [hmem, if_neg hfirst]

/-- The record of a reissue that begins (R152). -/
def FaultRecord.begun (x : FaultRecord) (i t : Nat) : FaultRecord :=
  { x with state := .reissuing, reissues := x.reissues + 1, resumer := some (i, t), writes := [] }

/-- The context that takes back the writes of its record (R152). -/
def WriteContext.takesBack (w : WriteContext) (x : FaultRecord) : WriteContext :=
  { w with state := .reissuing, pending := x.writes.map RecordWrite.toPending }

/-- The writes of a record that are written again. -/
def FaultRecord.again (x : FaultRecord) : List PendingWrite :=
  (x.writes.filter RecordWrite.needsReissue).map RecordWrite.toPending

theorem FaultRecord.again_eq (x : FaultRecord) :
    (x.writes.map RecordWrite.toPending).filter (fun e => !e.confirmed) = x.again := by
  rw [FaultRecord.again, List.filter_map]
  refine congrArg _ (List.filter_congr fun e _ => ?_)
  simp [RecordWrite.toPending]

theorem FaultRecord.exists_again (x : FaultRecord) (m : Nat) :
    (∃ e ∈ x.again, e.segment = m) ↔ ∃ e ∈ x.writes, e.needsReissue = true ∧ e.segment = m := by
  simp [FaultRecord.again, RecordWrite.toPending, and_assoc]

/-- What the beginning of a reissue writes. -/
theorem beginReissue_eq {s : State} {x : FaultRecord} {w : WriteContext} (hctx : s.context x.context = .write w)
    (r i t : Nat) :
    let z := (s.setRecord r (some (x.begun i t))).putWrite x.context (w.takesBack x)
    beginReissue r x i t s =
      { z with
        volumes := (markWritten w.volume x.again z).volumes
        arbiter := { s.arbiter with write := s.arbiter.write ++ x.again.map (w.request x.context) } } := by
  intro z
  have hmarked := markWritten_volumes w.volume x.again z
  simp only [beginReissue, hctx, FaultRecord.again_eq]
  exact congrArg (fun u : State => u.ask .write (x.again.map (w.request x.context))) hmarked

/-! ### A reissue that has succeeded (R153) -/

/-- The answer to the RESUME that asked for a reissue, if it still waits (R153). -/
def FaultRecord.resumption (y : FaultRecord) (w : WriteContext) (r : Nat) : List Frame :=
  match y.resumer with
  | some p => [controlReply p.1 p.2 17 .done [r, w.current, w.confirmedOffset]]
  | none => []

theorem FaultRecord.resumption_length (y : FaultRecord) (w : WriteContext) (r : Nat) :
    (y.resumption w r).length ≤ 1 := by
  unfold FaultRecord.resumption
  split
  · exact Nat.le_refl _
  · exact Nat.zero_le _

/-- The state once the resumer is answered, the record disposed of and the fault pending flag cleared (R153). -/
def State.reissueEnded (s : State) (r : Nat) (w : WriteContext) (frames : List Frame) : State :=
  { s with
    volumes :=
      (s.putSegment w.volume w.current { s.segment w.volume w.current with faultPending := false }).volumes
    records := Table.set1 s.records r none, txQueue := s.txQueue ++ frames }

/-- The context of a reissue that resumes Streaming (R153). -/
def WriteContext.resumed (w : WriteContext) (idleTime : Nat) : WriteContext :=
  { w with state := .streaming, credit := 3, idle := some idleTime }

section Succeeded

variable {s : State} {c r : Nat} {y : FaultRecord} {w : WriteContext}

theorem answerResumer_placed (ho : s.recordOf c = some r) (hr : s.record r = some y) (hready : s.ingestLink = .ready)
    (hres : ∀ p, y.resumer = some p → (s.initiator p.1).state ≠ .absent) (hroom : s.txQueue.length < 2048) :
    answerResumer c w s = { s with txQueue := s.txQueue ++ y.resumption w r } := by
  simp only [answerResumer, ho, hr, Option.bind_some, FaultRecord.resumption]
  cases hy : y.resumer with
  | none => simp only [List.append_nil]
  | some p =>
    exact State.send_placed s (controlReply p.1 p.2 17 .done [r, w.current, w.confirmedOffset]) hready (hres p hy) hroom

theorem disposeRecord_eq (ho : s.recordOf c = some r) :
    disposeRecord c w s =
      (s.putSegment w.volume w.current { s.segment w.volume w.current with faultPending := false }).setRecord r none := by
  have ho' : (s.putSegment w.volume w.current
      { s.segment w.volume w.current with faultPending := false }).recordOf c = some r := ho
  simp only [disposeRecord, ho']

theorem reissueEnded_eq (ho : s.recordOf c = some r) (hr : s.record r = some y) (hready : s.ingestLink = .ready)
    (hres : ∀ p, y.resumer = some p → (s.initiator p.1).state ≠ .absent) (hroom : s.txQueue.length < 2048) :
    disposeRecord c w (answerResumer c w s) = s.reissueEnded r w (y.resumption w r) := by
  rw [answerResumer_placed ho hr hready hres hroom]
  exact disposeRecord_eq (s := { s with txQueue := s.txQueue ++ y.resumption w r }) ho

theorem State.continuationOf_eq (ho : s.recordOf c = some r) (hr : s.record r = some y) :
    s.continuationOf c = some y.continuation := by
  simp only [State.continuationOf, ho, hr, Option.map_some]

/-- A reissue that resumes Draining completes its transfer. -/
theorem reissueDone_draining (ho : s.recordOf c = some r) (hr : s.record r = some y) (hears : s.hears w)
    (hres : ∀ p, y.resumer = some p → (s.initiator p.1).state ≠ .absent) (hroom : s.txQueue.length < 2048)
    (hy : y.continuation = .resumeDraining) :
    reissueDone c w s = completeWrite c { w with state := .draining } (s.reissueEnded r w (y.resumption w r)) := by
  rw [reissueDone, reissueEnded_eq ho hr hears.1 hres hroom]
  exact if_pos ((State.continuationOf_eq ho hr).trans (congrArg some hy))

/-- A reissue that resumes Streaming stores the context with credit 3 and sends the CREDIT frame. -/
theorem reissueDone_streaming (ho : s.recordOf c = some r) (hr : s.record r = some y) (hears : s.hears w)
    (hres : ∀ p, y.resumer = some p → (s.initiator p.1).state ≠ .absent) (hroom : s.txQueue.length + 2 ≤ 2048)
    (hy : y.continuation = .resumeStreaming) :
    reissueDone c w s =
      { s.reissueEnded r w (y.resumption w r) with
        contexts := Table.set s.contexts c (.write (w.resumed s.idleTime))
        txQueue := s.txQueue ++ y.resumption w r ++ [creditOf w w.current w.confirmedOffset 3] } := by
  obtain ⟨hready, hp, hrem, -⟩ := hears
  have hlen := y.resumption_length w r
  have hne : ¬ s.continuationOf c = some .resumeDraining := by
    rw [State.continuationOf_eq ho hr, hy]
    nofun
  have hkept : ¬ w.removed = true := by rw [hrem]; nofun
  rw [reissueDone, reissueEnded_eq ho hr hready hres (by omega)]
  dsimp only
  rw [if_neg hne, if_neg hkept]
  unfold State.reissueEnded
  refine State.send_placed _ (creditOf w w.current w.confirmedOffset 3) hready hp ?_
  show (s.txQueue ++ y.resumption w r).length < 2048
  rw [List.length_append]
  omega

theorem settleConfirmed_reissued (hst : w.state = .reissuing) (hp : w.pending = []) (before : Nat) :
    settleConfirmed c before w s = reissueDone c w s := by
  rw [settleConfirmed, hst]
  exact if_pos hp

theorem State.reissueEnded_records {t : State} {frames : List Frame} (hr : s.record r = some y)
    (ht : t.records = (s.reissueEnded r w frames).records) :
    t.record r = none ∧ ∀ k, k ≠ r → t.record k = s.record k := by
  have hrecord : ∀ k, t.record k = (s.setRecord r none).record k := fun k => congrArg (fun l => Table.get1 none l k) ht
  exact ⟨(hrecord r).trans (Table.get1_set1_same none s.records r none (State.record_range hr)),
    fun k hk => (hrecord k).trans (Table.get1_set1_other none s.records r k none hk)⟩

end Succeeded

/-- What a reissue that has succeeded finds: its record, its context's initiator and its resumer to hear it, and room for
their frames. -/
structure State.Reissued (s v : State) (c r : Nat) (y : FaultRecord) (w : WriteContext) (raised : CondSet)
    (causes : List Cause) : Prop where
  settled : s.settled
  inTable : c < 32
  canonical : v.canonical
  inside : w.current < (v.volume w.volume).count
  conditions : v.conditions = s.conditions.raisedWith raised causes
  named : v.recordOf c = some r
  record : v.record r = some y
  hears : v.hears w
  resumer : ∀ p, y.resumer = some p → (v.initiator p.1).state ≠ .absent
  room : v.txQueue.length + 2 ≤ 2048

section Ends

variable {s v : State} {c r : Nat} {y : FaultRecord} {w : WriteContext} {raised : CondSet} {causes : List Cause}

/-- A reissue that resumes Streaming stores the context with credit 3, sends the CREDIT frame, and ends its step. -/
theorem State.Reissued.streams (h : s.Reissued v c r y w raised causes) (hy : y.continuation = .resumeStreaming) :
    let t := (reissueDone c w v).endStep
    let g : Segment := { v.segment w.volume w.current with faultPending := false }
    ∃ notices : List Frame, notices.length ≤ 1 ∧ t.record r = none ∧ (∀ k, k ≠ r → t.record k = v.record k) ∧
      t.context c = .write { w with state := .streaming, credit := 3, idle := some v.idleTime } ∧
      (∀ d, d ≠ c → t.context d = v.context d) ∧ t.segment w.volume w.current = g ∧
      (∀ u m, ¬ (u = w.volume ∧ m = w.current) → t.segment u m = v.segment u m) ∧
      t.txQueue = v.txQueue ++ y.resumption w r ++ [creditOf w w.current w.confirmedOffset 3] ++ notices ∧
      t.conditions.accrued = s.conditions.accrued ||| raised ∧ s.completesNothing t ∧
      t = { v with
        volumes := t.volumes, contexts := t.contexts, records := t.records, conditions := t.conditions
        txQueue := t.txQueue } := by
  have hdone := reissueDone_streaming h.named h.record h.hears h.resumer h.room hy
  obtain ⟨haccrued, hnothing, notices, hnotices, htx, ht⟩ := raisedWith_endStep (s := s) (v := reissueDone c w v)
    h.settled (by rw [hdone]; exact h.conditions)
  generalize State.endStep _ = t at haccrued hnothing htx ht
  rw [hdone] at htx ht
  obtain ⟨hown, hother⟩ := State.context_of_set (s := v) (t := t) h.inTable (congrArg State.contexts ht :)
  obtain ⟨hgone, hkept⟩ := State.reissueEnded_records (w := w) (frames := y.resumption w r) h.record
    (congrArg State.records ht :)
  have hsegment := fun u m => (State.segment_congr (congrArg State.volumes ht :) u m).trans
    (State.putSegment_segment h.canonical h.inside { v.segment w.volume w.current with faultPending := false } u m)
  refine ⟨notices, hnotices, hgone, hkept, hown, hother, (hsegment _ _).trans (if_pos ⟨rfl, rfl⟩),
    fun u m hum => (hsegment u m).trans (if_neg hum), htx, haccrued, hnothing, ?_⟩
  rw [ht]
  rfl

/-- A reissue that resumes Draining completes its transfer, and ends its step. -/
theorem State.Reissued.drains (h : s.Reissued v c r y w raised causes) (hy : y.continuation = .resumeDraining)
    (hnow : v.now = s.now) (hn : w.lastBlock < (v.volume w.volume).count) :
    let t := (reissueDone c w v).endStep
    let g : Segment := { v.segment w.volume w.current with faultPending := false }
    ∃ notices : List Frame, notices.length ≤ 1 ∧ t.record r = none ∧ (∀ k, k ≠ r → t.record k = v.record k) ∧
      (v.putSegment w.volume w.current g).finishes t c w ∧ t.conditions.accrued = s.conditions.accrued ||| raised ∧
      s.reports t w.op w.outcome ∧
      t.txQueue =
        v.txQueue ++ y.resumption w r ++
          [completionFrame w (decide ((t.segment w.volume w.lastBlock).state = .closed))] ++ notices ∧
      t = { v with
        volumes := t.volumes, contexts := t.contexts, records := t.records, clock := t.clock
        conditions := t.conditions, txQueue := t.txQueue } := by
  let e := v.reissueEnded r w (y.resumption w r)
  have hlen := y.resumption_length w r
  have hroom := h.room
  have hcount : (e.volume w.volume).count = (v.volume w.volume).count := (v.putSegment_count _ _ _ _).1
  rw [reissueDone_draining h.named h.record h.hears h.resumer (by omega) hy]
  obtain ⟨hfinishes, haccrued, hreports, ⟨notices, hnotices, htx⟩, ht⟩ := completeWrite_ends (s := s) (v := e)
    (w := { w with state := .draining }) h.settled h.inTable (State.putSegment_canonical h.canonical _ _ _) hnow
    h.conditions h.hears (by simp only [e, State.reissueEnded, List.length_append]; omega) (hcount.symm ▸ hn)
  generalize State.endStep _ = t at hfinishes haccrued hreports htx ht
  obtain ⟨hgone, hkept⟩ := State.reissueEnded_records (w := w) (frames := y.resumption w r) h.record
    (congrArg State.records ht :)
  refine ⟨notices, hnotices, hgone, hkept, hfinishes, haccrued, hreports, htx, ?_⟩
  rw [ht]
  rfl

/-- A completion does not read what an answer has written beside the Map. -/
theorem State.finishes_besides {u t : State} {check : FrameCheck} {slots : Vector Slot 16} {conditions : Conditions}
    (v n : Nat) (g : Segment) (h : ((u.besides check slots conditions).putSegment v n g).finishes t c w) :
    (u.putSegment v n g).finishes t c w := by
  have hput : (u.besides check slots conditions).putSegment v n g =
      (u.putSegment v n g).besides check slots conditions := rfl
  rw [hput] at h
  generalize u.putSegment v n g = z at h
  exact h

end Ends

/-! ### The statement -/

/-- A RESUME that begins a reissue. -/
theorem exec_beginReissue {s : State} {f : Frame} {rest : List RxFrame} {x : FaultRecord} {w : WriteContext}
    (h : s.officerAsks f rest 17) (h1 : 1 ≤ f.param 0) (h4 : f.param 0 ≤ 4) (hd : f.param 1 = 0)
    (hx : s.record (f.param 0) = some x) (hheld : x.state = .held) (hset : x.settled = true) (hlimit : x.reissues < 3)
    (hctx : s.context x.context = .write w) :
    let z := ((s.taken rest).setRecord (f.param 0) (some (x.begun f.initiator f.tag))).putWrite x.context (w.takesBack x)
    exec .resumeReissue s =
      .next
        { z with
          volumes := (markWritten w.volume x.again z).volumes
          arbiter := { s.arbiter with write := s.arbiter.write ++ x.again.map (w.request x.context) } } := by
  intro z
  have hj : judgeResume (s.taken rest) f = none := by
    rw [judgeResume_held (s := s.taken rest) h1 h4 (by omega) hx hheld hset, refuseWhen_eq_none]
    simp [hlimit]
  have hrecord : (s.taken rest).record (f.param 0) = some x := hx
  have hexec := exec_resume h
  have hrow : ¬ f.param 1 = 1 := by omega
  have hact : actResume f (s.taken rest) = beginReissue (f.param 0) x f.initiator f.tag (s.taken rest) := by
    simp only [actResume, hj, hrecord, hd, if_true]
  rw [if_neg hrow, hact, beginReissue_eq (s := s.taken rest) hctx, State.endStep_quiet _ (by exact h.1.2.1)] at hexec
  exact hexec

/-- Settles O40: the rows of the judgement, the state in which a reissue begins, and the last answer of a reissue by the
continuation of its record. -/
theorem resumeReissues : Obligations.ResumeReissues := by
  refine ⟨?_, ?_, ?_⟩
  · intro s f rest h refuses
    refine ⟨fun hout => exec_resume_refused h (judgeResume_outOfRange hout), fun h1 h4 => ⟨fun hd => ?_, fun hd hx => ?_,
      fun x hd hx => ⟨fun hst => ?_, fun hst hset => ?_, fun hst hset hd0 hlimit => ?_⟩⟩⟩
    · exact exec_resume_refused h ((judgeResume_inRange h1 h4).trans (if_pos hd))
    all_goals
      have hrecord : (s.taken rest).record (f.param 0) = s.record (f.param 0) := rfl
      refine exec_resume_refused h ((judgeResume_inRange h1 h4).trans ((if_neg (Nat.not_lt.mpr hd)).trans ?_))
      rw [hrecord, hx]
    · simp only [hst, if_true]
    · simp [hst, hset]
    · simp [hst, hset, hd0, hlimit, refuseWhen]
  · intro s f rest x w h h1 h4 hd hx hheld hset hlimit hctx hw
    have hexec := exec_beginReissue h h1 h4 hd hx hheld hset hlimit hctx
    have hc := State.write_lt hctx
    let z := ((s.taken rest).setRecord (f.param 0) (some (x.begun f.initiator f.tag))).putWrite x.context (w.takesBack x)
    refine ⟨_, hexec, ?_, fun r hr => ?_, ?_, fun d hd => ?_, ?_, fun v m => ?_, rfl⟩
    · exact Table.get1_set1_same none s.records _ _ ⟨h1, h4⟩
    · exact Table.get1_set1_other none s.records _ _ _ hr
    · exact s.setContext_context_same _ _ hc
    · exact s.setContext_context_other _ _ _ hd
    · simp only [FaultRecord.again, List.map_map]
      rfl
    · have hsegment := markWritten_segment_if (s := z) hw w.volume x.again v m
      simp only [FaultRecord.exists_again] at hsegment
      exact ⟨fun hagain => hsegment.trans (if_pos hagain), fun hnot => hsegment.trans (if_neg hnot)⟩
  · intro s bytes f c r w run y h hst ho hr hroom hres
    obtain ⟨causes, hexec⟩ := exec_confirms h
    obtain ⟨hfolds, hu, hx, hw, hnow, hcurrent⟩ := h.folds
    have hcount := hfolds.2.1
    obtain ⟨⟨⟨-, hs, -⟩, -, -, -, hctx, -⟩, -, hstands, hears, -⟩ := h
    have hc := State.write_lt hctx
    generalize foldRun run w s = p at hexec hfolds hu hx hw hnow hcurrent hcount
    obtain ⟨x, u⟩ := p
    obtain ⟨current, confirmedOffset, next, rfl⟩ := hx
    obtain ⟨volumes, clock, rfl⟩ := hu
    let x : WriteContext := { w with current := current, confirmedOffset := confirmedOffset, next := next }
    let done := w.folded x f run []
    let u : State := { s with volumes := volumes, clock := clock }
    let v := u.besides (checkAfter bytes) (s.slots.setIfInBounds f.tag .free) (s.conditions.raisedWith (softSet f) causes)
    rw [settleConfirmed_reissued (s := v) (w := done) hst rfl] at hexec
    have hreissued : s.Reissued v c r y done (softSet f) causes :=
      ⟨hs, hc, hw, hcurrent, rfl, ho, hr, hears, hres, hroom⟩
    cases hcont : y.continuation with
    | resumeStreaming =>
      obtain ⟨notices, hnotices, hgone, hkept, hown, hother, hplace, helse, htx, haccrued, hnothing, ht⟩ :=
        hreissued.streams hcont
      generalize State.endStep _ = t at *
      refine ⟨t, u, x, notices, hexec, hfolds, hnotices, hgone, hkept, hother, haccrued,
        fun _ => ⟨hown, hplace, helse, htx, (congrArg State.clock ht :), hnothing⟩, nofun, ?_⟩
      rw [ht]
      rfl
    | resumeDraining =>
      have hn : done.lastBlock < (v.volume w.volume).count := by
        rcases done.lastBlock_or with hx | hx <;> rw [hx]
        · exact (hcount w.volume).symm ▸ State.segmentExists_lt (hstands _ (.inl rfl))
        · exact hcurrent
      obtain ⟨notices, hnotices, hgone, hkept, hfinishes, haccrued, hreports, htx, ht⟩ :=
        hreissued.drains hcont hnow hn
      generalize State.endStep _ = t at *
      refine ⟨t, u, x, notices, hexec, hfolds, hnotices, hgone, hkept, hfinishes.2.1, haccrued, nofun,
        fun _ => ⟨State.finishes_besides _ _ _ hfinishes, hreports, htx⟩, ?_⟩
      rw [ht]
      rfl

end Sys2Proof.Machine

end

section
/-! PROOF. A loss of the Media Link. -/

namespace Sys2Proof.Machine

/-! ### What a loss of the link leaves alone -/

/-- A descriptor g became h: a fault pending flag stays, and its state moves, if at all, from Erasing to Expired (R22,
R150). -/
structure Segment.Outlasts (g h : Segment) : Prop where
  flag : g.faultPending = true → h.faultPending = true
  state : h.state = g.state ∨ (g.state = .erasing ∧ h.state = .expired)

theorem Segment.Outlasts.refl (g : Segment) : g.Outlasts g := ⟨id, .inl rfl⟩

theorem Segment.Outlasts.trans {g h k : Segment} (a : g.Outlasts h) (b : h.Outlasts k) : g.Outlasts k := by
  refine ⟨b.flag ∘ a.flag, ?_⟩
  rcases a.state with ha | ⟨ha, ha'⟩ <;> rcases b.state with hb | ⟨hb, hb'⟩
  · exact .inl (hb.trans ha)
  · exact .inr ⟨ha ▸ hb, hb'⟩
  · exact .inr ⟨ha, hb.trans ha'⟩
  · exact .inr ⟨ha, hb'⟩

theorem Segment.outlasts_without (g : Segment) (c : Nat) : g.Outlasts (g.without c) := by
  unfold Segment.without
  split <;> exact ⟨id, .inl rfl⟩

/-- Between s and t the loss has acted on the contexts of a list, their records, the Map and the owners of slots, and
nothing that it has done elsewhere is taken back. -/
structure State.Spares (s t : State) (l : List Nat) : Prop where
  frame : t = { s with
    txQueue := t.txQueue, volumes := t.volumes, contexts := t.contexts, slots := t.slots, records := t.records
    eraseQueue := t.eraseQueue, scanActive := t.scanActive, collection := t.collection
    arbiter := { t.arbiter with last := s.arbiter.last }
    conditions :=
      { t.conditions with enables := s.conditions.enables, noticeInitiator := s.conditions.noticeInitiator } }
  free : ∀ k, s.slot k = .free → t.slot k = .free
  context : ∀ c, c ∉ l → t.context c = s.context c
  record : ∀ k x, x.context ∉ l → (t.record k = some x ↔ s.record k = some x)
  used : ∀ k, s.record k ≠ none → t.record k ≠ none
  map : s.Rewrites Segment.Outlasts t
  accrued : ∀ n, s.conditions.accrued.getLsbD n = true → t.conditions.accrued.getLsbD n = true
  queue : s.txQueue <+: t.txQueue

/-- The same for the contexts alone, which place at most n frames: the erase queue and the Active scan stand. -/
structure State.Unsends (s t : State) (l : List Nat) (n : Nat) : Prop extends s.Spares t l where
  erases : t.eraseQueue = s.eraseQueue
  scan : t.scanActive = s.scanActive
  placed : t.txQueue.length ≤ s.txQueue.length + n

namespace State.Spares

variable {s t u : State} {l m : List Nat}

theorem refl (s : State) (l : List Nat) : s.Spares s l where
  frame := rfl
  free _ := id
  context _ _ := rfl
  record _ _ _ := Iff.rfl
  used _ := id
  map := .of_volumes .refl rfl
  accrued _ := id
  queue := List.prefix_rfl

theorem trans (h : s.Spares t l) (k : t.Spares u l) : s.Spares u l where
  frame := by rw [k.frame, h.frame]
  free n := k.free n ∘ h.free n
  context c hc := (k.context c hc).trans (h.context c hc)
  record n x hx := (k.record n x hx).trans (h.record n x hx)
  used n := k.used n ∘ h.used n
  map := h.map.trans (fun _ _ _ => .trans) k.map
  accrued n := k.accrued n ∘ h.accrued n
  queue := h.queue.trans k.queue

theorem mono (h : s.Spares t l) (hl : l ⊆ m) : s.Spares t m :=
  { h with
    context := fun c hc => h.context c fun hin => hc (hl hin)
    record := fun k x hx => h.record k x fun hin => hx (hl hin) }

theorem recordOf {c : Nat} (h : s.Spares t l) (hc : c ∉ l) : t.recordOf c = s.recordOf c := by
  have hsame : ∀ k, (t.record k).map FaultRecord.context = some c ↔ (s.record k).map FaultRecord.context = some c :=
    fun k => by
      simp only [Option.map_eq_some_iff]
      refine exists_congr fun x => and_congr_left fun hx => h.record k x ?_
      rw [hx]
      exact hc
  unfold State.recordOf
  simp only [hsame]

theorem initiator (h : s.Spares t l) (i : Nat) : t.initiator i = s.initiator i := by
  rw [h.frame]
  rfl

theorem ingestLink (h : s.Spares t l) : t.ingestLink = s.ingestLink := by rw [h.frame]

theorem hears {w : WriteContext} (h : s.Spares t l) (hw : s.hears w) : t.hears w := by
  obtain ⟨hready, hp, hrem, hsilent⟩ := hw
  exact ⟨h.ingestLink.trans hready, by rw [h.initiator]; exact hp, hrem, hsilent⟩

theorem exists_count (h : s.Spares t l) {v n : Nat} (hn : s.segmentExists v n = true) : n < (t.volume v).count := by
  rw [h.map.count]
  exact State.segmentExists_lt hn

end State.Spares

/-- The record found for a context is in use and names it. -/
theorem State.recordOf_exists {s : State} {c r : Nat} (h : s.recordOf c = some r) :
    ∃ x, s.record r = some x ∧ x.context = c := by
  simpa [Option.map_eq_some_iff] using List.find?_some h

theorem State.recordOf_context {s : State} {c r : Nat} {x : FaultRecord} (h : s.recordOf c = some r)
    (hr : s.record r = some x) : x.context = c := by
  obtain ⟨y, hy, hyc⟩ := State.recordOf_exists h
  injection hr.symm.trans hy with hxy
  exact hxy ▸ hyc

/-- The Free record found is Free. -/
theorem State.freeRecord_free {s : State} {r : Nat} (h : s.freeRecord = some r) :
    (1 ≤ r ∧ r ≤ 4) ∧ s.record r = none := by
  refine ⟨?_, by simpa using List.find?_some h⟩
  have hmem : r ∈ List.range' 1 4 := List.mem_of_find?_eq_some h
  rw [List.mem_range'_1] at hmem
  omega

/-- With no Free record found each of the four is in use. -/
theorem State.record_used {s : State} (h : s.freeRecord = none) {r : Nat} (h1 : 1 ≤ r) (h4 : r ≤ 4) :
    s.record r ≠ none := by
  have hmem : r ∈ List.range' 1 4 := List.mem_range'_1.mpr (by omega)
  simpa using List.find?_eq_none.mp h r hmem

/-- A settling is announced by at most one frame, and with a notice cause (R150, R154). -/
theorem announceSettled_eq (x : FaultRecord) (w : WriteContext) (r : Nat) (s : State) :
    ∃ frames causes, frames.length ≤ 1 ∧ announceSettled x w r s =
      { s with txQueue := s.txQueue ++ frames, conditions := { s.conditions with causes := causes } } := by
  have hsend : ∀ f, ∃ frames : List Frame, frames.length ≤ 1 ∧ s.send f = { s with txQueue := s.txQueue ++ frames } :=
    fun f => by
      rcases s.send_cases f with h | ⟨-, h⟩ <;> rw [h]
      · exact ⟨[], Nat.zero_le 1, by rw [List.append_nil]⟩
      · exact ⟨[f], le_rfl, rfl⟩
  have hsame : s = { s with txQueue := s.txQueue ++ [] } := by rw [List.append_nil]
  unfold announceSettled sendResumerFault State.sendFor
  split
  · split
    · exact ⟨[], _, Nat.zero_le 1, congrArg (State.note · (.faultRecord r)) hsame⟩
    · obtain ⟨frames, hlen, h⟩ := hsend (faultedFrame w r x.kind)
      exact ⟨frames, _, hlen, congrArg (State.note · (.faultRecord r)) h⟩
  · split
    · obtain ⟨frames, hlen, h⟩ := hsend _
      exact ⟨frames, _, hlen, h⟩
    · exact ⟨[], _, Nat.zero_le 1, hsame⟩

namespace State.Unsends

variable {s t u : State} {l m : List Nat} {n k : Nat}

theorem refl (s : State) (l : List Nat) : s.Unsends s l 0 where
  toSpares := .refl s l
  erases := rfl
  scan := rfl
  placed := le_rfl

theorem trans (h : s.Unsends t l n) (hk : t.Unsends u l k) : s.Unsends u l (n + k) where
  toSpares := h.toSpares.trans hk.toSpares
  erases := hk.erases.trans h.erases
  scan := hk.scan.trans h.scan
  placed := by
    have := h.placed
    have := hk.placed
    omega

theorem mono (h : s.Unsends t l n) (hl : l ⊆ m) (hn : n ≤ k) : s.Unsends t m k :=
  { h with
    toSpares := h.toSpares.mono hl
    placed := h.placed.trans (Nat.add_le_add_left hn _) }

/-- Steps on two lists, the later of which places no frame. -/
theorem trans' (h : s.Unsends t l n) (hk : t.Unsends u m 0) : s.Unsends u (l ++ m) n :=
  (h.mono (List.subset_append_left _ _) le_rfl).trans (hk.mono (List.subset_append_right _ _) le_rfl)

theorem upTo (h : s.Unsends t l n) (hn : n ≤ k) : s.Unsends t l k := h.mono (fun _ => id) hn

/-- The Condition Unit, the Arbiter and the owners of slots change, and frames are placed. -/
theorem kept {frames : List Frame} (l : List Nat)
    (ht : t = { s with
      txQueue := t.txQueue, slots := t.slots, arbiter := { t.arbiter with last := s.arbiter.last }
      conditions :=
        { t.conditions with enables := s.conditions.enables, noticeInitiator := s.conditions.noticeInitiator } })
    (hq : t.txQueue = s.txQueue ++ frames) (hfree : ∀ k, s.slot k = .free → t.slot k = .free)
    (haccrued : ∀ n, s.conditions.accrued.getLsbD n = true → t.conditions.accrued.getLsbD n = true) :
    s.Unsends t l frames.length := by
  have hcontext : ∀ c, t.context c = s.context c := fun c => by rw [ht]; rfl
  have hrecord : ∀ k, t.record k = s.record k := fun k => by rw [ht]; rfl
  exact {
    frame := by
      rw [ht]
    free := hfree
    context := fun c _ => hcontext c
    record := fun k x _ => by rw [hrecord]
    used := fun k hk => by rw [hrecord]; exact hk
    map := .of_volumes .refl (by rw [ht])
    accrued := haccrued
    queue := ⟨frames, hq.symm⟩
    erases := by rw [ht]
    scan := by rw [ht]
    placed := by rw [hq, List.length_append] }

theorem getLsbD_raise (s : State) (op : Operation) (c : Cond) {n : Nat}
    (h : s.conditions.accrued.getLsbD n = true) : (s.raise op c).conditions.accrued.getLsbD n = true := by
  rw [State.raise_eq]
  simp [h]

theorem send (s : State) (f : Frame) (l : List Nat) : s.Unsends (s.send f) l 1 := by
  rcases s.send_cases f with hs | ⟨-, hs⟩ <;> rw [hs]
  · exact (refl s l).upTo (Nat.zero_le 1)
  · exact kept (frames := [f]) l rfl rfl (fun _ => id) fun _ => id

theorem setContext (s : State) {c : Nat} (hc : c ∈ l) (x : Context) : s.Unsends (s.setContext c x) l 0 :=
  { refl s l with
    frame := rfl
    context := fun d hd => State.setContext_context_other s c d x fun hdc => hd (hdc ▸ hc) }

theorem setRecord (s : State) {r : Nat} {x : FaultRecord} (hr : 1 ≤ r ∧ r ≤ 4) (hx : x.context ∈ l)
    (hold : ∀ y, s.record r = some y → y.context ∈ l) : s.Unsends (s.setRecord r (some x)) l 0 := by
  have hown := Table.get1_set1_same none s.records r (some x) hr
  have hother := fun k (hk : k ≠ r) => Table.get1_set1_other none s.records r k (some x) hk
  refine { refl s l with frame := rfl, record := fun k y hy => ?_, used := fun k hk => ?_ }
  · by_cases hkr : k = r
    · subst hkr
      refine iff_of_false (fun h => ?_) fun h => hy (hold y h)
      injection (hown.symm.trans h) with hxy
      exact hy (hxy ▸ hx)
    · exact iff_of_eq (congrArg (· = some y) (hother k hkr))
  · by_cases hkr : k = r
    · subst hkr
      exact fun h => nomatch hown.symm.trans h
    · exact fun h => hk ((hother k hkr).symm.trans h)

theorem put (s : State) (v i : Nat) {g : Segment} (hg : (s.segment v i).Outlasts g) (l : List Nat) :
    s.Unsends (s.putSegment v i g) l 0 :=
  { refl s l with
    frame := rfl
    map := .put .refl s v i hg }

theorem raise (s : State) (op : Operation) (x : Cond) (l : List Nat) : s.Unsends (s.raise op x) l 0 :=
  kept (frames := []) l rfl (List.append_nil _).symm (fun _ => id) fun _ => getLsbD_raise s op x

theorem complete (s : State) (op : Operation) (o : CondSet) (l : List Nat) : s.Unsends (s.complete op o) l 0 := by
  rw [State.complete_eq]
  exact kept (frames := []) l rfl (List.append_nil _).symm (fun _ => id) fun _ => id

theorem orphanAll (s : State) (tags l : List Nat) : s.Unsends (s.orphanAll tags) l 0 := by
  have heq := s.orphanAll_eq tags
  refine kept (frames := []) l (by rw [heq]) (by rw [heq, List.append_nil]) (fun k hk => ?_) fun n hn => ?_
  · rw [State.orphanAll_slot, hk]
    exact ite_self _
  · rw [heq]
    exact hn

theorem announceSettled (x : FaultRecord) (w : WriteContext) (r : Nat) (s : State) (l : List Nat) :
    s.Unsends (announceSettled x w r s) l 1 := by
  obtain ⟨frames, causes, hlen, heq⟩ := announceSettled_eq x w r s
  rw [heq]
  have hkept : s.Unsends { s with
      txQueue := s.txQueue ++ frames, conditions := { s.conditions with causes := causes } } l frames.length :=
    kept l rfl rfl (fun _ => id) fun _ => id
  exact hkept.upTo hlen

/-! ### Contexts that are freed or settled -/

theorem clearWriters (w : WriteContext) (c : Nat) (s : State) (l : List Nat) :
    s.Unsends (clearWriters w c s) l 0 := by
  rw [clearWriters_clearEach]
  generalize w.startSegment :: w.current :: w.next.toList = segments
  induction segments generalizing s with
  | nil => exact refl s l
  | cons n rest ih =>
    refine trans (n := 0) ?_ (ih _)
    rcases s.clearWriter_eq w.volume n c with h | h <;> rw [h]
    · exact put s _ _ (Segment.outlasts_without _ c) l
    · exact refl s l

variable {c : Nat} (hc : c ∈ l)
include hc

theorem freeWrite (w : WriteContext) (s : State) : s.Unsends (freeWrite c w s) l 0 :=
  ((clearWriters w c s l).trans (setContext _ hc .free)).trans (complete _ _ _ l)

theorem settleAborting (w : WriteContext) (s : State) : s.Unsends (settleAborting c w s) l 1 := by
  have hfree := (freeWrite hc w s).upTo (Nat.zero_le 1)
  unfold Machine.settleAborting freeAborting State.sendFor
  split
  · dsimp only
    split
    · exact hfree
    · split
      · split
        · exact hfree
        · exact (freeWrite hc w s).trans (send _ _ l)
      · exact hfree
  · exact (setContext s hc _).upTo (Nat.zero_le 1)

theorem recorded {r : Nat} {x : FaultRecord} (hx : x.context = c) {s : State} (hr : s.record r = some x)
    (w : WriteContext) : s.Unsends (s.recorded c r x w) l 0 := by
  have hin : x.context ∈ l := hx ▸ hc
  have hstored := setContext s hc (.write { w with pending := [] })
  have hput := put (s.putWrite c { w with pending := [] }) w.volume w.current
    (g := { s.segment w.volume w.current with faultPending := true }) ⟨fun _ => rfl, .inl rfl⟩ l
  refine (hstored.trans hput).trans (setRecord _ (State.record_range hr) (x := x.settle w) hin fun y hy => ?_)
  injection (hr.symm.trans hy) with hxy
  exact hxy ▸ hin

theorem settleFaulted (w : WriteContext) (s : State) : s.Unsends (settleFaulted c w s) l 1 := by
  have hput := (setContext s hc (.write w)).upTo (Nat.zero_le 1)
  unfold Machine.settleFaulted
  split
  · exact hput
  · split
    · split
      · next r ho _ x hx =>
        exact (recorded hc (State.recordOf_context ho hx) hx w).trans (announceSettled _ w r _ l)
      · exact hput
    · exact hput

theorem settleRead (r : ReadContext) (s : State) : s.Unsends (settleRead c r s) l 1 := by
  unfold Machine.settleRead
  split
  · exact ((setContext s hc .free).trans (send _ _ l)).trans (complete _ _ _ l)
  · exact (setContext s hc _).upTo (Nat.zero_le 1)

end State.Unsends

/-! ### The sent writes of a context fail (R90, R99, R148, R149, R154) -/

/-- The failed writes are the sent ones (R99). -/
def PendingWrite.sent (e : PendingWrite) : Bool := e.mediaTag.isSome

/-- The Faulted context that a loss of the link leaves of a context that does not abort: no write of its list waits for
an answer. -/
def WriteContext.unsent (w : WriteContext) : WriteContext :=
  { w with
    state := .faulted, credit := if w.state = .faulted then w.credit else 0
    idle := if w.state = .faulted then w.idle else none, outcome := w.outcome ||| Cond.mediaFault.bit
    pending := w.pending.map (fun e => { e with mediaTag := none }) }

/-- The list of an Aborting context loses its oldest sent write and every newer one (R90). -/
def WriteContext.cutShort (w : WriteContext) : WriteContext :=
  { w with
    outcome := w.outcome ||| Cond.mediaFault.bit
    pending := w.pending.takeWhile (fun e => decide (e.mediaTag = none)) }

/-- No write of the context waits for an answer. -/
def WriteContext.untagged (w : WriteContext) : Prop := ∀ e ∈ w.pending, e.mediaTag = none

theorem WriteContext.unsent_untagged (w : WriteContext) : w.unsent.untagged := by
  simp [WriteContext.untagged, WriteContext.unsent]

theorem WriteContext.cutShort_untagged (w : WriteContext) : w.cutShort.untagged := fun _ he => by
  simpa using List.mem_takeWhile_imp he

theorem WriteContext.recordWrites_unsent (w : WriteContext) :
    recordWrites w.unsent.pending = recordWrites w.pending := by
  simp [recordWrites, WriteContext.unsent]

theorem clearFailed_sent (l : List PendingWrite) :
    clearFailed PendingWrite.sent l = l.map (fun e => { e with mediaTag := none }) := by
  refine List.map_congr_left fun e _ => ?_
  split
  · rfl
  · next h => rw [← Option.not_isSome_iff_eq_none.mp h]

theorem takeWhile_unsent (l : List PendingWrite) :
    l.takeWhile (fun e => !e.sent) = l.takeWhile (fun e => decide (e.mediaTag = none)) := by
  refine congrArg (List.takeWhile · l) (funext fun e => ?_)
  unfold PendingWrite.sent
  cases e.mediaTag <;> rfl

/-- MEDIA_FAULT is raised, the waiting writes of context c are withdrawn, and record r becomes x (R148, R154). -/
def State.takesFault (s : State) (c : Nat) (op : Operation) (r : Nat) (x : FaultRecord) : State :=
  { s with
    arbiter := s.arbiter.withoutWrites c, records := Table.set1 s.records r (some x)
    conditions := (s.raise op .mediaFault).conditions }

section Fails

variable {s : State} {c r : Nat} {w : WriteContext} {x : FaultRecord}

/-- A Streaming or Draining context takes the Free record found for it. -/
theorem failLive_taken (h : s.freeRecord = some r) (hst : w.state ≠ .faulted) (kind : FaultKind) (cont : Continuation) :
    failLive c kind cont PendingWrite.sent w s =
      settleFaulted c w.unsent (s.takesFault c w.op r (FaultRecord.fresh c w kind cont s.now)) := by
  simp only [failLive, h, clearFailed_sent, WriteContext.unsent, if_neg hst]
  rfl

/-- With no record Free the context passes to Aborting. -/
theorem failLive_full (h : s.freeRecord = none) (kind : FaultKind) (cont : Continuation)
    (failed : PendingWrite → Bool) :
    failLive c kind cont failed w s =
      failAborting c failed
        { w with
          state := .aborting, idle := none, fatal := some (w.fatal.getD .faultLost)
          outcome := w.outcome ||| Cond.faultLost.bit }
        (s.raise w.op .faultLost) := by
  simp only [failLive, h]
  rfl

theorem failFaulted_sent (hst : w.state = .faulted) :
    failFaulted c PendingWrite.sent w s =
      settleFaulted c w.unsent { s with conditions := (s.raise w.op .mediaFault).conditions } := by
  simp only [failFaulted, raiseFor, clearFailed_sent, WriteContext.unsent, ← hst]
  rfl

/-- A failed reissue returns its record to Held. -/
theorem failReissuing_held (ho : s.recordOf c = some r) (hr : s.record r = some x) (hst : w.state ≠ .faulted)
    (kind : FaultKind) :
    failReissuing c kind PendingWrite.sent w s =
      settleFaulted c w.unsent (s.takesFault c w.op r { x with state := .held, settled := false, kind := kind }) := by
  have ho' : (((s.raise w.op .mediaFault).withdrawWrites c).recordOf c) = some r := ho
  have hr' : (((s.raise w.op .mediaFault).withdrawWrites c).record r) = some x := hr
  simp only [failReissuing, raiseFor, clearFailed_sent, ho', hr', WriteContext.unsent, if_neg hst]
  rfl

theorem failReissuing_lost (ho : s.recordOf c = none) (hst : w.state ≠ .faulted) (kind : FaultKind) :
    failReissuing c kind PendingWrite.sent w s =
      settleFaulted c w.unsent
        { s with
          arbiter := s.arbiter.withoutWrites c
          conditions := (s.raise w.op .mediaFault).conditions } := by
  have ho' : (((s.raise w.op .mediaFault).withdrawWrites c).recordOf c) = none := ho
  simp only [failReissuing, raiseFor, clearFailed_sent, ho', WriteContext.unsent, if_neg hst]
  rfl

theorem failAborting_sent (c : Nat) (w : WriteContext) (s : State) :
    failAborting c PendingWrite.sent w s =
      settleAborting c w.cutShort
        { s with
          slots := (s.orphanAll (sentBehind PendingWrite.sent w.pending)).slots
          arbiter := { s.arbiter with
            write := s.arbiter.write.filter (fun r => !w.askedFor c (failedOn PendingWrite.sent w.pending) r) }
          conditions := (s.raise w.op .mediaFault).conditions } := by
  rw [failAborting_eq, takeWhile_unsent]
  rfl

/-- From s the context c is settled into t once its record, its requests and its slots have moved, with no write that
waits for an answer. -/
def State.reaches (s t : State) (c : Nat) : Prop :=
  ∃ v y, s.Unsends v [c] 0 ∧ y.untagged ∧ v.conditions.accrued.getLsbD Cond.mediaFault.number = true ∧
    (t = settleFaulted c y v ∨ t = settleAborting c y v)

theorem State.reaches.after {t u : State} (k : u.reaches t c) (h : s.Unsends u [c] 0) : s.reaches t c := by
  obtain ⟨v, y, hv, hy, hset, ht⟩ := k
  exact ⟨v, y, h.trans hv, hy, hset, ht⟩

theorem State.raise_mediaFault (s : State) (op : Operation) :
    (s.raise op .mediaFault).conditions.accrued.getLsbD Cond.mediaFault.number = true := by
  rw [State.raise_eq, BitVec.getLsbD_or, show Cond.mediaFault.bit.getLsbD Cond.mediaFault.number = true from by decide,
    Bool.or_true]

theorem State.Unsends.raised {u : State} {a : Arbiter} (hu : u.conditions = s.conditions)
    (ha : a.last = u.arbiter.last) (op : Operation) (b : Cond) (l : List Nat) :
    u.Unsends { u with arbiter := a, conditions := (s.raise op b).conditions } l 0 := by
  refine .kept (frames := []) l ?_ (List.append_nil _).symm (fun _ => id) fun n hn => ?_
  · rw [← ha, hu]
    rfl
  · exact State.Unsends.getLsbD_raise s op b (hu ▸ hn)

theorem failAborting_reaches (c : Nat) (w : WriteContext) (s : State) :
    s.reaches (failAborting c PendingWrite.sent w s) c := by
  refine ⟨_, w.cutShort, ?_, w.cutShort_untagged, by exact s.raise_mediaFault w.op, .inr (failAborting_sent c w s)⟩
  have hslots := State.Unsends.orphanAll s (sentBehind PendingWrite.sent w.pending) [c]
  rw [State.orphanAll_eq] at hslots
  refine hslots.trans (k := 0) (State.Unsends.raised (s := s) (u := { s with slots := _ }) ?_ ?_ w.op .mediaFault [c])
  · rfl
  · rfl

theorem State.takesFault_unsends (hr : 1 ≤ r ∧ r ≤ 4) (hx : x.context = c)
    (hold : ∀ y, s.record r = some y → y.context = c) (op : Operation) : s.Unsends (s.takesFault c op r x) [c] 0 :=
  (State.Unsends.setRecord s hr (List.mem_singleton.mpr hx) fun y hy => List.mem_singleton.mpr (hold y hy)).trans
    (State.Unsends.raised (s := s) (u := s.setRecord r (some x)) (a := s.arbiter.withoutWrites c) rfl rfl op
      .mediaFault [c])

theorem failLive_reaches (kind : FaultKind) (cont : Continuation) (hst : w.state ≠ .faulted) (c : Nat) (s : State) :
    s.reaches (failLive c kind cont PendingWrite.sent w s) c := by
  cases h : s.freeRecord with
  | some r =>
    obtain ⟨hr, hnone⟩ := State.freeRecord_free h
    exact ⟨s.takesFault c w.op r (FaultRecord.fresh c w kind cont s.now), w.unsent,
      State.takesFault_unsends (x := FaultRecord.fresh c w kind cont s.now) hr rfl (by rw [hnone]; nofun) w.op,
      w.unsent_untagged, s.raise_mediaFault w.op, .inl (failLive_taken h hst kind cont)⟩
  | none =>
    rw [failLive_full h]
    exact (failAborting_reaches c _ _).after (.raise s _ _ _)

theorem failReissuing_reaches (kind : FaultKind) (hst : w.state ≠ .faulted) (c : Nat) (s : State) :
    s.reaches (failReissuing c kind PendingWrite.sent w s) c := by
  cases ho : s.recordOf c with
  | some r =>
    obtain ⟨x, hr, hx⟩ := State.recordOf_exists ho
    exact ⟨s.takesFault c w.op r { x with state := .held, settled := false, kind := kind }, w.unsent,
      State.takesFault_unsends (x := { x with state := .held, settled := false, kind := kind }) (State.record_range hr)
        hx (fun _ => State.recordOf_context ho) w.op, w.unsent_untagged,
      s.raise_mediaFault w.op, .inl (failReissuing_held ho hr hst kind)⟩
  | none =>
    refine ⟨_, w.unsent, ?_, w.unsent_untagged, by exact s.raise_mediaFault w.op, .inl (failReissuing_lost ho hst kind)⟩
    exact State.Unsends.raised (s := s) (a := s.arbiter.withoutWrites c) rfl rfl w.op .mediaFault [c]

/-- The failure of the sent writes of a context, by its state (R90). -/
theorem writeFails_reaches (c : Nat) (w : WriteContext) (s : State) :
    s.reaches (writeFails c .linkReset PendingWrite.sent w s) c := by
  unfold writeFails
  split
  · next h => exact failLive_reaches _ _ (by rw [h]; nofun) c s
  · next h => exact failLive_reaches _ _ (by rw [h]; nofun) c s
  · exact failAborting_reaches c w s
  · next h =>
    refine ⟨_, w.unsent, ?_, w.unsent_untagged, by exact s.raise_mediaFault w.op, .inl (failFaulted_sent h)⟩
    exact State.Unsends.raised (s := s) rfl rfl w.op .mediaFault [c]
  · next h => exact failReissuing_reaches _ (by rw [h]; nofun) c s

end Fails

/-! ### The context that the loss leaves -/

/-- A write of the context is sent. -/
def Context.writesSent : Context → Bool
  | .write w => w.pending.any PendingWrite.sent
  | .read _ => false
  | .free => false

/-- An entry of the read is sent. -/
def Context.readsSent : Context → Bool
  | .read r => r.list.any (fun e => decide (e.progress = .sent))
  | .write _ => false
  | .free => false

/-- No entry of the context waits for an answer. -/
def Context.quiet (x : Context) : Prop := x.writesSent = false ∧ x.readsSent = false

theorem WriteContext.untagged_iff (w : WriteContext) : w.untagged ↔ (Context.write w).writesSent = false := by
  simp [WriteContext.untagged, Context.writesSent, PendingWrite.sent]

theorem WriteContext.untagged.quiet {w : WriteContext} (h : w.untagged) : (Context.write w).quiet :=
  ⟨w.untagged_iff.mp h, rfl⟩

section Left

variable {s t : State} {c r : Nat} {w : WriteContext} {x : FaultRecord} {l : List Nat}

/-- An Aborting context is Free when its list is empty, and stands otherwise. -/
theorem settleAborting_contexts (c : Nat) (w : WriteContext) (s : State) :
    (settleAborting c w s).contexts = Table.set s.contexts c (if w.pending = [] then .free else .write w) := by
  unfold settleAborting freeAborting State.sendFor
  split
  · have hfree : (freeWrite c w s).contexts = Table.set s.contexts c .free := by rw [freeWrite_eq]
    dsimp only
    split
    · exact hfree
    · split
      · split
        · exact hfree
        · rw [State.send_contexts, hfree]
      · exact hfree
  · rfl

/-- A read is Free when its list is empty, and stands otherwise. -/
theorem settleRead_contexts (c : Nat) (r : ReadContext) (s : State) :
    (settleRead c r s).contexts = Table.set s.contexts c (if r.list = [] then .free else .read r) := by
  unfold settleRead
  split
  · rw [completeRead_eq]
  · rfl

theorem settleFaulted_contexts (hw : w.untagged) (c : Nat) (s : State) :
    ∃ y : WriteContext, y.untagged ∧ (settleFaulted c w s).contexts = Table.set s.contexts c (.write y) := by
  unfold settleFaulted
  split
  · exact ⟨w, hw, rfl⟩
  · split
    · split
      · obtain ⟨_, _, -, heq⟩ := announceSettled_eq _ w _ _
        exact ⟨{ w with pending := [] }, nofun, congrArg State.contexts heq⟩
      · exact ⟨w, hw, rfl⟩
    · exact ⟨w, hw, rfl⟩

theorem State.reaches.quiet (h : s.reaches t c) (hc : c < 32) : (t.context c).quiet := by
  obtain ⟨v, y, -, hy, -, rfl | rfl⟩ := h
  · obtain ⟨z, hz, heq⟩ := settleFaulted_contexts hy c v
    rw [(State.context_of_set hc heq).1]
    exact hz.quiet
  · rw [(State.context_of_set hc (settleAborting_contexts c y v)).1]
    split
    · exact ⟨rfl, rfl⟩
    · exact hy.quiet

theorem State.reaches.unsends (h : s.reaches t c) : s.Unsends t [c] 1 := by
  have hin : c ∈ [c] := List.mem_singleton.mpr rfl
  obtain ⟨v, y, hv, -, -, rfl | rfl⟩ := h
  · exact hv.trans (.settleFaulted hin y v)
  · exact hv.trans (.settleAborting hin y v)

/-- A Faulted context with no write in flight settles its record, and what it leaves stays (R150, R154). -/
theorem settleFaulted_left (hst : w.state = .faulted) (hw : w.untagged) (ho : s.recordOf c = some r)
    (hr : s.record r = some x) (hc : c < 32) (hcanonical : s.canonical) (hn : w.current < (s.volume w.volume).count)
    (k : (settleFaulted c w s).Spares t l) (hl : c ∉ l) :
    t.record r = some (x.settle w) ∧ t.context c = .write { w with pending := [] } ∧
      (t.segment w.volume w.current).faultPending = true ∧
      (s.txQueue.length < 2048 → s.hears w → (∀ p, x.resumer = some p → (s.initiator p.1).state ≠ .absent) →
        ∀ f ∈ settlingFrames x w r, f ∈ t.txQueue) := by
  have hsettles := settleConfirmed_settles (before := 0) hst hw ho hr
  rw [← settleFaulted_eq hst] at hsettles
  obtain ⟨frames, causes, -, heq⟩ := announceSettled_eq x w r (s.recorded c r x w)
  rw [← hsettles] at heq
  obtain ⟨⟨hrecord, -, hcontext, hsegment, -⟩, -⟩ := State.recorded_settles (t := settleFaulted c w s) hc hr
    hcanonical hn (congrArg State.volumes heq :) (congrArg State.contexts heq :) (congrArg State.records heq :)
  have hmap := (State.Unsends.settleFaulted (List.mem_singleton.mpr (rfl : c = c)) w s).map.canonical hcanonical
  refine ⟨(k.record r (x.settle w) ?_).mpr hrecord, (k.context c hl).trans hcontext,
    (k.map.segment hmap _ _).flag (by rw [hsegment]), fun hroom hears hres f hf => k.queue.subset ?_⟩
  · show x.context ∉ l
    rw [State.recordOf_context ho hr]
    exact hl
  · obtain ⟨hready, hp, hrem, -⟩ := hears
    have hplaced := announceSettled_placed (s := s.recorded c r x w) hready hp hrem hres hroom r
    rw [hsettles, hplaced]
    exact List.mem_append_right _ hf

/-- An Aborting context with no write in flight stands or is freed with its Terminated reply, and that stays (R95). -/
theorem settleAborting_left (hc : c < 32) (k : (settleAborting c w s).Spares t l) (hl : c ∉ l) :
    t.context c = (if w.pending = [] then .free else .write w) ∧
      (w.pending = [] → s.txQueue.length < 2048 → s.hears w → ∀ code, w.fatal = some code →
        terminationFrame w code ∈ t.txQueue) := by
  refine ⟨(k.context c hl).trans (State.context_of_set hc (settleAborting_contexts c w s)).1,
    fun hp hroom hears code hcode => k.queue.subset ?_⟩
  rw [settleAborting, if_pos hp, freeAborting_heard hears hroom, WriteContext.terminations, hcode]
  exact List.mem_append_right _ (List.mem_singleton.mpr rfl)

theorem State.reaches.accrued (h : s.reaches t c) : t.conditions.accrued.getLsbD Cond.mediaFault.number = true := by
  have hin : c ∈ [c] := List.mem_singleton.mpr rfl
  obtain ⟨v, y, -, -, hset, rfl | rfl⟩ := h
  · exact (State.Unsends.settleFaulted hin y v).accrued _ hset
  · exact (State.Unsends.settleAborting hin y v).accrued _ hset

end Left

/-! ### The sent entries of a read fail (R106, R109) -/

/-- A read stops short at its oldest sent entry. -/
def ReadContext.cutShort (r : ReadContext) : ReadContext :=
  { r with
    list := r.list.takeWhile (fun e => decide (e.progress ≠ .sent)), ending := some .faulted
    outcome := r.outcome ||| Cond.mediaFault.bit }

theorem ReadContext.cutShort_quiet (r : ReadContext) : (Context.read r.cutShort).quiet := by
  refine ⟨rfl, List.any_eq_false.mpr fun e he => ?_⟩
  have hkept := List.mem_takeWhile_imp he
  simpa using hkept

/-- The failure of the sent entries of a read settles it, once its requests and its slots have moved. -/
theorem readFails_sent (c : Nat) (r : ReadContext) (s : State) :
    ∃ v, s.Unsends v [c] 0 ∧ v.conditions.accrued.getLsbD Cond.mediaFault.number = true ∧
      readFails c (fun e => decide (e.progress = .sent)) r s = settleRead c r.cutShort v := by
  have hcut : ∀ v, settleRead c { r with
      list := r.list.takeWhile (fun e => !decide (e.progress = .sent)), ending := some .faulted
      outcome := r.outcome.insert .mediaFault } v = settleRead c r.cutShort v := fun v => by
    simp only [ReadContext.cutShort, ne_eq, decide_not]
    rfl
  have hwithdrawn : ∀ p, s.Unsends ((s.raise r.op .mediaFault).withdraw .read p) [c] 0 := fun p =>
    State.Unsends.raised (s := s) (a := (s.withdraw .read p).arbiter) rfl rfl r.op .mediaFault [c]
  refine ⟨_, (hwithdrawn _).trans (.orphanAll _ _ [c]), ?_, hcut _⟩
  exact (State.Unsends.orphanAll _ _ [c]).accrued _ (s.raise_mediaFault r.op)

/-! ### The contexts in turn -/

section Turn

variable {s : State} {c : Nat}

theorem resetWrite_sent {w : WriteContext} (hc : s.context c = .write w) (h : (Context.write w).writesSent = true) :
    resetWrite c s = writeFails c .linkReset PendingWrite.sent w s := by
  rw [resetWrite, hc]
  exact if_pos h

theorem resetWrite_quiet (h : (s.context c).writesSent = false) : resetWrite c s = s := by
  unfold resetWrite
  split
  · next hc =>
    rw [hc] at h
    exact if_neg (Bool.eq_false_iff.mp h)
  · rfl
  · rfl

theorem resetRead_sent {r : ReadContext} (hc : s.context c = .read r) (h : (Context.read r).readsSent = true) :
    resetRead c s = readFails c (fun e => decide (e.progress = .sent)) r s := by
  rw [resetRead, hc]
  exact if_pos h

theorem resetRead_quiet (h : (s.context c).readsSent = false) : resetRead c s = s := by
  unfold resetRead
  split
  · next hc =>
    rw [hc] at h
    exact if_neg (Bool.eq_false_iff.mp h)
  · rfl
  · rfl

/-- What a loss of the link does to context c for one kind of context: it fails what p finds sent in it. -/
structure Resets (f : Nat → State → State) (p : Context → Bool) : Prop where
  free : p .free = false
  same : ∀ (c : Nat) (s : State), p (s.context c) = false → f c s = s
  unsends : ∀ (c : Nat) (s : State), p (s.context c) = true → s.Unsends (f c s) [c] 1
  quiet : ∀ (c : Nat) (s : State), p (s.context c) = true → ((f c s).context c).quiet

theorem resetWrite_resets : Resets resetWrite Context.writesSent := by
  have hreaches : ∀ (c : Nat) (s : State), (s.context c).writesSent = true →
      c < 32 ∧ s.reaches (resetWrite c s) c := fun c s h => by
    cases hc : s.context c with
    | write w =>
      rw [resetWrite_sent hc (hc ▸ h)]
      exact ⟨State.write_lt hc, writeFails_reaches c w s⟩
    | read r =>
      rw [hc] at h
      cases h
    | free =>
      rw [hc] at h
      cases h
  exact ⟨rfl, fun c s => resetWrite_quiet, fun c s h => (hreaches c s h).2.unsends,
    fun c s h => (hreaches c s h).2.quiet (hreaches c s h).1⟩

theorem resetRead_resets : Resets resetRead Context.readsSent := by
  have hsettles : ∀ (c : Nat) (s : State), (s.context c).readsSent = true →
      c < 32 ∧ ∃ v r, s.Unsends v [c] 0 ∧ resetRead c s = settleRead c (ReadContext.cutShort r) v := fun c s h => by
    cases hc : s.context c with
    | read r =>
      obtain ⟨v, hv, -, heq⟩ := readFails_sent c r s
      rw [resetRead_sent hc (hc ▸ h)]
      exact ⟨State.read_lt hc, v, r, hv, heq⟩
    | write w =>
      rw [hc] at h
      cases h
    | free =>
      rw [hc] at h
      cases h
  refine ⟨rfl, fun c s => resetRead_quiet, fun c s h => ?_, fun c s h => ?_⟩
  · obtain ⟨-, v, r, hv, heq⟩ := hsettles c s h
    rw [heq]
    exact hv.trans (.settleRead (List.mem_singleton.mpr rfl) r.cutShort v)
  · obtain ⟨hlt, v, r, -, heq⟩ := hsettles c s h
    rw [heq, (State.context_of_set hlt (settleRead_contexts c r.cutShort v)).1]
    split
    · exact ⟨rfl, rfl⟩
    · exact r.cutShort_quiet

end Turn

/-- The contexts of a list in which p finds something sent. -/
def State.sending (s : State) (p : Context → Bool) (l : List Nat) : List Nat := l.filter (fun c => p (s.context c))

theorem State.mem_sending {s : State} {p : Context → Bool} {l : List Nat} {c : Nat} :
    c ∈ s.sending p l ↔ c ∈ l ∧ p (s.context c) = true := List.mem_filter

section Each

variable {f : Nat → State → State} {p : Context → Bool} (hf : Resets f p)
include hf

theorem Resets.one (c : Nat) (s : State) : s.Unsends (f c s) (s.sending p [c]) (s.sending p [c]).length := by
  cases hp : p (s.context c) with
  | false =>
    rw [hf.same c s hp]
    simpa [State.sending, hp] using State.Unsends.refl s []
  | true => simpa [State.sending, hp] using hf.unsends c s hp

theorem Resets.sending_after {c : Nat} {rest : List Nat} (hc : c ∉ rest) (s : State) :
    (f c s).sending p rest = s.sending p rest := by
  refine List.filter_congr fun d hd => ?_
  rw [(hf.one c s).context d fun hdc => hc ?_]
  have := List.mem_singleton.mp (State.mem_sending.mp hdc).1
  exact this ▸ hd

theorem Resets.each {l : List Nat} (hl : l.Nodup) (s : State) :
    s.Unsends (eachContext f l s) (s.sending p l) (s.sending p l).length := by
  induction l generalizing s with
  | nil => exact .refl s []
  | cons c rest ih =>
    obtain ⟨hc, hrest⟩ := List.nodup_cons.mp hl
    have hcons : s.sending p (c :: rest) = s.sending p [c] ++ s.sending p rest := List.filter_append [c] rest
    have htail := ih hrest (f c s)
    rw [hf.sending_after hc] at htail
    rw [hcons, List.length_append]
    exact ((hf.one c s).mono (List.subset_append_left _ _) le_rfl).trans
      (htail.mono (List.subset_append_right _ _) le_rfl)

theorem Resets.each_quiet {l : List Nat} (hl : l.Nodup) {c : Nat} (hc : c ∈ l) (s : State)
    (hp : p (s.context c) = true) : ((eachContext f l s).context c).quiet := by
  induction l generalizing s with
  | nil => cases hc
  | cons d rest ih =>
    obtain ⟨hd, hrest⟩ := List.nodup_cons.mp hl
    by_cases hcd : c = d
    · subst hcd
      have hkept := (hf.each hrest (f c s)).context c fun h => hd (State.mem_sending.mp h).1
      rw [eachContext, hkept]
      exact hf.quiet c s hp
    · refine ih hrest ((List.mem_cons.mp hc).resolve_left hcd) (f d s) ?_
      rw [(hf.one d s).context c fun h => hcd (List.mem_singleton.mp (State.mem_sending.mp h).1)]
      exact hp

end Each

theorem eachContext_append (f : Nat → State → State) (a b : List Nat) (s : State) :
    eachContext f (a ++ b) s = eachContext f b (eachContext f a s) := by
  induction a generalizing s with
  | nil => rfl
  | cons c rest ih => exact ih (f c s)

/-! ### The erases, the scan and the end of the step (R132, R157, R171) -/

section Rest

variable {s : State}

theorem eraseFails_spares (e : EraseEntry) (s : State) : s.Spares (eraseFails e s) [] := by
  have hleft : s.Spares (s.leaveErasing e (fun g => { g with state := .expired })) [] := by
    unfold State.leaveErasing
    dsimp only
    split
    · next h => exact (State.Unsends.put s _ _ (g := { s.segment e.volume e.segment with state := .expired })
        ⟨id, .inr ⟨h, rfl⟩⟩ []).toSpares
    · exact .refl s []
  have hremoved : ∀ u : State, u.Spares (removeErase e u) [] := fun u => { State.Spares.refl u [] with frame := rfl }
  have hsent : ∀ (u : State) (reply : Nat × Nat → Frame), u.Spares (u.sendTo e.requester reply) [] := fun u reply => by
    unfold State.sendTo
    split
    · exact (State.Unsends.send u _ []).toSpares
    · exact .refl u []
  have hraised : ∀ u : State, u.Spares (u.raiseAny e.op (some .eraseFailed)) [] := fun u =>
    ((State.Unsends.raise u e.op .eraseFailed []).trans (.complete _ e.op Cond.eraseFailed.bit [])).toSpares
  rw [eraseFails_sendTo]
  exact ((hleft.trans (hremoved _)).trans (hsent _ _)).trans (hraised _)

/-- An erase that fails moves its segment, leaves the queue and is reported, and nothing else changes (R22, R132). -/
theorem eraseFails_eq (e : EraseEntry) (s : State) :
    eraseFails e s =
      { s with
        volumes := (s.leaveErasing e (fun g => { g with state := .expired })).volumes
        eraseQueue :=
          s.eraseQueue.filter (fun x => !(decide (x.volume = e.volume) && decide (x.segment = e.segment)))
        txQueue := (eraseFails e s).txQueue, conditions := (eraseFails e s).conditions } := by
  have hleft : s.leaveErasing e (fun g => { g with state := .expired }) =
      { s with volumes := (s.leaveErasing e (fun g => { g with state := .expired })).volumes } := by
    unfold State.leaveErasing
    dsimp only
    split <;> rfl
  have hsent : ∀ (u : State) (reply : Nat × Nat → Frame),
      u.sendTo e.requester reply = { u with txQueue := (u.sendTo e.requester reply).txQueue } := fun u reply => by
    unfold State.sendTo
    split
    · next p _ =>
      rcases u.send_cases (reply p) with h | ⟨-, h⟩
      · rw [h]
      · rw [h]
        rfl
    · rfl
  rw [eraseFails_sendTo, State.raiseAny, State.raiseAlone_eq, hsent, hleft]
  rfl

/-- The segment of an erase that fails is Expired (R22). -/
theorem eraseFails_expired {e : EraseEntry} (hw : s.canonical) (hn : e.segment < (s.volume e.volume).count)
    (h : (s.segment e.volume e.segment).state = .erasing) :
    ((eraseFails e s).segment e.volume e.segment).state = .expired := by
  have hput : s.leaveErasing e (fun g => { g with state := .expired }) =
      s.putSegment e.volume e.segment { s.segment e.volume e.segment with state := .expired } := if_pos h
  have hvolumes := congrArg State.volumes (eraseFails_eq e s)
  dsimp only at hvolumes
  rw [hput] at hvolumes
  rw [State.segment_congr (s := s.putSegment _ _ _) hvolumes, State.putSegment_segment hw hn, if_pos ⟨rfl, rfl⟩]

theorem resetErases_spares (l : List EraseEntry) (s : State) : s.Spares (resetErases l s) [] := by
  induction l generalizing s with
  | nil => exact .refl s []
  | cons e rest ih =>
    refine State.Spares.trans ?_ (ih _)
    split
    · exact eraseFails_spares e s
    · exact .refl s []

theorem resetErases_scanActive (l : List EraseEntry) (s : State) : (resetErases l s).scanActive = s.scanActive := by
  induction l generalizing s with
  | nil => rfl
  | cons e rest ih =>
    refine (ih _).trans ?_
    split
    · rw [eraseFails_eq]
    · rfl

/-- Every sent erase of the list leaves the queue. -/
theorem resetErases_queue (l : List EraseEntry) (s : State) :
    ∀ e ∈ (resetErases l s).eraseQueue, e ∈ s.eraseQueue ∧ (e ∈ l → e.progress ≠ .sent) := by
  induction l generalizing s with
  | nil => exact fun e he => ⟨he, nofun⟩
  | cons d rest ih =>
    intro e he
    obtain ⟨hin, hrest⟩ := ih _ e he
    split at hin
    · rw [eraseFails_eq, List.mem_filter] at hin
      refine ⟨hin.1, fun hmem => ?_⟩
      rcases List.mem_cons.mp hmem with rfl | hmem
      · simp at hin
      · exact hrest hmem
    · next hd =>
      refine ⟨hin, fun hmem => ?_⟩
      rcases List.mem_cons.mp hmem with rfl | hmem
      · exact hd
      · exact hrest hmem

/-- Every sent erase of the list returns its segment to Expired (R22). -/
theorem resetErases_expired {l : List EraseEntry} {e : EraseEntry} (he : e ∈ l) (hsent : e.progress = .sent)
    (hw : s.canonical) (hn : e.segment < (s.volume e.volume).count)
    (h : (s.segment e.volume e.segment).state = .erasing ∨ (s.segment e.volume e.segment).state = .expired) :
    ((resetErases l s).segment e.volume e.segment).state = .expired := by
  induction l generalizing s with
  | nil => cases he
  | cons d rest ih =>
    have hstep := eraseFails_spares d s
    have hnext : s.Spares (if d.progress = .sent then eraseFails d s else s) [] := by
      split
      · exact hstep
      · exact .refl s []
    have hstate := (hnext.map.segment hw e.volume e.segment).state
    have hwn := hnext.map.canonical hw
    have hnn := (hnext.map.count e.volume).symm ▸ hn
    rcases List.mem_cons.mp he with rfl | he
    · have hexpired :
          ((if e.progress = .sent then eraseFails e s else s).segment e.volume e.segment).state = .expired := by
        rcases h with h | h
        · rw [if_pos hsent]
          exact eraseFails_expired hw hn h
        · rw [h] at hstate
          exact hstate.resolve_right nofun
      have hrest := ((resetErases_spares rest _).map.segment hwn e.volume e.segment).state
      rw [hexpired] at hrest
      exact hrest.resolve_right nofun
    · refine ih he hwn hnn ?_
      rcases hstate with hstate | ⟨-, hstate⟩
      · rw [hstate]
        exact h
      · exact .inr hstate

theorem stopScan_spares (cause : StopCause) (x : Scan) (s : State) : s.Spares (stopScan cause x s) [] := by
  have hwithdrawn : s.Spares s.withdrawScan [] := { State.Spares.refl s [] with frame := rfl }
  refine (hwithdrawn.trans (State.Unsends.orphanAll _ (x.list.filterMap ReadEntry.mediaTag) []).toSpares).trans ?_
  rw [stopScan, endScan_eq]
  exact { State.Spares.refl _ [] with frame := rfl }

theorem resetScan_spares (s : State) : s.Spares (resetScan s) [] := by
  unfold resetScan
  split
  · split
    · exact (State.Unsends.raise s _ _ []).toSpares.trans (stopScan_spares _ _ _)
    · exact .refl s []
  · exact .refl s []

theorem resetScan_eraseQueue (s : State) : (resetScan s).eraseQueue = s.eraseQueue := by
  unfold resetScan
  split
  · split
    · rw [scanFails, stopScan, endScan_eq, State.orphanAll_eq]
      rfl
    · rfl
  · rfl

/-- A Running scan stops, as cancelled when that was asked for (R164, R171). -/
theorem resetScan_stops {x : Scan} (hx : s.scanActive = some x) (hr : x.phase = .running) :
    ∃ y, (resetScan s).scanActive = some y ∧
      y.phase = .stopped (if x.cancelRequested then .cancel else .linkReset) ∧ y.list = [] := by
  have heq : resetScan s = scanFails .linkReset x s := by
    rw [resetScan, hx]
    exact if_pos hr
  rw [heq, scanFails, stopScan, endScan_eq]
  exact ⟨_, rfl, rfl, rfl⟩

theorem collectionEnded_spares (s : State) : s.Spares { s with collection := none } [] :=
  { State.Spares.refl s [] with frame := rfl }

theorem endStep_spares (s : State) : s.Spares s.endStep [] := by
  rw [State.endStep_noticed]
  have hkept : s.Unsends { s with txQueue := s.txQueue ++ s.notices, conditions := s.conditions.noticed } []
      s.notices.length := .kept [] rfl rfl (fun _ => id) fun _ => id
  exact hkept.toSpares

end Rest

/-! ### The whole step (R157) -/

/-- The link is Lost and every slot Free. -/
def State.linkDown (s : State) : State :=
  { s with mediaLink := .lost, mediaCheck := FrameCheck.cleared, slots := Vector.replicate 16 .free }

/-- The write contexts have taken their failures. -/
def State.writesReset (s : State) : State := eachContext resetWrite (List.range 32) s.linkDown

/-- The reads have taken theirs. -/
def State.contextsReset (s : State) : State := eachContext resetRead (List.range 32) s.writesReset

section Step

variable {s : State} {c : Nat}

theorem exec_mediaLinkReset (hon : s.takesEvents = true) : exec .mediaLinkReset s = .next (mediaLost s).endStep :=
  congrArg Host.Outcome.next (onEvent_on s mediaLost hon)

theorem mediaLost_eq (hl : s.mediaLink = .ready) :
    mediaLost s =
      { resetScan (resetErases s.contextsReset.eraseQueue s.contextsReset) with collection := none } := if_pos hl

theorem resetErases_reached (hl : s.mediaLink = .ready) :
    (resetErases s.contextsReset.eraseQueue s.contextsReset).Spares (mediaLost s).endStep [] := by
  rw [mediaLost_eq hl]
  exact ((resetScan_spares _).trans (collectionEnded_spares _)).trans (endStep_spares _)

theorem contextsReset_reached (hl : s.mediaLink = .ready) : s.contextsReset.Spares (mediaLost s).endStep [] :=
  (resetErases_spares _ _).trans (resetErases_reached hl)

theorem writesReset_unsends (s : State) :
    let l := s.linkDown.sending Context.writesSent (List.range 32)
    s.linkDown.Unsends s.writesReset l l.length := resetWrite_resets.each List.nodup_range _

theorem contextsReset_unsends (s : State) :
    let l := s.writesReset.sending Context.readsSent (List.range 32)
    s.writesReset.Unsends s.contextsReset l l.length := resetRead_resets.each List.nodup_range _

/-- A context in which nothing is sent is kept. -/
theorem contextsReset_kept (h : (s.context c).quiet) : s.contextsReset.context c = s.context c := by
  have hwrite : s.writesReset.context c = s.context c := (writesReset_unsends s).context c fun hc => by
    have := h.1.symm.trans (State.mem_sending.mp hc).2
    cases this
  refine ((contextsReset_unsends s).context c fun hc => ?_).trans hwrite
  have hsent := (State.mem_sending.mp hc).2
  rw [hwrite, h.2] at hsent
  cases hsent

/-- No context waits for an answer. -/
theorem contextsReset_quiet (s : State) (c : Nat) : (s.contextsReset.context c).quiet := by
  have hstep : ∀ {f : Nat → State → State} {p : Context → Bool} (hf : Resets f p) (u : State),
      p (u.context c) = true ∧ ((eachContext f (List.range 32) u).context c).quiet ∨
        p (u.context c) = false ∧ (eachContext f (List.range 32) u).context c = u.context c := fun {f p} hf u => by
    by_cases hp : p (u.context c) = true
    · have hc : c < 32 := State.context_lt (s := u) fun hfree => by
        rw [hfree, hf.free] at hp
        cases hp
      exact .inl ⟨hp, hf.each_quiet List.nodup_range (List.mem_range.mpr hc) u hp⟩
    · exact .inr ⟨Bool.eq_false_iff.mpr hp,
        (hf.each List.nodup_range u).context c fun h => hp (State.mem_sending.mp h).2⟩
  have hwrites : (s.writesReset.context c).writesSent = false := by
    rcases hstep resetWrite_resets s.linkDown with ⟨-, h⟩ | ⟨hp, h⟩
    · exact h.1
    · exact (congrArg Context.writesSent h).trans hp
  rcases hstep resetRead_resets s.writesReset with ⟨-, h⟩ | ⟨hp, h⟩
  · exact h
  · exact ⟨(congrArg Context.writesSent h).trans hwrites, (congrArg Context.readsSent h).trans hp⟩

/-- Numbers of contexts, all different and none of them c, are at most 31. -/
theorem length_le_of_others {l : List Nat} (hl : l.Nodup) (hlt : ∀ d ∈ l, d < 32) (hc : c < 32) (hout : c ∉ l) :
    l.length ≤ 31 := by
  have hsub := (List.nodup_cons.mpr ⟨hout, hl⟩).subperm (l₂ := List.range 32) fun d hd => by
    rw [List.mem_range]
    rcases List.mem_cons.mp hd with rfl | hd
    · exact hc
    · exact hlt d hd
  have := hsub.length_le
  rw [List.length_cons, List.length_range] at this
  omega

/-- The numbers before and after a context. -/
theorem range_split (hc : c < 32) :
    ∃ before after, List.range 32 = before ++ c :: after ∧ before.Nodup ∧ after.Nodup ∧ c ∉ before ∧ c ∉ after ∧
      ∀ d ∈ before, d < 32 := by
  obtain ⟨before, after, hsplit⟩ := List.append_of_mem (List.mem_range.mpr hc)
  have hnodup : (before ++ c :: after).Nodup := hsplit ▸ List.nodup_range
  obtain ⟨hbefore, htail, hdisjoint⟩ := List.nodup_append.mp hnodup
  obtain ⟨hnafter, hafter⟩ := List.nodup_cons.mp htail
  refine ⟨before, after, hsplit, hbefore, hafter, fun h => hdisjoint c h c List.mem_cons_self rfl, hnafter,
    fun d hd => ?_⟩
  rw [← List.mem_range, hsplit]
  exact List.mem_append_left _ hd

/-- The state in which a write context with a write sent takes its failure, and what the loss does afterwards. -/
theorem mediaLost_write {w : WriteContext} (hl : s.mediaLink = .ready) (hc : s.context c = .write w)
    (hw : (Context.write w).writesSent = true) :
    ∃ v l m, c ∉ l ∧ c ∉ m ∧ s.linkDown.Unsends v l 31 ∧
      (writeFails c .linkReset PendingWrite.sent w v).Spares (mediaLost s).endStep m := by
  have hlt := State.write_lt hc
  obtain ⟨before, after, hsplit, hbefore, hafter, hout, hnafter, hbelow⟩ := range_split hlt
  have hv := resetWrite_resets.each hbefore s.linkDown
  have hnv : c ∉ s.linkDown.sending Context.writesSent before := fun h => hout (State.mem_sending.mp h).1
  have hlen := length_le_of_others (hbefore.filter _) (fun d hd => hbelow d (State.mem_sending.mp hd).1) hlt hnv
  have hsplits : s.writesReset =
      eachContext resetWrite after (resetWrite c (eachContext resetWrite before s.linkDown)) := by
    rw [State.writesReset, hsplit, eachContext_append]
    rfl
  generalize eachContext resetWrite before s.linkDown = v at hv hsplits
  have hvc : v.context c = .write w := (hv.context c hnv).trans hc
  have hquiet := resetWrite_resets.quiet c v (by rw [hvc]; exact hw)
  have hx := resetWrite_resets.each hafter (resetWrite c v)
  have hnx : c ∉ (resetWrite c v).sending Context.writesSent after := fun h => hnafter (State.mem_sending.mp h).1
  rw [← hsplits] at hx
  have hu := contextsReset_unsends s
  have hnu : c ∉ s.writesReset.sending Context.readsSent (List.range 32) := fun h => by
    have hsent := (State.mem_sending.mp h).2
    rw [hx.context c hnx, hquiet.2] at hsent
    cases hsent
  rw [resetWrite_sent hvc hw] at hx hnx
  exact ⟨v, _, _, hnv, fun h => (List.mem_append.mp h).elim hnx hnu, hv.upTo hlen,
    ((hx.toSpares.mono (List.subset_append_left _ _)).trans (hu.toSpares.mono (List.subset_append_right _ _))).trans
      ((contextsReset_reached hl).mono (List.nil_subset _))⟩

/-- The state in which a read with an entry sent takes its failure, and what the loss does afterwards. -/
theorem mediaLost_read {r : ReadContext} (hl : s.mediaLink = .ready) (hc : s.context c = .read r)
    (hr : (Context.read r).readsSent = true) :
    ∃ v l m, c ∉ l ∧ c ∉ m ∧ s.linkDown.Unsends v l 31 ∧
      (readFails c (fun e => decide (e.progress = .sent)) r v).Spares (mediaLost s).endStep m := by
  have hlt := State.read_lt hc
  obtain ⟨before, after, hsplit, hbefore, hafter, hout, hnafter, hbelow⟩ := range_split hlt
  have hx := writesReset_unsends s
  have hnx : c ∉ s.linkDown.sending Context.writesSent (List.range 32) := fun h => by
    have hsent := (State.mem_sending.mp h).2
    rw [show s.linkDown.context c = .read r from hc] at hsent
    cases hsent
  have hv := resetRead_resets.each hbefore s.writesReset
  have hnv : c ∉ s.writesReset.sending Context.readsSent before := fun h => hout (State.mem_sending.mp h).1
  have hnxv := fun h => (List.mem_append.mp h).elim hnx hnv
  have hdisjoint : ∀ d ∈ s.linkDown.sending Context.writesSent (List.range 32),
      d ∉ s.writesReset.sending Context.readsSent before := fun d hd hdr => by
    obtain ⟨hin, hsent⟩ := State.mem_sending.mp hd
    have hquiet := resetWrite_resets.each_quiet List.nodup_range hin s.linkDown hsent
    exact absurd (hquiet.2.symm.trans (State.mem_sending.mp hdr).2) nofun
  have hlen := length_le_of_others
    ((List.nodup_range.filter _).append (hbefore.filter _) hdisjoint)
    (fun d hd => (List.mem_append.mp hd).elim (fun h => List.mem_range.mp (State.mem_sending.mp h).1)
      fun h => hbelow d (State.mem_sending.mp h).1) hlt hnxv
  rw [List.length_append] at hlen
  have hsplits : s.contextsReset =
      eachContext resetRead after (resetRead c (eachContext resetRead before s.writesReset)) := by
    rw [State.contextsReset, hsplit, eachContext_append]
    rfl
  generalize eachContext resetRead before s.writesReset = v at hv hsplits
  have hvc : v.context c = .read r := ((hv.context c hnv).trans (hx.context c hnx)).trans hc
  have hu := resetRead_resets.each hafter (resetRead c v)
  have hnu : c ∉ (resetRead c v).sending Context.readsSent after := fun h => hnafter (State.mem_sending.mp h).1
  rw [← hsplits, resetRead_sent hvc hr] at hu
  rw [resetRead_sent hvc hr] at hnu
  exact ⟨v, _, _, hnxv, hnu,
    ((hx.mono (List.subset_append_left _ _) le_rfl).trans (hv.mono (List.subset_append_right _ _) le_rfl)).upTo hlen,
    hu.toSpares.trans ((contextsReset_reached hl).mono (List.nil_subset _))⟩

end Step

/-! ### A context that settles (R148 to R150, R154) -/

/-- In t the record r of a Faulted context, which stood as x, has taken the list of w and the place of its confirmed
point, whose segment has fault pending, and who waits for the settling has its frame. -/
def State.hasSettled (s t : State) (w : WriteContext) (r : Nat) (x : FaultRecord) : Prop :=
  t.record r =
      some
        { x with
          settled := true
          place := some { volume := w.volume, segment := w.current, offset := w.confirmedOffset }
          writes := recordWrites w.pending
          resumer := none } ∧
    (t.segment w.volume w.current).faultPending = true ∧
    (s.txQueue.length + 32 ≤ 2048 → s.hears w → (∀ p, x.resumer = some p → (s.initiator p.1).state ≠ .absent) →
      ∀ y ∈ settlingFrames x w r, y ∈ t.txQueue)

section Settled

variable {s u v t : State} {c r : Nat} {w : WriteContext} {x : FaultRecord} {l m : List Nat}

theorem State.hasSettled_of_unsent (h : s.Unsends v l 31) (ho : v.recordOf c = some r) (hr : v.record r = some x)
    (hc : c < 32) (hw : s.canonical) (hn : s.segmentExists w.volume w.current = true)
    (k : (settleFaulted c w.unsent v).Spares t m) (hm : c ∉ m) :
    s.hasSettled t w r x ∧ t.context c = .write { w.unsent with pending := [] } := by
  obtain ⟨hrecord, hcontext, hflag, hframes⟩ := settleFaulted_left (w := w.unsent) rfl w.unsent_untagged ho hr hc
    (h.map.canonical hw) (h.exists_count hn) k hm
  have hsettle : x.settle w.unsent = { x with
      settled := true, place := some { volume := w.volume, segment := w.current, offset := w.confirmedOffset }
      writes := recordWrites w.pending, resumer := none } := by
    rw [← w.recordWrites_unsent]
    rfl
  have hplaced := h.placed
  exact ⟨⟨hrecord.trans (congrArg some hsettle), hflag, fun hroom hears hres => hframes (by omega) (h.hears hears)
    fun p hp => by rw [h.initiator]; exact hres p hp⟩, hcontext⟩

theorem State.takesFault_record (hr : 1 ≤ r ∧ r ≤ 4) (op : Operation) (x : FaultRecord) :
    (s.takesFault c op r x).record r = some x ∧ ∀ k, k ≠ r → (s.takesFault c op r x).record k = s.record k :=
  ⟨Table.get1_set1_same none s.records r (some x) hr,
    fun _ hk => Table.get1_set1_other none s.records r _ (some x) hk⟩

/-- A Streaming or Draining context with no record of its own: Faulted with the record that was Free, or, with none
Free, Aborting or freed (R148, R150). -/
theorem mediaLost_live (hl : s.mediaLink = .ready) (hcan : s.canonical) (hc : s.context c = .write w)
    (hst : w.state = .streaming ∨ w.state = .draining) (hw : (Context.write w).writesSent = true)
    (hown : ∀ k x, s.record k = some x → x.context ≠ c) (hn : s.segmentExists w.volume w.current = true) :
    let t := (mediaLost s).endStep
    (∃ r now, s.hasSettled t w r
        (FaultRecord.fresh c w .linkReset (if w.state = .streaming then .resumeStreaming else .resumeDraining) now) ∧
      t.context c = .write { w.unsent with pending := [] }) ∨
    ((∀ r, 1 ≤ r → r ≤ 4 → t.record r ≠ none) ∧
      ∃ y : WriteContext, y.state = .aborting ∧ y.pending = w.pending.takeWhile (fun e => decide (e.mediaTag = none)) ∧
        t.context c = if y.pending = [] then .free else .write y) := by
  intro t
  obtain ⟨v, l, m, hl', hm, hv, k⟩ := mediaLost_write hl hc hw
  have hlt := State.write_lt hc
  have hne : w.state ≠ .faulted := by rcases hst with h | h <;> rw [h] <;> nofun
  have hother : ∀ k y, v.record k = some y → y.context ≠ c := fun k y hy hyc =>
    hown k y ((hv.record k y (hyc ▸ hl')).mp hy) hyc
  have hused := fun n (hn : v.record n ≠ none) => k.used n ((writeFails_reaches c w v).unsends.used n hn)
  rw [writeFails_live hst] at k
  cases hfree : v.freeRecord with
  | some r =>
    obtain ⟨hr, hnone⟩ := State.freeRecord_free hfree
    rw [failLive_taken hfree hne] at k
    obtain ⟨x, hx⟩ : ∃ x, x = FaultRecord.fresh c w .linkReset
      (if w.state = .streaming then .resumeStreaming else .resumeDraining) v.now := ⟨_, rfl⟩
    have hxc : x.context = c := by rw [hx]; rfl
    rw [← hx] at k
    obtain ⟨hrecord, hkept⟩ := State.takesFault_record (s := v) (c := c) hr w.op x
    have htakes := hv.trans' (State.takesFault_unsends (c := c) hr hxc (by rw [hnone]; nofun) w.op)
    have ho := State.recordOf_some hrecord hxc fun n y hn hy => hother n y ((hkept n hn).symm.trans hy)
    have hsettled := State.hasSettled_of_unsent (s := s.linkDown) htakes ho hrecord hlt hcan hn k hm
    subst hx
    exact .inl ⟨r, v.now, hsettled⟩
  | none =>
    rw [failLive_full hfree, failAborting_sent] at k
    exact .inr ⟨fun n h1 h4 => hused n (State.record_used hfree h1 h4), _, rfl, rfl, (settleAborting_left hlt k hm).1⟩

/-- A Faulted context settles, and its record keeps its kind (R149). -/
theorem mediaLost_faulted (hl : s.mediaLink = .ready) (hcan : s.canonical) (hc : s.context c = .write w)
    (hst : w.state = .faulted) (hw : (Context.write w).writesSent = true) (ho : s.recordOf c = some r)
    (hr : s.record r = some x) (hn : s.segmentExists w.volume w.current = true) :
    let t := (mediaLost s).endStep
    s.hasSettled t w r x ∧ t.context c = .write { w.unsent with pending := [] } := by
  intro t
  obtain ⟨v, l, m, hl', hm, hv, k⟩ := mediaLost_write hl hc hw
  have hfails : writeFails c .linkReset PendingWrite.sent w v = failFaulted c PendingWrite.sent w v := by
    rw [writeFails, hst]
  rw [hfails, failFaulted_sent hst] at k
  have hxc := State.recordOf_context ho hr
  have htakes := hv.trans' (State.Unsends.raised (s := v) (a := v.arbiter) rfl rfl w.op .mediaFault [c])
  have hov : v.recordOf c = some r := (hv.recordOf hl').trans ho
  have hrv : v.record r = some x := (hv.record r x (hxc ▸ hl')).mpr hr
  exact State.hasSettled_of_unsent (s := s.linkDown) htakes hov hrv (State.write_lt hc) hcan hn k hm

/-- A Reissuing context is Faulted again with its record Held (R154). -/
theorem mediaLost_reissuing (hl : s.mediaLink = .ready) (hcan : s.canonical) (hc : s.context c = .write w)
    (hst : w.state = .reissuing) (hw : (Context.write w).writesSent = true) (ho : s.recordOf c = some r)
    (hr : s.record r = some x) (hn : s.segmentExists w.volume w.current = true) :
    let t := (mediaLost s).endStep
    s.hasSettled t w r { x with state := .held, kind := .linkReset } ∧
      t.context c = .write { w.unsent with pending := [] } := by
  intro t
  obtain ⟨v, l, m, hl', hm, hv, k⟩ := mediaLost_write hl hc hw
  have hfails : writeFails c .linkReset PendingWrite.sent w v = failReissuing c .linkReset PendingWrite.sent w v := by
    rw [writeFails, hst]
  have hxc := State.recordOf_context ho hr
  have hov : v.recordOf c = some r := (hv.recordOf hl').trans ho
  have hrv : v.record r = some x := (hv.record r x (hxc ▸ hl')).mpr hr
  have hrange := State.record_range hr
  rw [hfails, failReissuing_held hov hrv (by rw [hst]; nofun)] at k
  obtain ⟨hrecord, hkept⟩ := State.takesFault_record (s := v) (c := c) hrange w.op
    { x with state := .held, settled := false, kind := .linkReset }
  have htakes := hv.trans' (State.takesFault_unsends
    (x := { x with state := .held, settled := false, kind := .linkReset }) hrange hxc
    (fun _ => State.recordOf_context hov) w.op)
  have hof := (State.recordOf_congr (s := v) (fun n => by
    by_cases hn : n = r
    · rw [hn, hrecord, hrv]
      rfl
    · rw [hkept n hn]) c).trans hov
  have hsettled := State.hasSettled_of_unsent (s := s.linkDown) htakes hof hrecord (State.write_lt hc) hcan hn k hm
  exact hsettled

/-- An Aborting context keeps what is older than its oldest sent write, or is freed with its Terminated reply (R90,
R95). -/
theorem mediaLost_aborting (hl : s.mediaLink = .ready) (hc : s.context c = .write w) (hst : w.state = .aborting)
    (hw : (Context.write w).writesSent = true) :
    let t := (mediaLost s).endStep
    t.context c = (if w.cutShort.pending = [] then .free else .write w.cutShort) ∧
      (w.cutShort.pending = [] → ∀ code, w.fatal = some code → s.txQueue.length + 32 ≤ 2048 → s.hears w →
        terminationFrame w code ∈ t.txQueue) := by
  intro t
  obtain ⟨v, l, m, hl', hm, hv, k⟩ := mediaLost_write hl hc hw
  have hfails : writeFails c .linkReset PendingWrite.sent w v = failAborting c PendingWrite.sent w v := by
    rw [writeFails, hst]
  rw [hfails, failAborting_sent] at k
  obtain ⟨hcontext, hframe⟩ := settleAborting_left (State.write_lt hc) k hm
  have hplaced : v.txQueue.length ≤ s.txQueue.length + 31 := hv.placed
  exact ⟨hcontext, fun hp code hcode hroom hears =>
    hframe hp (Nat.lt_of_le_of_lt hplaced (by omega)) (hv.hears hears) code hcode⟩

/-- MEDIA_FAULT is raised for a write context with a write sent (R90). -/
theorem mediaLost_write_accrued (hl : s.mediaLink = .ready) (hc : s.context c = .write w)
    (hw : (Context.write w).writesSent = true) :
    (mediaLost s).endStep.conditions.accrued.getLsbD Cond.mediaFault.number = true := by
  obtain ⟨v, l, m, -, -, -, k⟩ := mediaLost_write hl hc hw
  exact k.accrued _ (writeFails_reaches c w v).accrued

/-- A read with an entry sent keeps what is older, or ends with its FAULTED reply (R106, R109). -/
theorem mediaLost_read_left {r : ReadContext} (hl : s.mediaLink = .ready) (hc : s.context c = .read r)
    (hr : (Context.read r).readsSent = true) :
    let t := (mediaLost s).endStep
    t.conditions.accrued.getLsbD Cond.mediaFault.number = true ∧
      t.context c = (if r.cutShort.list = [] then .free else .read r.cutShort) ∧
      (r.cutShort.list = [] → s.txQueue.length + 32 ≤ 2048 → s.ingestLink = .ready →
        (s.initiator r.initiator).state ≠ .absent → finalReadFrame r.cutShort ∈ t.txQueue) := by
  intro t
  obtain ⟨v, l, m, hl', hm, hv, k⟩ := mediaLost_read hl hc hr
  obtain ⟨u, hu, haccrued, heq⟩ := readFails_sent c r v
  rw [heq] at k
  have hvu := hv.trans' hu
  have hplaced : u.txQueue.length ≤ s.txQueue.length + 31 := hvu.placed
  refine ⟨k.accrued _ ((State.Unsends.settleRead (List.mem_singleton.mpr rfl) r.cutShort u).accrued _ haccrued),
    (k.context c hm).trans (State.context_of_set (State.read_lt hc) (settleRead_contexts c r.cutShort u)).1,
    fun hnil hroom hready hp => k.queue.subset ?_⟩
  rw [settleRead_ended hnil (hvu.ingestLink.trans hready) (by rw [hvu.initiator]; exact hp)
    (Nat.lt_of_le_of_lt hplaced (by omega))]
  exact List.mem_append_right _ (List.mem_singleton.mpr rfl)

end Settled

/-! ### What the whole step leaves (R157) -/

section Whole

variable {s : State}

/-- The loss acts between the state in which the link is down and the end of the step. -/
theorem mediaLost_spares (hl : s.mediaLink = .ready) : ∃ l, s.linkDown.Spares (mediaLost s).endStep l :=
  ⟨_, ((writesReset_unsends s).toSpares.mono (List.subset_append_left _ _)).trans
    (((contextsReset_unsends s).toSpares.mono (List.subset_append_right _ _)).trans
      ((contextsReset_reached hl).mono (List.nil_subset _)))⟩

theorem mediaLost_context (hl : s.mediaLink = .ready) (c : Nat) :
    (mediaLost s).endStep.context c = s.contextsReset.context c := (contextsReset_reached hl).context c List.not_mem_nil

theorem contextsReset_eraseQueue (s : State) : s.contextsReset.eraseQueue = s.eraseQueue :=
  (contextsReset_unsends s).erases.trans (writesReset_unsends s).erases

theorem contextsReset_scanActive (s : State) : s.contextsReset.scanActive = s.scanActive :=
  (contextsReset_unsends s).scan.trans (writesReset_unsends s).scan

theorem State.endStep_tasks (s : State) :
    s.endStep.eraseQueue = s.eraseQueue ∧ s.endStep.scanActive = s.scanActive ∧
      s.endStep.collection = s.collection := by
  obtain ⟨q, n, h, -⟩ := s.endStep_eq
  rw [h]
  exact ⟨rfl, rfl, rfl⟩

/-- What becomes of the erase queue, the Active scan and the collection. -/
theorem mediaLost_tasks (hl : s.mediaLink = .ready) :
    let u := resetErases s.eraseQueue s.contextsReset
    let t := (mediaLost s).endStep
    t.eraseQueue = u.eraseQueue ∧ t.scanActive = (resetScan u).scanActive ∧ u.scanActive = s.scanActive ∧
      t.collection = none := by
  intro u t
  have hu : resetErases s.contextsReset.eraseQueue s.contextsReset = u := by rw [contextsReset_eraseQueue]
  obtain ⟨hqueue, hscan, hcollection⟩ := (mediaLost s).endStep_tasks
  have hactive : u.scanActive = s.scanActive := (resetErases_scanActive _ _).trans (contextsReset_scanActive s)
  have hlost := mediaLost_eq hl
  rw [hu] at hlost
  exact ⟨hqueue.trans ((congrArg State.eraseQueue hlost).trans (resetScan_eraseQueue u)),
    hscan.trans (congrArg State.scanActive hlost :), hactive, hcollection.trans (congrArg State.collection hlost)⟩

theorem mediaLost_queue (hl : s.mediaLink = .ready) {e : EraseEntry} (he : e ∈ (mediaLost s).endStep.eraseQueue) :
    e ∈ s.eraseQueue ∧ e.progress ≠ .sent := by
  rw [(mediaLost_tasks hl).1] at he
  obtain ⟨hin, hsent⟩ := resetErases_queue _ _ e he
  rw [contextsReset_eraseQueue] at hin
  exact ⟨hin, hsent hin⟩

theorem mediaLost_scan (hl : s.mediaLink = .ready) {x : Scan} (hx : s.scanActive = some x) (hr : x.phase = .running) :
    ∃ y, (mediaLost s).endStep.scanActive = some y ∧
      y.phase = .stopped (if x.cancelRequested then .cancel else .linkReset) ∧ y.list = [] := by
  obtain ⟨-, hscan, hactive, -⟩ := mediaLost_tasks hl
  rw [hscan]
  exact resetScan_stops (hactive.trans hx) hr

theorem mediaLost_expired (hl : s.mediaLink = .ready) (hw : s.canonical) {e : EraseEntry} (he : e ∈ s.eraseQueue)
    (hsent : e.progress = .sent) (hn : s.segmentExists e.volume e.segment = true)
    (h : (s.segment e.volume e.segment).state = .erasing) :
    ((mediaLost s).endStep.segment e.volume e.segment).state = .expired := by
  have hmap : s.linkDown.Rewrites Segment.Outlasts s.contextsReset :=
    (writesReset_unsends s).map.trans (fun _ _ _ => .trans) (contextsReset_unsends s).map
  have hcanonical := hmap.canonical hw
  have hcount : e.segment < (s.contextsReset.volume e.volume).count := by
    rw [hmap.count]
    exact State.segmentExists_lt hn
  have hstate := (hmap.segment hw e.volume e.segment).state
  rw [← contextsReset_eraseQueue s] at he
  have hexpired := resetErases_expired he hsent hcanonical hcount (by
    rcases hstate with hstate | ⟨-, hstate⟩
    · exact .inl (hstate.trans h)
    · exact .inr hstate)
  have hlast := ((resetErases_reached hl).map.segment
    ((resetErases_spares _ _).map.canonical hcanonical) e.volume e.segment).state
  rw [hexpired] at hlast
  exact hlast.resolve_right nofun

/-- A context in which nothing is sent is kept. -/
theorem mediaLost_kept (hl : s.mediaLink = .ready) {c : Nat} (h : (s.context c).quiet) :
    (mediaLost s).endStep.context c = s.context c := (mediaLost_context hl c).trans (contextsReset_kept h)

end Whole

theorem WriteContext.writesSent_iff (w : WriteContext) :
    (Context.write w).writesSent = true ↔ ∃ e ∈ w.pending, e.mediaTag ≠ none := by
  simp [Context.writesSent, PendingWrite.sent, Option.isSome_iff_ne_none]

theorem ReadContext.readsSent_iff (r : ReadContext) :
    (Context.read r).readsSent = true ↔ ∃ e ∈ r.list, e.progress = .sent := by
  simp [Context.readsSent]

/-- Settles O14: each block is followed from the state in which it takes its failure to the end of the step. -/
theorem mediaLinkLoss : Obligations.MediaLinkLoss := by
  refine ⟨fun s hon hl => ?_, fun s t hon hl hcan hexec => ?_, fun s t hon hl hcan hexec => ?_⟩
  · obtain ⟨l, hspares⟩ := mediaLost_spares hl
    have hquiet : ∀ c, ((mediaLost s).endStep.context c).quiet := fun c => by
      rw [mediaLost_context hl]
      exact contextsReset_quiet s c
    obtain ⟨-, -, -, hcollection⟩ := mediaLost_tasks hl
    have hslots : ∀ n, (mediaLost s).endStep.slot n = .free := fun n =>
      hspares.free n (Table.get_replicate Slot.free 16 n)
    have hqueue := fun e (he : e ∈ (mediaLost s).endStep.eraseQueue) => mediaLost_queue hl he
    have hscan := fun x (hx : s.scanActive = some x) hr => mediaLost_scan hl hx hr
    have hexec := exec_mediaLinkReset hon
    have hframe := hspares.frame
    generalize (mediaLost s).endStep = t at *
    refine ⟨t, hexec, ?_, ?_, hslots, ?_, fun c w hc => ?_, fun c r hc e he hsent => ?_, hqueue, hscan, ?_⟩
    · rw [hframe]
      rfl
    · rw [hframe]
      rfl
    · rw [hframe]
      rfl
    · have hw := (hquiet c).1
      rw [hc] at hw
      exact w.untagged_iff.mpr hw
    · have hr := (hquiet c).2
      rw [hc] at hr
      exact Bool.false_ne_true (hr.symm.trans (r.readsSent_iff.mpr ⟨e, he, hsent⟩))
    · refine ⟨?_, ?_, ?_, ?_, ?_, hcollection, ?_, ?_⟩ <;> rw [hframe] <;> rfl
  · rw [exec_mediaLinkReset hon] at hexec
    injection hexec with hexec
    subst hexec
    refine ⟨fun e he hsent hn h => mediaLost_expired hl hcan he hsent hn h, fun c w hc hst hsent hown hn => ?_⟩
    have hlive := mediaLost_live hl hcan hc hst (w.writesSent_iff.mpr hsent) hown hn
    generalize (mediaLost s).endStep = t at hlive ⊢
    rcases hlive with ⟨r, now, ⟨hrecord, hflag, -⟩, hcontext⟩ | ⟨hused, y, hy, hp, hcontext⟩
    · have hcredit : w.unsent.credit = 0 := if_neg (by rcases hst with h | h <;> rw [h] <;> nofun)
      exact .inl ⟨_, r, _, hcontext, rfl, rfl, hcredit, hrecord, rfl, rfl, rfl, rfl, rfl, rfl, rfl, rfl, hflag⟩
    · rw [← hp]
      exact .inr ⟨hused, fun hnil => hcontext.trans (if_pos hnil), fun hne => ⟨y, hcontext.trans (if_neg hne), hy, rfl⟩⟩
  · rw [exec_mediaLinkReset hon] at hexec
    injection hexec with hexec
    subst hexec
    refine ⟨fun c w hc hnone => ?_, fun c w hc hsent => ?_, fun c r hc hnone => ?_, fun c r hc hsent => ?_⟩
    · refine (mediaLost_kept hl ?_).trans hc
      rw [hc]
      exact WriteContext.untagged.quiet hnone
    · have hw := w.writesSent_iff.mpr hsent
      refine ⟨mediaLost_write_accrued hl hc hw, fun r x ho hr hn => ⟨fun hst => ?_, fun hst => ?_⟩, fun hst => ?_⟩
      · obtain ⟨hsettled, hcontext⟩ := mediaLost_faulted hl hcan hc hst hw ho hr hn
        refine ⟨hsettled, hcontext.trans ?_⟩
        simp [WriteContext.unsent, hst]
      · obtain ⟨hsettled, hcontext⟩ := mediaLost_reissuing hl hcan hc hst hw ho hr hn
        refine ⟨hsettled, hcontext.trans ?_⟩
        simp [WriteContext.unsent, hst]
      · obtain ⟨hcontext, hframe⟩ := mediaLost_aborting hl hc hst hw
        exact ⟨fun hne => hcontext.trans (if_neg hne), fun hnil => ⟨hcontext.trans (if_pos hnil),
          hframe hnil⟩⟩
    · refine (mediaLost_kept hl ?_).trans hc
      rw [hc]
      refine ⟨rfl, Bool.eq_false_iff.mpr fun hr => ?_⟩
      obtain ⟨e, he, hsent⟩ := r.readsSent_iff.mp hr
      exact hnone e he hsent
    · obtain ⟨haccrued, hcontext, hframe⟩ := mediaLost_read_left hl hc (r.readsSent_iff.mpr hsent)
      exact ⟨haccrued, fun hne => hcontext.trans (if_neg hne), fun hnil => ⟨hcontext.trans (if_pos hnil),
        hframe hnil⟩⟩

end Sys2Proof.Machine
end

section
/-! SUPPORT. The Active scan at the end of a step: what its visits, comparisons and ends leave. -/

namespace Sys2Proof.Machine

/-! ### What the Active scan's own operations change -/

/-- t is s with its Active scan, Arbiter, Map and Condition Unit changed alone. -/
def State.ScanMoved (s t : State) : Prop :=
  ∃ scan arbiter volumes conditions,
    t = { s with scanActive := scan, arbiter := arbiter, volumes := volumes, conditions := conditions }

theorem State.ScanMoved.trans {s t u : State} (h : s.ScanMoved t) (k : t.ScanMoved u) : s.ScanMoved u := by
  obtain ⟨_, _, _, _, rfl⟩ := h
  obtain ⟨_, _, _, _, rfl⟩ := k
  exact ⟨_, _, _, _, rfl⟩

theorem State.ScanMoved.kept {s t : State} (h : s.ScanMoved t) :
    t.ingestLink = s.ingestLink ∧ t.initiators = s.initiators ∧ t.txQueue = s.txQueue := by
  obtain ⟨_, _, _, _, rfl⟩ := h
  exact ⟨rfl, rfl, rfl⟩

theorem endScan_moved (phase : ScanPhase) (x : Scan) (s : State) : s.ScanMoved (endScan phase x s) := by
  rw [endScan_eq]
  exact ⟨_, _, _, _, rfl⟩

theorem advanceScan_moved (x : Scan) (cur : ScanCursor) (s : State) : s.ScanMoved (advanceScan x cur s) := by
  unfold advanceScan
  dsimp only
  split
  · exact endScan_moved _ _ s
  · exact ⟨_, _, _, _, rfl⟩

/-- A segment marked suspect, with DIGEST_MISMATCH raised for the scan (R167). -/
def State.suspected (s : State) (v n : Nat) : State :=
  (s.putSegment v n { s.segment v n with suspect := true }).raise scanOp .digestMismatch

/-- A scan that has counted a segment whose fold does not match (R167). -/
def Scan.mismatching (x : Scan) : Scan :=
  { x with
    examined := x.examined + 1, mismatched := x.mismatched + 1, outcome := x.outcome ||| Cond.digestMismatch.bit }

theorem compareScan_eq (x : Scan) (v : Nat) (cur : ScanCursor) (fold : Nat × Nat) (s : State) :
    compareScan x v cur fold s =
      if fold = ((s.segment v cur.segment).foldA, (s.segment v cur.segment).foldB) then
        advanceScan { x with examined := x.examined + 1 } cur s
      else if x.scanThrough then advanceScan x.mismatching cur (s.suspected v cur.segment)
      else
        endScan (.stopped .mismatch) { x.mismatching with cursor := some (x.nextCursor cur).1 }
          (s.suspected v cur.segment) := rfl

theorem compareScan_moved (x : Scan) (v : Nat) (cur : ScanCursor) (fold : Nat × Nat) (s : State) :
    s.ScanMoved (compareScan x v cur fold s) := by
  have hsuspected : s.ScanMoved (s.suspected v cur.segment) := ⟨_, _, _, _, rfl⟩
  rw [compareScan_eq]
  split
  · exact advanceScan_moved _ cur s
  · split
    · exact hsuspected.trans (advanceScan_moved _ _ _)
    · exact hsuspected.trans (endScan_moved _ _ _)

/-- A visit by what stands at its cursor: a segment that is not retained is skipped, an empty one compared, and the
read of another begun (R165). -/
theorem visitScan_eq {x : Scan} {v : Nat} {cur : ScanCursor} (hp : x.place = some (v, cur)) (s : State) :
    visitScan x s =
      if s.segmentExists v cur.segment = true ∧
          ((s.segment v cur.segment).state = .closed ∨ (s.segment v cur.segment).state = .expired) then
        if (s.segment v cur.segment).appendPoint = 0 then compareScan x v cur (1, 0) s
        else beginSegmentRead x v cur (s.segment v cur.segment).appendPoint s
      else skipScan x cur s := by
  simp only [visitScan, hp]
  cases s.segmentExists v cur.segment with
  | false => simp
  | true => cases (s.segment v cur.segment).state <;> simp

theorem visitScan_moved {x : Scan} {v : Nat} {cur : ScanCursor} (hp : x.place = some (v, cur)) (s : State) :
    s.ScanMoved (visitScan x s) := by
  rw [visitScan_eq hp]
  split
  · split
    · exact compareScan_moved _ _ _ _ s
    · exact ⟨_, _, _, _, rfl⟩
  · exact advanceScan_moved _ cur s

theorem State.with_txQueue {s : State} {frames : List Frame} (h : s.txQueue = frames) :
    { s with txQueue := frames } = s := by
  rw [← h]

/-- The end of a step in which the Active scan alone acted, with the frames placed before its notice. -/
theorem State.ScanMoved.endStep {v w : State} (h : v.ScanMoved w) (frames : List Frame) :
    let t := { w with txQueue := frames }.endStep
    ∃ more : List Frame, more.length ≤ 1 ∧ (∀ y ∈ more, y.kind = 10) ∧
      t = { v with
        scanActive := t.scanActive, arbiter := t.arbiter, volumes := t.volumes, conditions := t.conditions
        txQueue := frames ++ more } := by
  obtain ⟨_, _, _, _, rfl⟩ := h
  intro t
  have ht : t = _ := State.endStep_noticed _
  exact ⟨_, State.notices_length _, fun y hy => (State.mem_notices hy).1, by rw [ht]⟩

/-! ### The end of the step (R170, R174, R178) -/

section Ends

variable {s v : State} {x : Scan} {cur : ScanCursor} {raised : CondSet} {causes : List Cause}

/-- A scan that ends is reported with its outcome set. -/
theorem endScan_reports (hs : s.settled) (hv : v.conditions = s.conditions.raisedWith raised causes)
    (hnow : v.now = s.now) (phase : ScanPhase) (x : Scan) (frames : List Frame) :
    let t := { endScan phase x v with txQueue := frames }.endStep
    t.scanActive = some { x with phase := phase, segmentRead := none, list := [], cancelRequested := false } ∧
      s.reports t scanOp x.outcome ∧ t.conditions.accrued = s.conditions.accrued ||| raised ∧
      ∃ more : List Frame, more.length ≤ 1 ∧ (∀ y ∈ more, y.kind = 10) ∧
        t = { v with scanActive := t.scanActive, conditions := t.conditions, txQueue := frames ++ more } := by
  intro t
  obtain ⟨haccrued, hreports, -⟩ :=
    reported_endStep (v := { endScan phase x v with txQueue := frames }) (raised := raised)
      (causes := v.conditions.causes ++ [.scanEnd phase]) (op := scanOp) (outcome := x.outcome) hs
      (by rw [endScan_eq, hv, hnow]; rfl)
  let w : State := { endScan phase x v with txQueue := frames }
  have ht : t = _ := w.endStep_noticed
  refine ⟨?_, hreports, haccrued, w.notices, w.notices_length, fun y hy => (State.mem_notices hy).1, ?_⟩
  · rw [ht]
    simp only [w, endScan_eq]
  · rw [ht]
    generalize w.notices = notices
    generalize w.conditions.noticed = conditions
    simp only [w, endScan_eq]

/-- A scan that has finished the segment at its cursor goes on to the next one, or ends (R165). -/
theorem advanceScan_passes (hs : s.settled) (hv : v.conditions = s.conditions.raisedWith raised causes)
    (hnow : v.now = s.now) (h1 : 1 ≤ cur.entry) (hrange : x.ranges[cur.entry - 1]? ≠ none) (frames : List Frame) :
    let t := { advanceScan x cur v with txQueue := frames }.endStep
    s.passes t x cur ∧ t.conditions.accrued = s.conditions.accrued ||| raised ∧ t.volumes = v.volumes ∧
      t.arbiter = v.arbiter := by
  have hcursor := Scan.nextCursor_eq h1 hrange
  cases ha : x.after cur with
  | some next =>
    rw [ha] at hcursor
    have hadvance : advanceScan x cur v =
        v.putScan { x with cursor := some next, segmentRead := none, list := [] } := by
      simp only [advanceScan, hcursor, Bool.false_eq_true, if_false]
    rw [hadvance]
    obtain ⟨haccrued, hnothing, notices, -, -, ht⟩ := raisedWith_endStep
      (v := { v.putScan { x with cursor := some next, segmentRead := none, list := [] } with txQueue := frames }) hs hv
    intro t
    have hframe : t = _ := ht
    refine ⟨⟨fun z hz => ?_, fun hz => ?_⟩, haccrued, by rw [hframe]; rfl, by rw [hframe]; rfl⟩
    · obtain rfl : next = z := Option.some.inj (ha.symm.trans hz)
      exact ⟨by rw [hframe]; rfl, hnothing⟩
    · rw [ha] at hz
      cases hz
  | none =>
    rw [ha] at hcursor
    have hadvance : advanceScan x cur v =
        endScan .done
          { x with cursor := some { cur with segment := cur.segment + 1 }, segmentRead := none, list := [] } v := by
      simp only [advanceScan, hcursor, if_true]
    rw [hadvance]
    obtain ⟨hactive, hreports, haccrued, more, -, -, hframe⟩ := endScan_reports hs hv hnow .done
      { x with cursor := some { cur with segment := cur.segment + 1 }, segmentRead := none, list := [] } frames
    refine ⟨⟨fun z hz => ?_, fun _ => ⟨hactive, hreports⟩⟩, haccrued, by rw [hframe], by rw [hframe]⟩
    rw [ha] at hz
    cases hz

/-- Within a step, before the Active scan acts: no condition is raised and no descriptor is written yet, and no
request has joined the Arbiter. -/
structure State.Untouched (s v : State) : Prop where
  conditions : v.conditions = s.conditions
  volumes : v.volumes = s.volumes
  clock : v.clock = s.clock
  arbiter : v.arbiter = s.arbiter

theorem State.Untouched.raisedWith (h : s.Untouched v) :
    v.conditions = s.conditions.raisedWith 0#18 s.conditions.causes :=
  h.conditions.trans s.conditions.raisedWith_none

theorem State.Untouched.now (h : s.Untouched v) : v.now = s.now := congrArg Clock.now h.clock

theorem State.Untouched.segment (h : s.Untouched v) (u n : Nat) : v.segment u n = s.segment u n :=
  State.segment_congr h.volumes u n

theorem State.Untouched.segmentExists (h : s.Untouched v) (u n : Nat) : v.segmentExists u n = s.segmentExists u n := by
  unfold State.segmentExists State.volume
  rw [h.volumes]

theorem State.Untouched.suspected_segment (h : s.Untouched v) (hcan : s.canonical) {u n : Nat}
    (hexists : s.segmentExists u n = true) (a m : Nat) :
    (v.suspected u n).segment a m =
      if a = u ∧ m = n then { s.segment u n with suspect := true } else s.segment a m := by
  have hwritten : (v.suspected u n).volumes = (s.putSegment u n { s.segment u n with suspect := true }).volumes := by
    show (v.putSegment u n _).volumes = _
    simp only [State.putSegment, h.segment, State.volume_congr h.volumes, h.volumes]
  rw [State.segment_congr hwritten, State.putSegment_segment hcan (State.segmentExists_lt hexists)]

theorem State.Untouched.suspected_conditions (h : s.Untouched v) (u n : Nat) :
    (v.suspected u n).conditions =
      s.conditions.raisedWith Cond.digestMismatch.bit (v.suspected u n).conditions.causes :=
  (State.raise_raisedWith (s := v.putSegment u n _) h.raisedWith scanOp .digestMismatch).trans
    (by rw [BitVec.zero_or]; rfl)

/-- The fold of a segment that exists, compared with the stored one (R167). -/
theorem compareScan_compares (hs : s.settled) (hcan : s.canonical) (hu : s.Untouched v) (h1 : 1 ≤ cur.entry)
    (hrange : x.ranges[cur.entry - 1]? ≠ none) {u : Nat} (hexists : s.segmentExists u cur.segment = true)
    (fold : Nat × Nat) (frames : List Frame) :
    let t := { compareScan x u cur fold v with txQueue := frames }.endStep
    s.compares t x u cur fold ∧ t.arbiter = s.arbiter := by
  rw [compareScan_eq, hu.segment]
  split
  · next hfold =>
    obtain ⟨hpasses, haccrued, hvolumes, harbiter⟩ :=
      advanceScan_passes (x := { x with examined := x.examined + 1 }) hs hu.raisedWith hu.now h1 hrange frames
    rw [BitVec.or_zero] at haccrued
    exact ⟨⟨fun _ => ⟨hpasses, hvolumes.trans hu.volumes, haccrued⟩, fun hne => absurd hfold hne⟩,
      harbiter.trans hu.arbiter⟩
  · next hfold =>
    have hunit := hu.suspected_conditions u cur.segment
    have hnow : (v.suspected u cur.segment).now = s.now := hu.now
    have hmarked : ∀ t : State, t.volumes = (v.suspected u cur.segment).volumes →
        t.segment u cur.segment = { s.segment u cur.segment with suspect := true } ∧
          ∀ a m, ¬ (a = u ∧ m = cur.segment) → t.segment a m = s.segment a m := fun t ht => by
      have hsegment := fun a m => (State.segment_congr ht a m).trans (hu.suspected_segment hcan hexists a m)
      exact ⟨(hsegment _ _).trans (if_pos ⟨rfl, rfl⟩), fun a m hne => (hsegment a m).trans (if_neg hne)⟩
    split
    · next hthrough =>
      obtain ⟨hpasses, haccrued, hvolumes, harbiter⟩ :=
        advanceScan_passes (x := x.mismatching) hs hunit hnow h1 hrange frames
      obtain ⟨hown, hother⟩ := hmarked _ hvolumes
      exact ⟨⟨fun he => absurd he hfold, fun _ => ⟨hown, hother, haccrued, fun _ => hpasses,
        fun hf => absurd (hf.symm.trans hthrough) (by decide)⟩⟩, harbiter.trans hu.arbiter⟩
    · next hstops =>
      obtain ⟨hactive, hreports, haccrued, more, -, -, hframe⟩ := endScan_reports hs hunit hnow (.stopped .mismatch)
        { x.mismatching with cursor := some (x.nextCursor cur).1 } frames
      obtain ⟨hown, hother⟩ := hmarked _ (congrArg State.volumes hframe :)
      refine ⟨⟨fun he => absurd he hfold, fun _ => ⟨hown, hother, haccrued, fun ht => absurd ht hstops,
        fun _ => ⟨hreports, _, fun z hz => ?_, hactive⟩⟩⟩, (congrArg State.arbiter hframe :).trans hu.arbiter⟩
      rw [Scan.nextCursor_eq h1 hrange, hz]

/-- One visit of the Running scan (R165 to R167). -/
theorem visitScan_visits (hs : s.settled) (hcan : s.canonical) (hu : s.Untouched v) {range : ScanRange}
    (hcursor : x.cursor = some cur) (h1 : 1 ≤ cur.entry) (hr : x.ranges[cur.entry - 1]? = some range)
    (frames : List Frame) : s.visits { visitScan x v with txQueue := frames }.endStep x range.volume cur := by
  have hrange : x.ranges[cur.entry - 1]? ≠ none := by rw [hr]; nofun
  rw [visitScan_eq (Scan.place_eq_some.mpr ⟨hcursor, h1, range, hr, rfl⟩), hu.segment, hu.segmentExists]
  split
  · next hretained =>
    split
    · next hempty =>
      have hcompares := compareScan_compares hs hcan hu h1 hrange hretained.1 (1, 0) frames
      exact ⟨fun hn => absurd hretained hn, fun _ _ => hcompares, fun _ hpos => absurd hempty (Nat.ne_of_gt hpos)⟩
    · next hfilled =>
      refine ⟨fun hn => absurd hretained hn, fun _ he => absurd he hfilled, fun _ _ => ?_⟩
      have hsettled : v.conditions.causes = [] := by rw [hu.conditions]; exact hs
      have hquiet : ({ beginSegmentRead x range.volume cur (s.segment range.volume cur.segment).appendPoint v with
          txQueue := frames } : State).endStep = _ := State.endStep_quiet _ hsettled
      rw [hquiet]
      refine ⟨rfl, ?_, hu.volumes, hu.conditions⟩
      show v.arbiter.setQueue .verify (v.arbiter.verify ++ _) = _
      rw [hu.arbiter]
      rfl
  · next hnot =>
    obtain ⟨hpasses, haccrued, hvolumes, harbiter⟩ :=
      advanceScan_passes (x := { x with skipped := x.skipped + 1 }) hs hu.raisedWith hu.now h1 hrange frames
    rw [BitVec.or_zero] at haccrued
    exact ⟨fun _ => ⟨hpasses, hvolumes.trans hu.volumes, harbiter.trans hu.arbiter, haccrued⟩,
      fun hr => absurd hr hnot, fun hr => absurd hr hnot⟩

/-! ### A scan that stops (R164, R168) -/

theorem stopScan_eq (cause : StopCause) (x : Scan) (s : State) :
    stopScan cause x s =
      endScan (.stopped (if x.cancelRequested then .cancel else cause)) x
        { s with
          slots := (s.orphanAll (x.list.filterMap ReadEntry.mediaTag)).slots
          arbiter := { s.arbiter with verify := s.withdrawScan.arbiter.verify } } := by
  have hslots : (s.withdrawScan.orphanAll (x.list.filterMap ReadEntry.mediaTag)).slots =
      (s.orphanAll (x.list.filterMap ReadEntry.mediaTag)).slots :=
    State.orphanAll_slots (s := s.withdrawScan) (t := s) rfl _
  have hdropped := s.withdrawScan.orphanAll_eq (x.list.filterMap ReadEntry.mediaTag)
  rw [hslots] at hdropped
  exact congrArg (endScan _ x) hdropped

theorem stopScan_kept (cause : StopCause) (x : Scan) (s : State) :
    (stopScan cause x s).ingestLink = s.ingestLink ∧ (stopScan cause x s).initiators = s.initiators ∧
      (stopScan cause x s).txQueue = s.txQueue := by
  rw [stopScan_eq]
  exact (endScan_moved _ x _).kept

/-- A request still waits once the scan's own are withdrawn exactly when it is another's. -/
theorem State.mem_withdrawScan (s : State) (q : Request) :
    q ∈ s.withdrawScan.arbiter.verify ↔ q ∈ s.arbiter.verify ∧ q.owner ≠ .scan := by
  show q ∈ s.arbiter.verify.filter _ ↔ _
  simp

/-- The step in which the scan x stops, from the state v within it to its end: t places frames before its notice. -/
structure State.StopsScan (s v t : State) (x : Scan) (cause : StopCause) (raised : CondSet)
    (frames more : List Frame) : Prop where
  active : t.scanActive =
    some { x with
      phase := .stopped (if x.cancelRequested then .cancel else cause), segmentRead := none, list := []
      cancelRequested := false }
  reports : s.reports t { initiator := none, tag := none, kind := .scan } x.outcome
  accrued : t.conditions.accrued = s.conditions.accrued ||| raised
  verify : ∀ q, q ∈ t.arbiter.verify ↔ q ∈ v.arbiter.verify ∧ q.owner ≠ .scan
  orphaned : ∀ e ∈ x.list, ∀ k command cls owner timer, e.mediaTag = some k →
    v.slot k = .busy command cls owner timer → t.slot k = .busy command cls none timer
  spared : ∀ k, ((∀ e ∈ x.list, e.mediaTag ≠ some k) ∨ v.slot k = .free ∨ v.slot k = .busyLate) → t.slot k = v.slot k
  notice : more.length ≤ 1 ∧ ∀ y ∈ more, y.kind = 10
  frame : t = { v with
    scanActive := t.scanActive, slots := t.slots, arbiter := { v.arbiter with verify := t.arbiter.verify }
    conditions := t.conditions, txQueue := frames ++ more }

theorem stopScan_stops (hs : s.settled) (hv : v.conditions = s.conditions.raisedWith raised causes)
    (hnow : v.now = s.now) (cause : StopCause) (x : Scan) (frames : List Frame) :
    ∃ more, s.StopsScan v { stopScan cause x v with txQueue := frames }.endStep x cause raised frames more := by
  rw [stopScan_eq]
  let u : State :=
    { v with
      slots := (v.orphanAll (x.list.filterMap ReadEntry.mediaTag)).slots
      arbiter := { v.arbiter with verify := v.withdrawScan.arbiter.verify } }
  let phase := ScanPhase.stopped (if x.cancelRequested then .cancel else cause)
  obtain ⟨hactive, hreports, haccrued, more, hlen, hkind, hframe⟩ := endScan_reports (v := u) hs hv hnow phase x frames
  generalize { endScan phase x u with txQueue := frames }.endStep = t at *
  have hslots : t.slots = u.slots := (congrArg State.slots hframe :)
  have harbiter : t.arbiter = u.arbiter := (congrArg State.arbiter hframe :)
  have hslot : ∀ k, t.slot k = _ := fun k =>
    (congrArg (fun l => Table.get Slot.free l k) hslots).trans (State.orphanAll_slot v _ k)
  refine ⟨more, hactive, hreports, haccrued, fun q => ?_, fun e he k command cls owner timer hk hbusy => ?_,
    fun k hk => ?_, ⟨hlen, hkind⟩, ?_⟩
  · rw [harbiter]
    exact v.mem_withdrawScan q
  · rw [hslot, if_pos (List.mem_filterMap.mpr ⟨e, he, hk⟩)]
    exact congrArg Slot.orphan hbusy
  · rw [hslot]
    split
    · next hmem =>
      obtain ⟨e, he, hek⟩ := List.mem_filterMap.mp hmem
      exact Slot.orphan_of_idle (hk.resolve_left fun hnone => hnone e he hek)
    · rfl
  · rw [hslots, harbiter]
    exact hframe

end Ends

end Sys2Proof.Machine
end

section
/-! PROOF. CANCEL SCAN and RELEASE SCAN. -/

namespace Sys2Proof.Machine

/-! ### A request answered after the Verify Engine has acted (R178, R193) -/

section Asked

variable {s u : State} {f : Frame} {rest : List RxFrame} {request : Nat} {act : Frame → State → State} {status : Status}
  {words : List Nat}

/-- The reply is placed after what the request did, and the notice of the step follows it. -/
theorem controlEvent_placed (h : s.officerAsks f rest request) (hl : u.ingestLink = s.ingestLink)
    (hi : u.initiators = s.initiators) (htx : u.txQueue = s.txQueue)
    (ha : act f (s.taken rest) = answerControl f status words u) :
    controlEvent request act s = { u with txQueue := s.txQueue ++ [f.reply status words] }.endStep := by
  obtain ⟨⟨-, -, -, hroom, -⟩, -, -, hready, hen, -, -⟩ := id h
  have hlimit : Config.intakeLimit ≤ Config.transmitLimit := by decide
  have hpresent : (u.initiator f.initiator).state ≠ .absent := by
    rw [State.initiator, hi]
    show (s.initiator f.initiator).state ≠ .absent
    rw [hen]
    decide
  have hplaced : answerControl f status words u = { u with txQueue := u.txQueue ++ [f.reply status words] } :=
    State.send_placed u _ (hl.trans hready) hpresent (htx ▸ Nat.lt_of_lt_of_le hroom hlimit)
  rw [controlEvent_full request act s f rest h, ha, hplaced, htx]

/-- A request that is answered and gives no notice. -/
theorem controlEvent_placed_quiet (h : s.officerAsks f rest request) (hl : u.ingestLink = s.ingestLink)
    (hi : u.initiators = s.initiators) (htx : u.txQueue = s.txQueue) (hu : u.settled)
    (ha : act f (s.taken rest) = answerControl f status words u) :
    controlEvent request act s = { u with txQueue := s.txQueue ++ [f.reply status words] } :=
  (controlEvent_placed h hl hi htx ha).trans (State.endStep_quiet _ hu)

/-- A request that promotes a scan into the Active descriptor answers after the scan's first visit (R162, R165). -/
theorem controlEvent_promotes {q : Scan} {r : ScanRange} (h : s.officerAsks f rest request) (hcan : s.canonical)
    (hr : q.ranges[0]? = some r)
    (ha : act f (s.taken rest) =
      answerControl f status words
        (visitScan (q.promoted r) { s.taken rest with scanQueued := none, scanActive := some (q.promoted r) })) :
    ∃ t more, controlEvent request act s = t ∧
      s.visits t (q.promoted r) r.volume { entry := 1, segment := r.first } ∧ t.scanQueued = none ∧
      t.rxQueue = rest ∧ t.txQueue = s.txQueue ++ [f.reply status words] ++ more ∧ more.length ≤ 1 ∧
      (∀ y ∈ more, y.kind = 10) ∧ s.sameButScan t := by
  obtain ⟨⟨-, hs, -⟩, -⟩ := id h
  let v : State := { s.taken rest with scanQueued := none, scanActive := some (q.promoted r) }
  have hplace : (q.promoted r).place = some (r.volume, { entry := 1, segment := r.first }) :=
    Scan.place_eq_some.mpr ⟨rfl, Nat.le_refl 1, r, hr, rfl⟩
  have hmoved := visitScan_moved hplace v
  obtain ⟨hl, hi, htx⟩ := hmoved.kept
  have hevent := controlEvent_placed h hl hi htx ha
  have hvisits := visitScan_visits (v := v) (x := q.promoted r) hs hcan ⟨rfl, rfl, rfl, rfl⟩ rfl (Nat.le_refl 1) hr
    (s.txQueue ++ [f.reply status words])
  obtain ⟨more, hlen, hkind, hframe⟩ := hmoved.endStep (s.txQueue ++ [f.reply status words])
  generalize { visitScan (q.promoted r) v with txQueue := s.txQueue ++ [f.reply status words] }.endStep = t at *
  have hqueued : t.scanQueued = none := (congrArg State.scanQueued hframe :)
  have hrx : t.rxQueue = rest := (congrArg State.rxQueue hframe :)
  have htx' : t.txQueue = _ := (congrArg State.txQueue hframe :)
  refine ⟨t, more, hevent, hvisits, hqueued, hrx, htx', hlen, hkind, ?_⟩
  rw [State.sameButScan, hqueued, hrx, htx']
  exact hframe

end Asked

/-! ### CANCEL SCAN (R164) -/

section Cancel

variable {s : State} {f : Frame}

theorem actCancelScan_queued (hp : f.param 0 = 1) {x : Scan} (hq : s.scanQueued = some x) :
    actCancelScan f s = answerControl f .done [] { s with scanQueued := none } := by
  simp [actCancelScan, hp, hq]

theorem actCancelScan_unqueued (hp : f.param 0 = 1) (hq : s.scanQueued = none) :
    actCancelScan f s = refuseControl f .stateDenied none s := by
  simp [actCancelScan, hp, hq]

theorem actCancelScan_empty (hp : f.param 0 = 0) (hx : s.scanActive = none) :
    actCancelScan f s = refuseControl f .stateDenied none s := by
  simp [actCancelScan, cancelActive, hp, hx]

theorem actCancelScan_ended (hp : f.param 0 = 0) {x : Scan} (hx : s.scanActive = some x)
    (hend : x.phase ≠ .running ∨ x.cancelRequested = true) :
    actCancelScan f s = answerControl f .unchanged [] s := by
  have hcond : (!decide (x.phase = .running) || x.cancelRequested) = true := by simpa using hend
  simp only [actCancelScan, cancelActive, hp, hx, hcond, if_true]
  rfl

/-- The cancel of a Running scan: it stops at once when no read of it is sent, and is asked to stop when one is. -/
theorem actCancelScan_running (hp : f.param 0 = 0) {x : Scan} (hx : s.scanActive = some x) (hrun : x.phase = .running)
    (hc : x.cancelRequested = false) :
    ((∀ e ∈ x.list, e.progress ≠ .sent) →
      actCancelScan f s = answerControl f .done [] (stopScan .cancel x s)) ∧
    ((∃ e ∈ x.list, e.progress = .sent) →
      actCancelScan f s = answerControl f .done [] (requestCancel x s)) := by
  have hact : actCancelScan f s =
      if x.list.any (fun e => decide (e.progress = .sent)) then answerControl f .done [] (requestCancel x s)
      else answerControl f .done [] (stopScan .cancel x s) := by
    simp [actCancelScan, cancelActive, hp, hx, hrun, hc]
  constructor
  · intro hnone
    rw [hact, if_neg]
    simpa using hnone
  · intro hsent
    rw [hact, if_pos]
    simpa using hsent

end Cancel

/-! ### RELEASE SCAN (R162, R163) -/

/-- The Queued scan takes the Empty Active descriptor and makes its first visit (R162). -/
theorem promoteScan_queued {s : State} {q : Scan} {r : ScanRange} (ha : s.scanActive = none)
    (hq : s.scanQueued = some q) (hr : q.ranges[0]? = some r) :
    promoteScan s =
      visitScan (q.promoted r) { s with scanQueued := none, scanActive := some (q.promoted r) } := by
  have hrange : q.rangeAt 1 = some r := hr
  simp only [promoteScan, ha, hq, hrange]
  rfl

/-- The result of an ended scan is returned, and its descriptor emptied. -/
theorem actReleaseScan_ended {s : State} {f : Frame} {x : Scan} {cause : Nat} (hx : s.scanActive = some x)
    (hend : (x.phase = .done ∧ cause = 4294967295) ∨ (∃ k : StopCause, x.phase = .stopped k ∧ cause = k.number)) :
    actReleaseScan f s =
      answerControl f .done [if x.phase = .done then 3 else 4, x.examined, x.mismatched, x.skipped, cause]
        (promoteScan { s with scanActive := none }) := by
  rcases hend with ⟨hphase, rfl⟩ | ⟨k, hphase, rfl⟩
  · simp [actReleaseScan, hx, hphase, ScanPhase.number, ScanPhase.cause, optionWord, Config.absentWord]
  · simp [actReleaseScan, hx, hphase, ScanPhase.number, ScanPhase.cause, optionWord]

/-- Settles O39: a cancel by the descriptor it names and its state, and a release with the promotion of the Queued
scan. -/
theorem scanCancelledOrReleased : Obligations.ScanCancelledOrReleased := by
  refine ⟨fun s f rest h => ?_, fun s f rest h => ?_⟩
  · obtain ⟨⟨-, hs, -⟩, -⟩ := id h
    have hrefused : ∀ code, actCancelScan f (s.taken rest) = refuseControl f code none (s.taken rest) →
        exec .cancelScan s = .next (s.answered rest (f.refusal code none)) :=
      fun code hact => congrArg Host.Outcome.next (controlEvent_refused h hact)
    refine ⟨fun hp => hrefused _ (if_pos hp), fun hp hq => hrefused _ (actCancelScan_unqueued hp hq),
      fun x hp hq => ?_, fun hp hx => hrefused _ (actCancelScan_empty hp hx), fun x hp hx hend => ?_,
      fun x hp hx hrun hc hnone => ?_, fun x hp hx hrun hc hsent => ?_⟩
    · have hact := actCancelScan_queued (s := s.taken rest) hp hq
      exact congrArg Host.Outcome.next
        (controlEvent_placed_quiet (u := { s.taken rest with scanQueued := none }) h rfl rfl rfl hs hact)
    · exact congrArg Host.Outcome.next
        (controlEvent_only_answered h (actCancelScan_ended (s := s.taken rest) hp hx hend))
    · have hact := (actCancelScan_running (s := s.taken rest) hp hx hrun hc).1 hnone
      obtain ⟨hl, hi, htx⟩ := stopScan_kept .cancel x (s.taken rest)
      have hevent := controlEvent_placed h hl hi htx hact
      obtain ⟨more, hstops⟩ := stopScan_stops (v := s.taken rest) hs s.conditions.raisedWith_none rfl .cancel x
        (s.txQueue ++ [f.reply .done []])
      generalize { stopScan .cancel x (s.taken rest) with txQueue := _ }.endStep = t at *
      obtain ⟨hactive, hreports, haccrued, hverify, horphaned, hspared, ⟨hlen, hkind⟩, hframe⟩ := hstops
      have htx' : t.txQueue = _ := (congrArg State.txQueue hframe :)
      rw [BitVec.or_zero] at haccrued
      refine ⟨t, more, congrArg Host.Outcome.next hevent, ?_, hreports, haccrued, htx', hlen, hkind, hverify, horphaned,
        fun k hk => hspared k (.inl hk), ?_⟩
      · rw [hactive, hc]
        rfl
      · rw [htx']
        exact hframe
    · have hact := (actCancelScan_running (s := s.taken rest) hp hx hrun hc).2 hsent
      have hevent := controlEvent_placed_quiet (u := requestCancel x (s.taken rest)) h rfl rfl rfl hs hact
      exact ⟨_, congrArg Host.Outcome.next hevent, rfl, (s.taken rest).mem_withdrawScan, rfl⟩
  · obtain ⟨⟨-, hs, -⟩, -⟩ := id h
    have hrefused : ∀ code, actReleaseScan f (s.taken rest) = refuseControl f code none (s.taken rest) →
        exec .releaseScan s = .next (s.answered rest (f.refusal code none)) :=
      fun code hact => congrArg Host.Outcome.next (controlEvent_refused h hact)
    have htaken : (s.taken rest).scanActive = s.scanActive := rfl
    refine ⟨fun hx => hrefused _ ?_, fun x hx hrun => hrefused _ ?_, fun x cause hx hend => ?_⟩
    · simp only [actReleaseScan, htaken, hx]
    · simp only [actReleaseScan, htaken, hx, hrun]
      rfl
    · have hact := actReleaseScan_ended (s := s.taken rest) (f := f) hx hend
      refine ⟨fun hq => ?_, fun q r hq hr hcan => ?_⟩
      · have hnone : promoteScan { s.taken rest with scanActive := none } =
            { s.taken rest with scanActive := none } := by
          simp only [promoteScan, show (s.taken rest).scanQueued = none from hq]
        rw [hnone] at hact
        exact congrArg Host.Outcome.next
          (controlEvent_placed_quiet (u := { s.taken rest with scanActive := none }) h rfl rfl rfl hs hact)
      · rw [promoteScan_queued (s := { s.taken rest with scanActive := none }) rfl hq hr] at hact
        obtain ⟨t, more, hevent, hvisits⟩ := controlEvent_promotes h hcan hr hact
        exact ⟨t, more, congrArg Host.Outcome.next hevent, hvisits⟩

end Sys2Proof.Machine

end

section
/-! PROOF. The visits of the Running scan, and the answers to its media reads. -/

namespace Sys2Proof.Machine

/-! ### From the answer to the scan that owns its slot (R140, R141, R166, R168) -/

/-- An MSTATUS is an answer without blocks, and fails the scan read that it answers (R168). -/
theorem answerScan_status {f : Frame} (hk : f.kind = 19) (tag : Nat) (x : Scan) (s : State) :
    answerScan tag (answerOf f) x s = scanFails .mediaFault x s := by
  unfold answerOf
  rw [if_neg (by omega)]
  split
  · rfl
  · split <;> rfl

theorem answerScan_data {f : Frame} (hk : f.kind = 20) (tag : Nat) (x : Scan) (s : State) :
    answerScan tag (answerOf f) x s =
      if servesTag f tag x.list then scanArrives tag f.payload x s else scanFails .mediaFault x s := by
  rw [answerOf, if_pos hk]
  rfl

/-- A response to a Busy slot of the Active scan is handed to it. -/
theorem responseArrives_scan {s : State} {bytes : List Byte} {f : Frame} {kind : Nat} {x : Scan}
    (ha : s.answers bytes f kind) (hk : kind = 19 ∨ kind = 20) (ho : s.owned f.tag .scan) (hx : s.scanActive = some x) :
    responseArrives bytes s = answerScan f.tag (answerOf f) x (s.slotFreed bytes f.tag) := by
  have hfreed : (s.slotFreed bytes f.tag).scanActive = some x := hx
  rw [responseArrives_owned ha hk ho]
  simp only [handOver, hfreed]

section Tagged

variable {s : State} {x : Scan} {before after : List ReadEntry} {e : ReadEntry} {tag : Nat}

/-- A failure is handed to the Active scan, in a state in which the slot is taken from it and no longer waits. -/
theorem State.fails.scan {u : State} {ev : Instr} {timeout : Bool}
    (h : s.fails ev tag .scan (some e.count) timeout u) (hx : s.scanActive = some x)
    (hlist : x.list = before ++ e :: after) (he : e.mediaTag = some tag)
    (hother : ∀ y ∈ before ++ after, y.mediaTag ≠ some tag) :
    exec ev s = .next (scanFails .mediaFault x u).endStep ∧ s.settled ∧ s.slotTaken u ∧
      (u.slot tag = .free ∨ u.slot tag = .busyLate) := by
  rcases h with ⟨bytes, f, rfl, hb, ha, rfl, ho, -, -, rfl⟩ | ⟨bytes, f, rfl, hb, ha, rfl, ho, hblocks, -, rfl⟩ |
    ⟨rfl, hon, hs, htag, ⟨command, cls, hslot⟩, -, rfl⟩
  · obtain ⟨hon, hs, -, -, -, hkind, htag⟩ := id ha
    refine ⟨?_, hs, ⟨_, _, rfl⟩, .inl (State.setSlot_slot_same _ _ _ htag)⟩
    rw [exec_mstatus hon hb, responseArrives_scan ha (.inl rfl) ho hx, answerScan_status hkind]
  · obtain ⟨hon, hs, -, -, -, hkind, htag⟩ := id ha
    refine ⟨?_, hs, ⟨_, _, rfl⟩, .inl (State.setSlot_slot_same _ _ _ htag)⟩
    rw [exec_mdata hon hb, responseArrives_scan ha (.inr rfl) ho hx, answerScan_data hkind, hlist,
      servesTag_eq he hother, hblocks _ rfl]
    rfl
  · have hlate : (s.setSlot tag .busyLate).scanActive = some x := hx
    refine ⟨?_, hs, ⟨_, _, rfl⟩, .inr (State.setSlot_slot_same _ _ _ htag)⟩
    rw [exec_mediaTimeout hon]
    simp only [slotExpires, hslot, timeoutOwner, hlate]

/-- An MDATA with exactly the blocks of an entry of the scan (R166). -/
theorem exec_scanArrives {bytes : List Byte} {f : Frame} (ha : s.answers bytes f 20) (hb : bytesAreMdata bytes = true)
    (ho : s.owned f.tag .scan) (hx : s.scanActive = some x) (hlist : x.list = before ++ e :: after)
    (he : e.mediaTag = some f.tag) (hother : ∀ y ∈ before ++ after, y.mediaTag ≠ some f.tag)
    (hblocks : f.holdsBlocks e.count = true) :
    exec (.mdata bytes) s = .next (scanArrives f.tag f.payload x (s.slotFreed bytes f.tag)).endStep := by
  obtain ⟨hon, -, -, -, -, hkind, -⟩ := id ha
  have hserves : servesTag f f.tag x.list = true := by rw [hlist, servesTag_eq he hother, hblocks]
  rw [exec_mdata hon hb, responseArrives_scan ha (.inr rfl) ho hx, answerScan_data hkind, if_pos hserves]

/-! ### The blocks of a scan (R164, R166) -/

/-- A cancelled scan drops the entry answered, and stops when none remains (R164). -/
theorem cancelledArrival_eq (hlist : x.list = before ++ e :: after) (he : e.mediaTag = some tag)
    (hother : ∀ y ∈ before ++ after, y.mediaTag ≠ some tag) (u : State) :
    cancelledArrival x tag u =
      if before ++ after = [] then endScan (.stopped .cancel) x u
      else u.putScan { x with list := before ++ after } := by
  have hbefore : before.filter (fun y => !decide (y.mediaTag = some tag)) = before :=
    List.filter_eq_self.mpr fun y hy => by simpa using hother y (List.mem_append_left _ hy)
  have hkept : x.list.filter (fun y => !decide (y.mediaTag = some tag)) = before ++ after := by
    rw [hlist, List.filter_append, hbefore, filter_untagged he hother]
  simp only [cancelledArrival, hkept]

/-- The arrival of blocks leaves the offset after the last piece (R166). -/
theorem entriesEnd_markArrived {l : List ReadEntry} {final : ReadEntry} (h : l.getLast? = some final) (tag : Nat)
    (data : List Byte) : entriesEnd (markArrived tag data l) = final.offset + final.count := by
  rw [entriesEnd, markArrived, List.getLast?_map, h]
  by_cases htag : final.mediaTag = some tag
  · simp [htag]
  · simp [htag]

theorem takeWhile_arrived {heads kept : List ReadEntry} (hheads : ∀ h ∈ heads, h.progress = .arrived)
    (hkept : ∀ h, kept.head? = some h → h.progress ≠ .arrived) :
    (heads ++ kept).takeWhile (fun h => decide (h.progress = .arrived)) = heads ∧
      (heads ++ kept).dropWhile (fun h => decide (h.progress = .arrived)) = kept := by
  have hpos : ∀ h ∈ heads, decide (h.progress = .arrived) = true := fun h hh => decide_eq_true (hheads h hh)
  rw [List.takeWhile_append_of_pos hpos, List.dropWhile_append_of_pos hpos]
  cases kept with
  | nil => exact ⟨List.append_nil _, rfl⟩
  | cons h rest =>
    have hneg : ¬ decide (h.progress = .arrived) = true := by simpa using hkept h rfl
    rw [List.takeWhile_cons_of_neg (p := fun h : ReadEntry => decide (h.progress = .arrived)) hneg,
      List.dropWhile_cons_of_neg (p := fun h : ReadEntry => decide (h.progress = .arrived)) hneg, List.append_nil]
    exact ⟨rfl, rfl⟩

end Tagged

/-- The fold of a segment read once a run of arrived entries has been folded (R166). -/
def SegmentRead.folded (rd : SegmentRead) (heads : List ReadEntry) : Nat × Nat :=
  heads.foldl (fun p h => foldBytes p h.data) (rd.foldA, rd.foldB)

/-- The entries for the pieces that a run of folded entries makes room for, after an offset (R166). -/
def SegmentRead.fresh (rd : SegmentRead) (heads : List ReadEntry) (start : Nat) : List ReadEntry :=
  (pieces heads.length start rd.readEnd).map waitingEntry

/-- An arrival by the run of arrived entries at the head of the list: it is folded, and the segment compared when no
entry remains and no piece is left (R166, R167). -/
theorem scanArrives_eq {x : Scan} {v tag : Nat} {cur : ScanCursor} {rd : SegmentRead} {data : List Byte}
    {heads kept : List ReadEntry} {final : ReadEntry} (hc : x.cancelRequested = false) (hp : x.place = some (v, cur))
    (hrd : x.segmentRead = some rd) (hlist : markArrived tag data x.list = heads ++ kept)
    (hheads : ∀ h ∈ heads, h.progress = .arrived) (hkept : ∀ h, kept.head? = some h → h.progress ≠ .arrived)
    (hlast : x.list.getLast? = some final) (u : State) :
    let fresh := rd.fresh heads (final.offset + final.count)
    let asked := u.ask .verify (scanRequests v cur.segment fresh)
    scanArrives tag data x u =
      if kept ++ fresh = [] then compareScan x v cur (rd.folded heads) asked
      else
        asked.putScan
          { x with
            segmentRead := some { rd with foldA := (rd.folded heads).1, foldB := (rd.folded heads).2 }
            list := kept ++ fresh } := by
  obtain ⟨htake, hdrop⟩ := takeWhile_arrived hheads hkept
  have hend := entriesEnd_markArrived hlast tag data
  have hfolds : scanArrives tag data x u = foldScan { x with list := markArrived tag data x.list } v cur rd u := by
    rw [scanArrives, if_neg (by rw [hc]; decide)]
    generalize ({ x with list := markArrived tag data x.list } : Scan) = y
    simp only [hp, hrd]
  rw [hlist] at hend hfolds
  rw [hfolds]
  simp only [foldScan, htake, hdrop, hend]
  rfl

/-! ### The steps of the scan -/

section Steps

variable {s v : State} {x : Scan} {cur : ScanCursor}

/-- The step of a comparison that answers no request. -/
theorem compareScan_ends (hs : s.settled) (hcan : s.canonical) (hv : s.Untouched v) (h1 : 1 ≤ cur.entry)
    (hrange : x.ranges[cur.entry - 1]? ≠ none) {u : Nat} (hexists : s.segmentExists u cur.segment = true)
    (fold : Nat × Nat) :
    ∃ t more, (compareScan x u cur fold v).endStep = t ∧ s.compares t x u cur fold ∧ t.txQueue = v.txQueue ++ more ∧
      more.length ≤ 1 ∧
      t = { v with
        scanActive := t.scanActive, volumes := t.volumes, conditions := t.conditions, txQueue := t.txQueue } := by
  have hmoved := compareScan_moved x u cur fold v
  obtain ⟨hcompares, harbiter⟩ := compareScan_compares hs hcan hv h1 hrange hexists fold v.txQueue
  obtain ⟨more, hlen, -, hframe⟩ := hmoved.endStep v.txQueue
  rw [State.with_txQueue hmoved.kept.2.2] at hcompares harbiter hframe
  generalize (compareScan x u cur fold v).endStep = t at *
  have htx : t.txQueue = _ := (congrArg State.txQueue hframe :)
  refine ⟨t, more, rfl, hcompares, htx, hlen, ?_⟩
  rw [harbiter, ← hv.arbiter] at hframe
  rw [htx]
  exact hframe

/-- The step of a scan's end that answers no request and raises no condition (R170). -/
theorem endScan_ends (hs : s.settled) (hv : s.Untouched v) (phase : ScanPhase) (x : Scan) :
    ∃ t more, (endScan phase x v).endStep = t ∧
      t.scanActive = some { x with phase := phase, segmentRead := none, list := [], cancelRequested := false } ∧
      s.reports t scanOp x.outcome ∧ t.conditions.accrued = s.conditions.accrued ∧ t.txQueue = v.txQueue ++ more ∧
      more.length ≤ 1 ∧
      t = { v with scanActive := t.scanActive, conditions := t.conditions, txQueue := t.txQueue } := by
  have hends := endScan_reports hs hv.raisedWith hv.now phase x v.txQueue
  rw [State.with_txQueue (endScan_moved phase x v).kept.2.2] at hends
  obtain ⟨hactive, hreports, haccrued, more, hlen, -, hframe⟩ := hends
  generalize (endScan phase x v).endStep = t at *
  have htx : t.txQueue = _ := (congrArg State.txQueue hframe :)
  rw [BitVec.or_zero] at haccrued
  refine ⟨t, more, rfl, hactive, hreports, haccrued, htx, hlen, ?_⟩
  rw [htx]
  exact hframe

/-- The step of a visit that answers no request (R165). -/
theorem visitScan_ends (hs : s.settled) (hcan : s.canonical) {range : ScanRange} (hcursor : x.cursor = some cur)
    (h1 : 1 ≤ cur.entry) (hr : x.ranges[cur.entry - 1]? = some range) :
    ∃ t more, (visitScan x s).endStep = t ∧ s.visits t x range.volume cur ∧ t.scanQueued = s.scanQueued ∧
      t.rxQueue = s.rxQueue ∧ t.txQueue = s.txQueue ++ more ∧ more.length ≤ 1 ∧ s.sameButScan t := by
  have hmoved := visitScan_moved (Scan.place_eq_some.mpr ⟨hcursor, h1, range, hr, rfl⟩) s
  have hvisits := visitScan_visits hs hcan ⟨rfl, rfl, rfl, rfl⟩ hcursor h1 hr s.txQueue
  obtain ⟨more, hlen, -, hframe⟩ := hmoved.endStep s.txQueue
  rw [State.with_txQueue hmoved.kept.2.2] at hvisits hframe
  generalize (visitScan x s).endStep = t at *
  have hqueued : t.scanQueued = s.scanQueued := (congrArg State.scanQueued hframe :)
  have hrx : t.rxQueue = s.rxQueue := (congrArg State.rxQueue hframe :)
  have htx : t.txQueue = _ := (congrArg State.txQueue hframe :)
  refine ⟨t, more, rfl, hvisits, hqueued, hrx, htx, hlen, ?_⟩
  rw [State.sameButScan, hqueued, hrx, htx]
  exact hframe

/-- A failed media read stops the scan with MEDIA_FAULT (R168). -/
theorem State.fails.scanStops {u : State} {ev : Instr} {tag : Nat} {timeout : Bool} {before after : List ReadEntry}
    {e : ReadEntry} (h : s.fails ev tag .scan (some e.count) timeout u) (hx : s.scanActive = some x)
    (hlist : x.list = before ++ e :: after) (he : e.mediaTag = some tag)
    (hother : ∀ y ∈ before ++ after, y.mediaTag ≠ some tag) :
    ∃ t more, exec ev s = .next t ∧
      s.StopsScan (u.raise scanOp .mediaFault) t { x with outcome := x.outcome ||| Cond.mediaFault.bit } .mediaFault
        Cond.mediaFault.bit s.txQueue more := by
  obtain ⟨hexec, hs, ⟨check, slots, rfl⟩, -⟩ := h.scan hx hlist he hother
  let u : State := { s with mediaCheck := check, slots := slots }
  let y : Scan := { x with outcome := x.outcome ||| Cond.mediaFault.bit }
  have hraised : (u.raise scanOp .mediaFault).conditions =
      s.conditions.raisedWith Cond.mediaFault.bit (u.raise scanOp .mediaFault).conditions.causes :=
    (State.raise_raisedWith (s := u) s.conditions.raisedWith_none scanOp .mediaFault).trans (by rw [BitVec.zero_or])
  obtain ⟨more, hstops⟩ := stopScan_stops (v := u.raise scanOp .mediaFault) hs hraised rfl .mediaFault y s.txQueue
  rw [State.with_txQueue (frames := s.txQueue) (stopScan_kept .mediaFault y (u.raise scanOp .mediaFault)).2.2] at hstops
  exact ⟨_, more, hexec, hstops⟩

end Steps

/-- Settles O51: one visit, the blocks of a scan that arrive, and a media read of it that fails. -/
theorem scanVisits : Obligations.ScanVisits := by
  refine ⟨?_, ?_, ?_⟩
  · intro s x cur range hon hs hcan hx hrun hread hc hcursor h1 hr
    have hvisit : activeVisit s = visitScan x s := by simp [activeVisit, hx, Scan.visits, hrun, hread, hc]
    have hevent : onEvent s activeVisit = (visitScan x s).endStep := by rw [onEvent_on s activeVisit hon, hvisit]
    obtain ⟨t, more, rfl, hvisits⟩ := visitScan_ends hs hcan hcursor h1 hr
    exact ⟨_, more, congrArg Host.Outcome.next hevent, hvisits⟩
  · intro s bytes f x cur range before after e ha hb ho hcan hx hrun hcursor h1 hr hlist he hother hblocks hexists
      u list
    have hexec := exec_scanArrives ha hb ho hx hlist he hother hblocks
    have hs : s.settled := ha.2.1
    refine ⟨fun rd heads kept final hc hrd hsplit hheads hkept hlast => ?_, fun hc hne => ?_, fun hc hnil => ?_⟩
    · have hmarked : markArrived f.tag f.payload x.list = heads ++ kept := by
        rw [hlist, markArrived_eq he hother]
        exact hsplit
      have hplace := Scan.place_eq_some.mpr ⟨hcursor, h1, range, hr, rfl⟩
      have harrives := scanArrives_eq hc hplace hrd hmarked hheads hkept hlast u
      refine ⟨fun hne => ?_, fun hnil => ?_⟩
      · have hstored := harrives.trans (if_neg hne)
        rw [hexec, hstored]
        exact congrArg Host.Outcome.next (State.endStep_quiet _ hs)
      · have hcompared := harrives.trans (if_pos hnil)
        have hnone : rd.fresh heads (final.offset + final.count) = [] := (List.append_eq_nil_iff.mp hnil).2
        have hasked : u.ask .verify [] = u :=
          congrArg (fun l => { u with arbiter := { u.arbiter with verify := l } }) (List.append_nil _)
        rw [hnone, scanRequests, List.map_nil, hasked] at hcompared
        have hrange : x.ranges[cur.entry - 1]? ≠ none := by rw [hr]; nofun
        obtain ⟨t, more, ht, hcompares⟩ := compareScan_ends (v := u) hs hcan ⟨rfl, rfl, rfl, rfl⟩ h1 hrange hexists
          (rd.folded heads)
        exact ⟨t, more, by rw [hexec, hcompared, ht], hcompares⟩
    · have hdropped : scanArrives f.tag f.payload x u = u.putScan { x with list := before ++ after } := by
        rw [scanArrives, if_pos hc, cancelledArrival_eq hlist he hother, if_neg hne]
      rw [hexec, hdropped]
      exact congrArg Host.Outcome.next (State.endStep_quiet _ hs)
    · have hstopped : scanArrives f.tag f.payload x u = endScan (.stopped .cancel) x u := by
        rw [scanArrives, if_pos hc, cancelledArrival_eq hlist he hother, if_pos hnil]
      obtain ⟨t, more, ht, hends⟩ := endScan_ends (v := u) hs ⟨rfl, rfl, rfl, rfl⟩ (.stopped .cancel) x
      exact ⟨t, more, by rw [hexec, hstopped, ht], hends⟩
  · intro s u ev tag timeout x before after e h hx hlist he hother y
    obtain ⟨-, -, ⟨check, slots, rfl⟩, hidle⟩ := h.scan hx hlist he hother
    obtain ⟨t, more, hexec, hstops⟩ := h.scanStops hx hlist he hother
    obtain ⟨hactive, hreports, haccrued, hverify, horphaned, hspared, ⟨hlen, -⟩, hframe⟩ := hstops
    have hmem : ∀ h, h ∈ x.list ↔ h = e ∨ h ∈ before ++ after := fun h => by
      rw [hlist, List.mem_append, List.mem_cons, List.mem_append, or_left_comm]
    have htx : t.txQueue = _ := (congrArg State.txQueue hframe :)
    refine ⟨t, more, hexec, hactive, haccrued, hreports, hverify,
      fun h hh => horphaned h ((hmem h).mpr (.inr hh)), fun k hk => ?_, htx, hlen, ?_⟩
    · by_cases htag : k = tag
      · rw [htag]
        exact hspared tag (.inr hidle)
      · refine hspared k (.inl fun h hh hhk => ?_)
        rcases (hmem h).mp hh with rfl | hh
        · exact htag (Option.some.inj (hhk.symm.trans he))
        · exact hk h hh hhk
    · rw [htx]
      exact hframe

end Sys2Proof.Machine

end

section
/-! PROOF. The Ingest Link: frames that arrive, frames that leave, and a link that reports itself up. -/

namespace Sys2Proof.Machine

/-! ### A frame that arrives (R180, R182, R183) -/

theorem exec_ingestFrameArrival {s : State} (hon : s.takesEvents = true) (bytes : List Byte) :
    exec (.ingestFrameArrival bytes) s = .next (frameArrives bytes s).endStep :=
  congrArg Host.Outcome.next (onEvent_on s _ hon)

theorem State.receives_iff (s : State) : s.receives = true ↔ s.ingestLink = .ready ∧ s.rxQueue.length < 64 := by
  rw [State.receives, Bool.and_eq_true, decide_eq_true_eq, decide_eq_true_eq]
  rfl

theorem frameArrives_joins {s : State} {bytes : List Byte} (hr : s.receives = true)
    (hpass : checkPasses bytes = true) :
    frameArrives bytes s =
      { s with ingestCheck := checkAfter bytes, rxQueue := s.rxQueue ++ [rxFrameOf bytes] } := by
  simp only [frameArrives, if_pos hr, if_pos hpass]

theorem frameArrives_discarded {s : State} {bytes : List Byte} (hr : s.receives = true)
    (hfail : checkPasses bytes = false) :
    frameArrives bytes s =
      { s with ingestCheck := checkAfter bytes }.raiseAlone (engineOp .frame) .frameCheck := by
  simp only [frameArrives, if_pos hr, hfail, Bool.false_eq_true, if_false]

theorem frameArrives_missed {s : State} (hr : s.receives = false) (bytes : List Byte) : frameArrives bytes s = s := by
  simp only [frameArrives, hr, Bool.false_eq_true, if_false]

/-- The step that discards a frame makes no frame but the notice of FRAME_CHECK (R180, R183). -/
theorem discardedFrame_ends {s : State} (hs : s.settled) (check : FrameCheck) :
    let u := { s with ingestCheck := check }.raiseAlone (engineOp .frame) .frameCheck
    u.endStep =
        { s with ingestCheck := check, conditions := u.endStep.conditions, txQueue := s.txQueue ++ u.notices } ∧
      s.raisesOne u.endStep .frameCheck
        (some { op := engineOp .frame, outcome := Cond.frameCheck.bit, time := s.now }) u.notices := by
  intro u
  have hu : u =
      { s with ingestCheck := check, conditions := (s.raiseAlone (engineOp .frame) .frameCheck).conditions } := by
    rw [State.raiseAlone_eq s]
    exact State.raiseAlone_eq _ _ _
  refine ⟨?_, State.raisesOne_endStep hs (by rw [hu]) (by rw [hu])⟩
  rw [State.endStep_noticed, hu]

/-! ### A frame that leaves (R184) -/

theorem transmitHead_taken {s : State} {f : Frame} {rest : List Frame} (hl : s.ingestLink = .ready)
    (hq : s.txQueue = f :: rest) : transmitHead s = { s with txQueue := rest, ingestOut := f.wire } := by
  simp only [transmitHead, hq, if_pos hl]

/-- Settles O12: an arriving frame by its check word and the room for it, the head frame that leaves, and the two links
that report themselves up. -/
theorem ingestLinkCarriesFrames : Obligations.IngestLinkCarriesFrames := by
  refine ⟨fun s bytes hon hs => ⟨fun hl hroom hpass => ?_, fun hl hroom hfail => ?_, fun hno => ?_⟩,
    fun s f rest hon hs hl hq => ?_, fun s hon hs => ⟨?_, ?_⟩⟩
  · rw [exec_ingestFrameArrival hon, frameArrives_joins (s.receives_iff.mpr ⟨hl, hroom⟩) hpass, State.endStep_quiet]
    exact hs
  · rw [exec_ingestFrameArrival hon, frameArrives_discarded (s.receives_iff.mpr ⟨hl, hroom⟩) hfail]
    exact ⟨_, _, rfl, discardedFrame_ends hs (checkAfter bytes)⟩
  · have hr : s.receives = false := by
      rw [← Bool.not_eq_true, s.receives_iff]
      rintro ⟨hl, hroom⟩
      rcases hno with hlost | hfull
      · rw [hl] at hlost
        cases hlost
      · omega
    rw [exec_ingestFrameArrival hon, frameArrives_missed hr, State.endStep_quiet s hs]
  · have hsent := transmitHead_taken hl hq
    have hquiet : (transmitHead s).settled := by
      rw [hsent]
      exact hs
    exact congrArg Host.Outcome.next ((onEvent_quiet s _ hon hquiet).trans hsent)
  · exact congrArg Host.Outcome.next (onEvent_quiet s _ hon hs)
  · exact congrArg Host.Outcome.next (onEvent_quiet s _ hon hs)

end Sys2Proof.Machine

end

section
/-! PROOF. CLEAR CONDITIONS, the contents of a notice, and the causes that a condition gives when it is raised. -/

namespace Sys2Proof.Machine

/-! ### Groups and their members (R175, R187) -/

/-- The flag of a condition is a member of its own group alone. -/
theorem Group.members_number (g : Group) (c : Cond) : g.members.getLsbD c.number = decide (c.group = g) := by
  cases g <;> cases c <;> rfl

theorem Cond.bit_and_members (c : Cond) (g : Group) : c.bit &&& g.members = 0#18 ↔ g ≠ c.group := by
  cases g <;> cases c <;> decide

theorem CondSet.groupSet_iff (x : CondSet) (g : Group) : x.groupSet g = true ↔ x &&& g.members ≠ 0#18 := by
  simp [CondSet.groupSet]

/-- A condition raised sets its own group and no other (R175). -/
theorem CondSet.groupSet_or_bit (x : CondSet) (c : Cond) (g : Group) :
    (x ||| c.bit).groupSet g = true ↔ x.groupSet g = true ∨ g = c.group := by
  rw [CondSet.groupSet_iff, CondSet.groupSet_iff, BitVec.and_or_distrib_right, Ne, BitVec.or_eq_zero_iff,
    c.bit_and_members g, not_and_or, not_not]

theorem mem_wordGroups {w : Nat} {g : Group} : g ∈ wordGroups w ↔ w.testBit g.number = true := by
  have hall : g ∈ allGroups := by cases g <;> decide
  simp [wordGroups, hall]

/-- A flag is left by the clearing of a list of groups exactly when its own group is not one of them (R176). -/
theorem CondSet.clearGroups_getLsbD (x : CondSet) (gs : List Group) (c : Cond) :
    (x.clearGroups gs).getLsbD c.number = (x.getLsbD c.number && !decide (c.group ∈ gs)) := by
  have hlt : c.number < 18 := by cases c <;> decide
  induction gs generalizing x with
  | nil => simp [CondSet.clearGroups]
  | cons g gs ih =>
    have hstep : x.clearGroups (g :: gs) = CondSet.clearGroups (x &&& ~~~ g.members) gs := rfl
    rw [hstep, ih, BitVec.getLsbD_and, BitVec.getLsbD_not, Group.members_number]
    simp [hlt, Bool.and_assoc]

/-! ### CLEAR CONDITIONS (R176) -/

/-- A request that writes the Condition Unit or the timeouts, and gives no cause of a notice, is answered (R193). -/
theorem controlEvent_settings {s : State} {f : Frame} {rest : List RxFrame} {request : Nat}
    {act : Frame → State → State} {status : Status} {words : List Nat} {x : Conditions} {idle media : Nat}
    (h : s.officerAsks f rest request)
    (ha : act f (s.taken rest) =
      answerControl f status words
        { s.taken rest with conditions := x, idleTime := idle, mediaTimeout := media })
    (hx : x.causes = []) :
    controlEvent request act s =
      { s.answered rest (f.reply status words) with conditions := x, idleTime := idle, mediaTimeout := media } :=
  controlEvent_placed_quiet (u := { s.taken rest with conditions := x, idleTime := idle, mediaTimeout := media })
    h rfl rfl rfl hx ha

/-- A CLEAR CONDITIONS as a chain of its rows. -/
theorem actClearConditions_rows (f : Frame) (s : State) :
    let left := s.conditions.accrued.clearGroups (wordGroups (f.param 0))
    actClearConditions f s =
      if f.param 0 = 0 ∨ 31 < f.param 0 then refuseControl f .format none s
      else if ∀ g ∈ wordGroups (f.param 0), s.conditions.accrued.groupSet g = false then
        answerControl f .unchanged [s.conditions.accrued.groups.toNat] s
      else
        answerControl f .done [left.groups.toNat]
          { s with conditions := { s.conditions with accrued := left } } := by
  simp only [actClearConditions, Bool.or_eq_true, decide_eq_true_eq, List.all_eq_true, Bool.not_eq_true']
  rfl

/-! ### The contents of a notice (R178, R179, R192) -/

theorem wordsBytes_length (ws : List Nat) : (wordsBytes ws).length = 4 * ws.length := by
  induction ws with
  | nil => rfl
  | cons w ws ih =>
    have hsplit : wordsBytes (w :: ws) = wordBytes w ++ wordsBytes ws := List.flatMap_cons
    have hword : (wordBytes w).length = 4 := rfl
    rw [hsplit, List.length_append, ih, hword, List.length_cons]
    omega

/-- The frame of a notice from the words it carries (R192). -/
theorem Conditions.noticeFrame_of_words (c : Conditions) {words : List Nat}
    (h : words = [c.noticeNumber, c.causes.length] ++ c.causes.flatMap Cause.words ++ [c.accrued.groups.toNat] ++
      lastOutcomeWords c.last) :
    c.noticeFrame =
      { Frame.blank 10 c.noticeInitiator 0 0 with
        payloadLength := 4 * words.length, payload := wordsBytes words } := by
  rw [Conditions.noticeFrame, ← h, Frame.withPayload, wordsBytes_length]

/-- A step with causes ends with a notice under the present number, placed when its receiver is there and there is
room (R179, R184). -/
theorem State.endStep_notice {s : State} (h : s.conditions.causes ≠ []) :
    s.endStep =
      { s with
        conditions := { s.conditions with noticeNumber := (s.conditions.noticeNumber + 1) % 65536, causes := [] }
        txQueue :=
          if s.present s.conditions.noticeInitiator = true ∧ s.txQueue.length < 2048 then
            s.txQueue ++ [s.conditions.noticeFrame]
          else s.txQueue } := by
  have hplaced : (s.present s.conditions.noticeInitiator && s.txRoom) = true ↔
      s.present s.conditions.noticeInitiator = true ∧ s.txQueue.length < 2048 := by
    rw [Bool.and_eq_true, State.txRoom, decide_eq_true_eq]
    rfl
  simp only [State.endStep_noticed, State.notices, Conditions.noticed, if_neg h, hplaced]
  split
  · rfl
  · rw [List.append_nil]

/-- Settles O35: CLEAR CONDITIONS row by row, the notice at the end of a step, and the flag, the group and the cause of a
condition that is raised. -/
theorem clearConditionsClears : Obligations.ClearConditionsClears := by
  refine ⟨?_, ?_, fun s op cond g => ?_⟩
  · intro s f rest h named
    have hs : s.settled := h.1.2.1
    have hrows := actClearConditions_rows f (s.taken rest)
    refine ⟨fun hform => ?_, fun hnonzero hbound hclear => ?_, fun hbound hset => ?_⟩
    · exact congrArg Host.Outcome.next (controlEvent_refused h (hrows.trans (if_pos hform)))
    · have hformed : ¬ (f.param 0 = 0 ∨ 31 < f.param 0) := by omega
      have hact := (hrows.trans (if_neg hformed)).trans (if_pos fun g hg => hclear g (mem_wordGroups.mp hg))
      exact congrArg Host.Outcome.next (controlEvent_only_answered h hact)
    · obtain ⟨g, hg, hgset⟩ := hset
      have hformed : ¬ (f.param 0 = 0 ∨ 31 < f.param 0) := by
        rintro (hzero | habove)
        · have hbit : (f.param 0).testBit g.number = true := hg
          rw [hzero, Nat.zero_testBit] at hbit
          cases hbit
        · omega
      have hsome : ¬ ∀ g ∈ wordGroups (f.param 0), s.conditions.accrued.groupSet g = false := fun hclear => by
        rw [hclear g (mem_wordGroups.mpr hg)] at hgset
        cases hgset
      have hact := (hrows.trans (if_neg hformed)).trans (if_neg hsome)
      refine ⟨_, congrArg Host.Outcome.next (controlEvent_settings h hact hs), fun c => ?_, rfl⟩
      have hflag := CondSet.clearGroups_getLsbD s.conditions.accrued (wordGroups (f.param 0)) c
      simp only [mem_wordGroups, Bool.decide_eq_true] at hflag
      exact hflag
  · intro s hcauses x causeWords lastWords words notice
    have hcause : x.causes.flatMap causeWords = x.causes.flatMap Cause.words :=
      congrArg (fun w => x.causes.flatMap w) (funext fun c => by cases c <;> rfl)
    have hlast : lastWords = lastOutcomeWords x.last := by
      unfold lastWords
      cases x.last <;> rfl
    have hwords : words = [x.noticeNumber, x.causes.length] ++ x.causes.flatMap Cause.words ++
        [x.accrued.groups.toNat] ++ lastOutcomeWords x.last := by
      unfold words
      rw [hcause, hlast]
    rw [show notice = x.noticeFrame from (x.noticeFrame_of_words hwords).symm]
    exact State.endStep_notice hcauses
  · refine ⟨State.raise_accrued s op cond, ?_, ?_⟩
    · rw [State.raise_accrued]
      exact CondSet.groupSet_or_bit _ cond g
    · rw [State.raise_eq]
      split <;> simp

end Sys2Proof.Machine

end

section
/-! PROOF. SET NOTICE and SET TIMEOUTS. -/

namespace Sys2Proof.Machine

/-! ### SET NOTICE (R177) -/

/-- A word of five bits names the enables exactly when it is their number (R187). -/
theorem enables_eq_ofNat {x : GroupSet} {w : Nat} (hw : w ≤ 31) : x = BitVec.ofNat 5 w ↔ w = x.toNat := by
  rw [← BitVec.toNat_inj, BitVec.toNat_ofNat, Nat.mod_eq_of_lt (by omega), eq_comm]

/-- A SET NOTICE as a chain of its rows. -/
theorem actSetNotice_rows (f : Frame) (s : State) :
    actSetNotice f s =
      if 31 < f.param 0 then refuseControl f .outOfRange none s
      else if 31 < f.param 1 then refuseControl f .format none s
      else if f.param 0 = s.conditions.noticeInitiator ∧ f.param 1 = s.conditions.enables.toNat then
        answerControl f .unchanged [] s
      else
        answerControl f .done []
          { s with
            conditions :=
              { s.conditions with noticeInitiator := f.param 0, enables := BitVec.ofNat 5 (f.param 1) } } := by
  unfold actSetNotice
  split
  · rfl
  · split
    · next hbad => rw [if_pos (show 31 < f.param 1 from hbad)]
    · next hbad =>
      have hw : f.param 1 ≤ 31 := by omega
      rw [if_neg (show ¬ 31 < f.param 1 by omega)]
      simp only [Bool.and_eq_true, decide_eq_true_eq, enables_eq_ofNat hw, eq_comm (a := s.conditions.noticeInitiator)]

/-! ### SET TIMEOUTS (R195) -/

theorem badTimeout_eq_false (low high : Nat) (v : Option Nat) :
    badTimeout low high v = false ↔ ∀ x, v = some x → low ≤ x ∧ x ≤ high := by
  cases v <;> simp [badTimeout]

theorem getD_eq_iff {v : Option Nat} {present : Nat} : v.getD present = present ↔ ∀ x, v = some x → x = present := by
  cases v <;> simp

/-- A SET TIMEOUTS as a chain of its rows. -/
theorem actSetTimeouts_rows (f : Frame) (s : State) :
    let idle := wordOption (f.param 0)
    let media := wordOption (f.param 1)
    actSetTimeouts f s =
      if ¬ ((∀ x, idle = some x → 5 ≤ x ∧ x ≤ 300) ∧ ∀ x, media = some x → 1 ≤ x ∧ x ≤ 60) then
        refuseControl f .outOfRange none s
      else if (∀ x, idle = some x → x = s.idleTime) ∧ ∀ x, media = some x → x = s.mediaTimeout then
        answerControl f .unchanged [s.idleTime, s.mediaTimeout] s
      else
        answerControl f .done [idle.getD s.idleTime, media.getD s.mediaTimeout]
          { s with idleTime := idle.getD s.idleTime, mediaTimeout := media.getD s.mediaTimeout } := by
  intro idle media
  have hbad : (badTimeout 5 300 idle || badTimeout 1 60 media) = true ↔
      ¬ ((∀ x, idle = some x → 5 ≤ x ∧ x ≤ 300) ∧ ∀ x, media = some x → 1 ≤ x ∧ x ≤ 60) := by
    rw [← badTimeout_eq_false, ← badTimeout_eq_false, ← Bool.or_eq_false_iff, Bool.not_eq_false]
  unfold actSetTimeouts
  simp only [← getD_eq_iff, Bool.and_eq_true, decide_eq_true_eq]
  simp only [← hbad]
  rfl

/-- Settles O36: each row of the two requests in turn. -/
theorem settingsSet : Obligations.SettingsSet := by
  refine ⟨fun s f rest h => ?_, ?_⟩
  · have hs : s.settled := h.1.2.1
    have hrows := actSetNotice_rows f (s.taken rest)
    have hlow : ∀ {w : Nat}, w ≤ 31 → ¬ 31 < w := Nat.not_lt.mpr
    refine ⟨fun hbad => ?_, fun h0 hbad => ?_, fun hi he h0 => ?_, fun h0 h1 hnew => ?_⟩
    · exact congrArg Host.Outcome.next (controlEvent_refused h (hrows.trans (if_pos hbad)))
    · rw [if_neg (hlow h0)] at hrows
      exact congrArg Host.Outcome.next (controlEvent_refused h (hrows.trans (if_pos hbad)))
    · have h1 : f.param 1 ≤ 31 := by
        have := s.conditions.enables.isLt
        omega
      rw [if_neg (hlow h0), if_neg (hlow h1)] at hrows
      exact congrArg Host.Outcome.next (controlEvent_only_answered h (hrows.trans (if_pos ⟨hi, he⟩)))
    · rw [if_neg (hlow h0), if_neg (hlow h1)] at hrows
      have hact := hrows.trans (if_neg hnew)
      exact congrArg Host.Outcome.next (controlEvent_settings h hact hs)
  · intro s f rest h idle media inRange same
    have hs : s.settled := h.1.2.1
    have hrows := actSetTimeouts_rows f (s.taken rest)
    refine ⟨fun hbad => ?_, fun hrange hsame => ?_, fun hrange hnew => ?_⟩
    · exact congrArg Host.Outcome.next (controlEvent_refused h (hrows.trans (if_pos hbad)))
    · have hact := (hrows.trans (if_neg (not_not.mpr hrange))).trans (if_pos hsame)
      exact congrArg Host.Outcome.next (controlEvent_only_answered h hact)
    · have hact := (hrows.trans (if_neg (not_not.mpr hrange))).trans (if_neg hnew)
      exact congrArg Host.Outcome.next (controlEvent_settings h hact hs)

end Sys2Proof.Machine

end

section
/-! SUPPORT. Tidy steps: the bounds of the two frame queues, the limits of the slots and the queue of commands, over an
ordinary step and over the changes that leave queues and slots alone. -/

namespace Sys2Proof.Machine

/-! ### The slots Busy with a class (R145) -/

theorem State.busyCount_eq (s : State) (c : MediaClass) :
    s.busyCount c = s.slots.toList.countP (Slot.busyWith c) := List.countP_eq_length_filter.symm

/-- A slot number outside the table changes nothing (R138). -/
theorem State.setSlot_beyond (s : State) {k : Nat} (hk : 16 ≤ k) (x : Slot) : s.setSlot k x = s := by
  have hslots : Table.set s.slots k x = s.slots := Vector.setIfInBounds_eq_of_size_le hk
  rw [State.setSlot, hslots]

/-- One slot changed moves the number of slots Busy with a class by that slot's part. -/
theorem State.busyCount_setSlot (s : State) {k : Nat} (hk : k < 16) (x : Slot) (c : MediaClass) :
    (s.setSlot k x).busyCount c + ((s.slot k).busyWith c).toNat = s.busyCount c + (x.busyWith c).toNat := by
  have hlt : k < s.slots.toList.length := by simpa using hk
  have hset : (s.setSlot k x).slots.toList = s.slots.toList.set k x := Array.toList_setIfInBounds
  have hget : s.slot k = s.slots.toList[k] := by simp [State.slot, Table.get, hk]
  have hpos : s.slots.toList[k].busyWith c = true → 0 < s.slots.toList.countP (Slot.busyWith c) := fun hbusy =>
    List.countP_pos_iff.mpr ⟨_, List.getElem_mem hlt, hbusy⟩
  rw [State.busyCount_eq, State.busyCount_eq, hset, hget, List.countP_set hlt]
  cases hb : s.slots.toList[k].busyWith c with
  | false => cases x.busyWith c <;> simp
  | true =>
    have := hpos hb
    cases x.busyWith c <;> simp only [if_true, Bool.false_eq_true, if_false, Bool.toNat_true, Bool.toNat_false] <;> omega

/-- A slot that is freed, timed out or left by its owner makes no class busier. -/
theorem State.busyCount_setSlot_le (s : State) (k : Nat) {x : Slot}
    (hx : x = .free ∨ x = .busyLate ∨ x = (s.slot k).orphan) (c : MediaClass) :
    (s.setSlot k x).busyCount c ≤ s.busyCount c := by
  have hpart : (x.busyWith c).toNat ≤ ((s.slot k).busyWith c).toNat := by
    rcases hx with rfl | rfl | rfl
    · exact Nat.zero_le _
    · exact Nat.zero_le _
    · cases s.slot k <;> exact Nat.le_refl _
  rcases Nat.lt_or_ge k 16 with hk | hk
  · have := s.busyCount_setSlot hk x c
    omega
  · rw [s.setSlot_beyond hk]

theorem State.busyCount_congr {s t : State} (h : t.slots = s.slots) (c : MediaClass) : t.busyCount c = s.busyCount c := by
  rw [State.busyCount, h, State.busyCount]

/-- A second of the timebase changes no slot's class (R138). -/
theorem State.busyCount_tickTimers (s : State) (c : MediaClass) : s.tickTimers.busyCount c = s.busyCount c := by
  have hsame : Slot.busyWith c ∘ Slot.tick = Slot.busyWith c := funext fun x => by cases x <;> rfl
  have hslots : s.tickTimers.slots.toList = s.slots.toList.map Slot.tick := Vector.toList_map
  rw [State.busyCount_eq, State.busyCount_eq, hslots, List.countP_map, hsame]

/-- Slots that are all Free are within the limits. -/
theorem State.limited_of_free {s : State} (h : s.slots = Vector.replicate 16 .free) : s.limited := by
  rw [State.limited, State.busyCount, State.busyCount, h]
  decide

theorem State.limited_of_le {s t : State} (h : ∀ c, t.busyCount c ≤ s.busyCount c) (hs : s.limited) : t.limited :=
  ⟨Nat.le_trans (h _) hs.1, Nat.le_trans (h _) hs.2⟩

/-! ### Tidy steps -/

/-- From s to t the queue bounds and the slot limits are kept, and the queue of commands stands. -/
structure State.Tidy (s t : State) : Prop where
  bounded : s.bounded → t.bounded
  limited : s.limited → t.limited
  pending : t.pending = s.pending

namespace State.Tidy

variable {s t u : State}

theorem refl (s : State) : s.Tidy s := ⟨id, id, rfl⟩

theorem trans (h : s.Tidy t) (k : t.Tidy u) : s.Tidy u :=
  ⟨k.bounded ∘ h.bounded, k.limited ∘ h.limited, k.pending.trans h.pending⟩

/-- A change of anything else than the frame queues, the slots and the queue of commands. -/
theorem of_same (hrx : t.rxQueue = s.rxQueue) (htx : t.txQueue = s.txQueue) (hslots : t.slots = s.slots)
    (hp : t.pending = s.pending) : s.Tidy t :=
  ⟨fun h => ⟨by rw [hrx]; exact h.1, by rw [htx]; exact h.2⟩,
    State.limited_of_le fun c => Nat.le_of_eq (State.busyCount_congr hslots c), hp⟩

/-- The queues of frames emptied and the slots freed. -/
theorem of_cleared (hrx : t.rxQueue = []) (htx : t.txQueue = []) (hslots : t.slots = Vector.replicate 16 .free)
    (hp : t.pending = s.pending) : s.Tidy t :=
  ⟨fun _ => ⟨by rw [hrx]; exact Nat.zero_le _, by rw [htx]; exact Nat.zero_le _⟩, fun _ => State.limited_of_free hslots,
    hp⟩

/-- An ordinary step is tidy. -/
theorem of_evolves (h : s.Evolves t) : s.Tidy t := by
  induction h with
  | refl => exact .refl s
  | volatile _ hu ih => exact ih.trans (by rw [hu]; exact .of_same rfl rfl rfl rfl)
  | enqueue _ f hl ih =>
    refine ih.trans ⟨fun hb => ⟨hb.1, ?_⟩, id, rfl⟩
    rw [State.enqueue_txQueue, List.length_append]
    exact hl
  | queues _ _ _ hrx htx ih =>
    exact ih.trans ⟨fun hb => ⟨Nat.le_trans hrx hb.1, Nat.le_trans htx hb.2⟩, id, rfl⟩
  | slot _ k _ hx ih => exact ih.trans ⟨id, State.limited_of_le (State.busyCount_setSlot_le _ k hx), rfl⟩
  | mark _ ih => exact ih.trans (.of_same rfl rfl rfl rfl)
  | put _ _ _ _ _ ih => exact ih.trans (.of_same rfl rfl rfl rfl)

theorem evolves (h : s.Tidy t) (k : t.Evolves u) : s.Tidy u := h.trans (.of_evolves k)

theorem endStep (h : s.Tidy t) : s.Tidy t.endStep := h.evolves State.Evolves.refl.endStep

theorem onEvent {f : State → State} (hf : s.Tidy (f s)) : s.Tidy (onEvent s f) := by
  rcases onEvent_cases s f with h | h <;> rw [h]
  · exact refl s
  · exact hf.endStep

theorem answerControl (h : s.Tidy t) (f : Frame) (status : Status) (words : List Nat) :
    s.Tidy (answerControl f status words t) := h.evolves (State.Evolves.refl.answerControl f status words)

theorem refuseControl (s : State) (f : Frame) (code : Code) (n : Option Nat) : s.Tidy (refuseControl f code n s) :=
  .of_evolves (State.Evolves.refl.refuseControl f code n)

theorem taken {x : RxFrame} {rest : List RxFrame} (h : s.rxQueue = x :: rest) : s.Tidy (s.taken rest) :=
  ⟨fun hb => ⟨Nat.le_trans (by rw [h]; exact Nat.le_succ _) hb.1, hb.2⟩, id, rfl⟩

theorem frameEvent {act : Frame → State → State} (ha : ∀ f (u : State), u.Tidy (act f u)) (kind : Nat) :
    s.Tidy (frameEvent kind act s) := by
  rcases frameEvent_cases kind act s with h | h | ⟨f, rest, hq, h⟩ <;> rw [h]
  · exact refl s
  · exact (refl s).endStep
  · exact ((taken hq).trans (ha _ _)).endStep

theorem controlEvent {act : Frame → State → State} (ha : ∀ f (u : State), u.Tidy (act f u)) (request : Nat) :
    s.Tidy (controlEvent request act s) := by
  rcases controlEvent_cases request act s with h | h | ⟨f, rest, hq, ⟨d, h⟩ | h⟩ <;> rw [h]
  · exact refl s
  · exact (refl s).endStep
  · exact ((taken hq).evolves (State.Evolves.refl.refuse _ _ _)).endStep
  · exact ((taken hq).trans (ha _ _)).endStep

end State.Tidy

end Sys2Proof.Machine

end

section
/-! PROOF. The bounds of the queues and the slots, the notice causes and the queue of commands, over every command. -/

namespace Sys2Proof.Machine

/-! ### The events that are not ordinary -/

theorem startUp_tidy (clamped discarded : Bool) (s : State) : s.Tidy (startUp clamped discarded s) := by
  have hcleared : s.Tidy s.dropVolatile.rebuildErases := .of_cleared rfl rfl rfl rfl
  exact (hcleared.evolves (raiseStartUp_evolves _ _)).endStep

theorem takeRestart_tidy (f : Frame) (s : State) : s.Tidy (takeRestart f s) := by
  unfold takeRestart
  split
  · exact .of_evolves (State.Evolves.refl.refuse _ _ _)
  · exact startUp_tidy _ _ s

theorem restartEvent_tidy (s : State) : s.Tidy (requestEvent 22 takeRestart s) := by
  refine State.Tidy.onEvent ?_
  rcases takeFrame_cases (isRequest 22) (onFrame takeRestart) s with h | ⟨x, rest, hq, -, h⟩ <;> rw [h]
  · exact .refl s
  · cases x with
    | whole f => exact (State.Tidy.taken hq).trans (takeRestart_tidy f _)
    | cutShort => exact State.Tidy.taken hq

theorem advanceClock_tidy (s : State) : s.Tidy (advanceClock s) := by
  unfold advanceClock
  dsimp only
  split_ifs
  · exact .of_evolves (State.Evolves.refl.raiseAlone _ _)
  · exact .of_same rfl rfl rfl rfl
  · exact .of_same rfl rfl rfl rfl
  · exact .refl s

theorem tickTimers_tidy (s : State) : s.Tidy s.tickTimers :=
  ⟨id, State.limited_of_le fun c => Nat.le_of_eq (s.busyCount_tickTimers c), rfl⟩

theorem countQuietly_tidy (s : State) : s.Tidy (countQuietly s) := by
  unfold countQuietly
  split
  · exact .of_same rfl rfl rfl rfl
  · exact .refl s

/-- A frame joins the receive queue only where fewer than 64 wait (R183). -/
theorem frameArrives_tidy (bytes : List Byte) (s : State) : s.Tidy (frameArrives bytes s) := by
  cases hr : s.receives with
  | false => rw [frameArrives_missed hr]; exact .refl s
  | true =>
    have hroom : s.rxQueue.length < 64 := (s.receives_iff.mp hr).2
    cases hpass : checkPasses bytes with
    | true =>
      rw [frameArrives_joins hr hpass]
      refine ⟨fun hb => ⟨?_, hb.2⟩, id, rfl⟩
      rw [List.length_append]
      exact hroom
    | false =>
      rw [frameArrives_discarded hr hpass]
      exact .of_evolves ((State.Evolves.refl.volatile rfl : s.Evolves { s with
        ingestCheck := checkAfter bytes }).raiseAlone _ _)

theorem mediaLost_tidy (s : State) : s.Tidy (mediaLost s) := by
  unfold mediaLost
  split
  · dsimp only
    set l : State :=
      { s with mediaLink := .lost, mediaCheck := FrameCheck.cleared, slots := Vector.replicate 16 .free }
    have hl : s.Tidy l := ⟨id, fun _ => State.limited_of_free rfl, rfl⟩
    have hw := (State.Evolves.refl (s := l)).eachContext (fun c u hu => hu.resetWrite c) (List.range 32)
    have hr := hw.eachContext (fun c u hu => hu.resetRead c) (List.range 32)
    generalize eachContext resetRead (List.range 32) (eachContext resetWrite (List.range 32) l) = u at hr ⊢
    have he := (hr.resetErases u.eraseQueue).resetScan
    generalize resetScan (resetErases u.eraseQueue u) = x at he ⊢
    exact hl.evolves (he.volatile rfl)
  · exact .refl s

/-! ### One grant of the Arbiter (R145, R146) -/

/-- The class of a grant is below its limit. -/
theorem State.nextClass_below {s : State} {cls : MediaClass} (h : s.nextClass = some cls) : s.belowLimit cls = true := by
  have heligible := List.find?_some h
  rw [State.eligible, Bool.and_eq_true] at heligible
  exact heligible.2

/-- A Free slot that becomes Busy with a class below its limit keeps the limits. -/
theorem State.limited_granted {s t : State} {k : Nat} {cls : MediaClass} {x : Slot} (hfree : s.freeSlot = some k)
    (hbelow : s.belowLimit cls = true) (hx : ∀ c, x.busyWith c = decide (cls = c))
    (ht : t.slots = (s.setSlot k x).slots) (hs : s.limited) : t.limited := by
  simp only [State.freeSlot, List.find?_range_eq_some, List.mem_range, decide_eq_true_eq] at hfree
  obtain ⟨hslot, hk, -⟩ := hfree
  have hcount : ∀ c, t.busyCount c = s.busyCount c + (decide (cls = c)).toNat := fun c => by
    have hmove := s.busyCount_setSlot hk x c
    rw [hslot, hx] at hmove
    rw [State.busyCount_congr ht]
    exact hmove
  obtain ⟨herase, hverify⟩ := hs
  rw [State.limited, hcount, hcount]
  cases cls with
  | write => exact ⟨herase, hverify⟩
  | read => exact ⟨herase, hverify⟩
  | erase => exact ⟨of_decide_eq_true hbelow, hverify⟩
  | verify => exact ⟨herase, of_decide_eq_true hbelow⟩

theorem grant_tidy (s : State) : s.Tidy (grant s) := by
  unfold grant
  split
  · split
    · next k cls hfree hnext =>
      split
      · next r rest _ =>
        rw [grantTo, recordTag_fields]
        exact ⟨id, State.limited_granted hfree (State.nextClass_below hnext)
          (x := .busy r.command cls (some r.owner) s.mediaTimeout) (fun _ => rfl) rfl, rfl⟩
      · exact .refl s
    · exact .refl s
    · exact .refl s
    · exact .refl s
  · exact .refl s

/-! ### Transfers, erases, background visits -/

theorem takeBegin_tidy (f : Frame) (s : State) : s.Tidy (takeBegin f s) := by
  rcases takeBegin_cases f s with h | ⟨c, -, -, h⟩
  · exact .of_evolves h
  · rw [h]
    unfold admittedBegin reserveNext
    dsimp only
    rw [openNamed_eq]
    refine State.Tidy.evolves ?_ ((State.Evolves.refl.putWrite c _).send _)
    split
    · exact .of_same rfl rfl rfl rfl
    · exact .of_same rfl rfl rfl rfl

theorem takeErase_tidy (f : Frame) (s : State) : s.Tidy (takeErase f s) := by
  rcases takeErase_cases f s with h | ⟨-, h⟩
  · exact .of_evolves h
  · rw [h]
    refine State.Tidy.trans ?_ (.of_evolves (startErase_evolves _ _ _ s))
    exact .of_same rfl rfl rfl rfl

theorem sweepVisit_tidy (s : State) : s.Tidy (sweepVisit s) := by
  unfold sweepVisit
  split
  · exact .refl s
  · split
    · exact .of_same rfl rfl rfl rfl
    · exact .refl s
  · dsimp only
    split_ifs
    · exact .refl s
    · unfold expireDue
      split
      · exact .of_same rfl rfl rfl rfl
      · exact .of_same rfl rfl rfl rfl
    · exact .of_same rfl rfl rfl rfl

theorem walkVisit_tidy (s : State) : s.Tidy (walkVisit s) := by
  rcases walkVisit_cases s with h | ⟨k, q, h, f, n, x, q', -, -, -, hw⟩
  · rw [h]; exact .refl s
  · rw [hw, State.walked, visitSegment_eq]
    split
    · exact .of_same rfl rfl rfl rfl
    · exact .of_same rfl rfl rfl rfl

/-! ### Control requests that write a table or the Clock -/

theorem actLoadInitiator_tidy (f : Frame) (s : State) : s.Tidy (actLoadInitiator f s) := by
  have hw : s.Tidy { s with initiators := Table.set s.initiators (f.param 0) (givenEntry f) } :=
    .of_same rfl rfl rfl rfl
  unfold actLoadInitiator
  split
  · exact .refuseControl _ _ _ _
  · split
    · exact (State.Tidy.refl s).answerControl _ _ _
    · refine State.Tidy.answerControl ?_ f _ _
      unfold writeEntry
      dsimp only
      split
      · exact hw.evolves (State.Evolves.refl.removeInitiator _)
      · exact hw

theorem actLoadClass_tidy (f : Frame) (s : State) : s.Tidy (actLoadClass f s) := by
  unfold actLoadClass
  split
  · exact .refuseControl _ _ _ _
  · split
    · exact (State.Tidy.refl s).answerControl _ _ _
    · refine State.Tidy.answerControl ?_ f _ _
      exact .of_same rfl rfl rfl rfl

theorem actSetVolume_tidy (f : Frame) (s : State) : s.Tidy (actSetVolume f s) := by
  rcases actSetVolume_cases f s with h | ⟨y, -, -, -, h⟩
  · exact .of_evolves h
  · have hw : s.Tidy { s.setVolume (f.param 0) y with sweeper := s.sweeper.trimmed (f.param 0) y.count } :=
      .of_same rfl rfl rfl rfl
    rw [h, writeVolume, endCollection]
    split
    · split
      · exact (hw.answerControl f .done []).evolves (State.Evolves.refl.stopCollection _ _)
      · exact hw.answerControl f .done []
    · exact hw.answerControl f .done []

theorem actSetZone_tidy (f : Frame) (s : State) : s.Tidy (actSetZone f s) := by
  unfold actSetZone
  split
  · exact .refuseControl _ _ _ _
  · refine State.Tidy.answerControl ?_ f _ _
    exact .of_same rfl rfl rfl rfl

theorem actPlaceHold_tidy (f : Frame) (s : State) : s.Tidy (actPlaceHold f s) := by
  unfold actPlaceHold
  split
  · exact .refuseControl _ _ _ _
  · refine State.Tidy.answerControl ?_ f _ _
    exact .of_same rfl rfl rfl rfl
  · exact .refl s

theorem actReleaseHold_tidy (f : Frame) (s : State) : s.Tidy (actReleaseHold f s) := by
  have hwritten : ∀ (k : Nat) (x : Option Hold) (q : List Nat) (words : List Nat),
      s.Tidy (answerControl f .done words { s.setHold k x with walkQueue := q }) := by
    intros
    refine State.Tidy.answerControl ?_ f _ _
    exact .of_same rfl rfl rfl rfl
  unfold actReleaseHold releaseHold
  split
  · exact .refuseControl _ _ _ _
  · split
    · exact .refuseControl _ _ _ _
    · split
      · exact (State.Tidy.refl s).answerControl _ _ _
      · split
        · exact hwritten _ _ _ _
        · exact hwritten _ _ s.walkQueue _
      · exact hwritten _ _ _ _

theorem actSetClock_tidy (f : Frame) (s : State) : s.Tidy (actSetClock f s) := by
  have hanswered : ∀ (x : Clock) (status : Status) (words : List Nat),
      s.Tidy (answerControl f status words { s with clock := x }.rollover) := by
    intros
    refine State.Tidy.answerControl ?_ f _ _
    exact .of_same rfl rfl rfl rfl
  unfold actSetClock raiseClamped
  dsimp only
  split_ifs
  · exact .refuseControl _ _ _ _
  · exact .refuseControl _ _ _ _
  · exact hanswered _ _ _
  · exact (hanswered _ _ _).evolves (State.Evolves.refl.raiseAlone _ _)

theorem actAdjustClock_tidy (f : Frame) (s : State) : s.Tidy (actAdjustClock f s) := by
  unfold actAdjustClock raiseClamped
  dsimp only
  have hmoved : ∀ (x : Clock) (p : Prop) [Decidable p],
      s.Tidy (if p then { s with clock := x }.rollover else { s with clock := x }) := fun x p _ => by
    split
    · exact .of_same rfl rfl rfl rfl
    · exact .of_same rfl rfl rfl rfl
  split
  · exact .refuseControl _ _ _ _
  · split
    · exact ((hmoved _ _).answerControl _ _ _).evolves (State.Evolves.refl.raiseAlone _ _)
    · exact (hmoved _ _).answerControl _ _ _

/-! ### Every command -/

/-- Every command is tidy. -/
theorem exec_tidy {c : Instr} {s t : State} (h : exec c s = .next t) : s.Tidy t := by
  by_cases ho : Instr.ordinary c = true
  · exact .of_evolves (exec_evolves ho h)
  cases c
  all_goals injection h with h; subst h
  case powerOn =>
    have hp : s.Tidy { s with mainPower := true, backupSupply := true, clock := s.clock.powered } :=
      .of_same rfl rfl rfl rfl
    exact hp.trans (startUp_tidy _ _ _)
  case resetLine =>
    have hr : s.Tidy { s with resetHeld := false } := .of_same rfl rfl rfl rfl
    split
    · exact hr.trans (startUp_tidy _ _ _)
    · exact hr
  case backupSupplyLoss =>
    split
    · exact .of_same rfl rfl rfl rfl
    · exact .of_same rfl rfl rfl rfl
  case clockTick =>
    split
    · exact ((tickTimers_tidy s).trans (advanceClock_tidy _)).onEvent
    · exact countQuietly_tidy s
  case ingestFrameArrival bytes => exact (frameArrives_tidy bytes s).onEvent
  case mediaLinkReset => exact (mediaLost_tidy s).onEvent
  case beginFrame => exact State.Tidy.frameEvent takeBegin_tidy 1
  case eraseFrame => exact State.Tidy.frameEvent takeErase_tidy 5
  case loadInitiator => exact State.Tidy.controlEvent actLoadInitiator_tidy 2
  case loadClass => exact State.Tidy.controlEvent actLoadClass_tidy 3
  case setVolume => exact State.Tidy.controlEvent actSetVolume_tidy 4
  case setZone => exact State.Tidy.controlEvent actSetZone_tidy 5
  case placeHold => exact State.Tidy.controlEvent actPlaceHold_tidy 6
  case releaseHold => exact State.Tidy.controlEvent actReleaseHold_tidy 7
  case setClock => exact State.Tidy.controlEvent actSetClock_tidy 11
  case adjustClock => exact State.Tidy.controlEvent actAdjustClock_tidy 12
  case restart => exact restartEvent_tidy s
  case mediaGrant => exact (grant_tidy s).onEvent
  case sweeperVisit => exact (sweepVisit_tidy s).onEvent
  case walkerVisit => exact (walkVisit_tidy s).onEvent
  case mainPowerLoss =>
    split
    · exact .of_cleared rfl rfl rfl rfl
    · exact .refl s
  case resetLineHeld => exact .of_same rfl rfl rfl rfl
  all_goals simp [Instr.ordinary] at ho

/-- The commands that are no event of the engine: the lines, the supplies and the timebase (R34, R182). -/
def Instr.line (c : Instr) : Prop :=
  c = .powerOn ∨ c = .resetLine ∨ c = .resetLineHeld ∨ c = .mainPowerLoss ∨ c = .backupSupplyLoss ∨ c = .clockTick

/-- Every other command is an event of the engine. -/
theorem exec_onEvent {c : Instr} (hc : ¬ Instr.line c) (s : State) : ∃ f, exec c s = .next (onEvent s f) := by
  cases c
  case powerOn | resetLine | resetLineHeld | mainPowerLoss | backupSupplyLoss | clockTick =>
    exact absurd (by simp [Instr.line]) hc
  all_goals exact ⟨_, rfl⟩

/-- Every command leaves no notice cause (R178). -/
theorem exec_settled {c : Instr} {s t : State} (hs : s.settled) (h : exec c s = .next t) : t.settled := by
  by_cases hc : Instr.line c
  · rcases hc with rfl | rfl | rfl | rfl | rfl | rfl
    all_goals injection h with h; subst h
    · exact State.endStep_causes _
    · split
      · exact State.endStep_causes _
      · exact hs
    · exact hs
    · split
      · rfl
      · exact hs
    · split
      · exact hs
      · exact hs
    · split
      · exact onEvent_causes s _ hs
      · unfold countQuietly
        split
        · exact hs
        · exact hs
  · obtain ⟨f, hf⟩ := exec_onEvent hc s
    obtain rfl := Host.Outcome.next.inj (hf.symm.trans h)
    exact onEvent_causes s f hs

/-- Settles O54: every command is tidy, and an event of the engine ends with its notice. -/
theorem boundsKept : Obligations.BoundsKept :=
  ⟨fun _ _ _ hs h => (exec_tidy h).bounded hs, fun _ _ _ hs h => exec_settled hs h,
    fun _ _ _ hs h => (exec_tidy h).limited hs, fun _ _ _ h => (exec_tidy h).pending⟩

/-! ### An engine that takes no event -/

theorem countQuietly_counts {s : State} (hr : s.clock.state = .running) (hv : s.clock.value < Config.topStop) :
    countQuietly s = { s with clock := { s.clock with value := s.clock.value + 1 } } := by
  simp [countQuietly, s.running_iff, hr, hv]

theorem countQuietly_stands {s : State} (h : s.clock.state = .unset ∨ Config.topStop ≤ s.clock.value) :
    countQuietly s = s := by
  refine if_neg ?_
  rw [Bool.and_eq_true, s.running_iff, decide_eq_true_eq]
  rintro ⟨hr, hv⟩
  rcases h with hu | hv'
  · rw [hr] at hu
    cases hu
  · omega

/-- Settles O2: an event of the engine does nothing, and the timebase counts the Clock alone. -/
theorem engineOffTakesNoEvent : Obligations.EngineOffTakesNoEvent := by
  refine ⟨fun c s hoff h1 h2 h3 h4 h5 h6 => ?_, fun s hoff => ?_⟩
  · have hevent : ¬ Instr.line c := by simp [Instr.line, h1, h2, h3, h4, h5, h6]
    obtain ⟨f, hf⟩ := exec_onEvent hevent s
    rw [hf, onEvent_off s f hoff]
  · have htick : exec .clockTick s = .next (countQuietly s) := congrArg Host.Outcome.next (if_neg (by simp [hoff]))
    exact ⟨fun hr hv => by rw [htick, countQuietly_counts hr hv], fun h => by rw [htick, countQuietly_stands h]⟩

end Sys2Proof.Machine

end

section
/-! PROOF. LOAD SCAN. -/

namespace Sys2Proof.Machine

/-! ### The ranges of a LOAD SCAN (section 10.4) -/

/-- A run of bytes holds one word for each four bytes (R187). -/
theorem payloadWords_length : ∀ bytes : List Byte, (payloadWords bytes).length = bytes.length / 4
  | [] => rfl
  | [_] => by simp [payloadWords]
  | [_, _] => by simp [payloadWords]
  | [_, _, _] => by simp [payloadWords]
  | a :: b :: c :: d :: rest => by
    simp only [payloadWords, List.length_cons, payloadWords_length rest]
    omega

/-- Three words for each range, in order. -/
theorem scanRanges_eq (n : Nat) (ws : List Nat) (h : ws.length = 3 * n) :
    scanRanges ws =
      (List.range n).map
        (fun k => { volume := ws.getD (3 * k) 0, first := ws.getD (1 + 3 * k) 0, count := ws.getD (2 + 3 * k) 0 }) := by
  induction n generalizing ws with
  | zero => rw [List.eq_nil_of_length_eq_zero h]; rfl
  | succ n ih =>
    match ws, h with
    | v :: first :: count :: rest, h =>
      have hrest : rest.length = 3 * n := by
        simp only [List.length_cons] at h
        omega
      rw [scanRanges, ih rest hrest, List.range_succ_eq_map, List.map_cons, List.map_map]
      rfl

/-- The ranges that the parameters of a LOAD SCAN name (section 10.4). -/
def Frame.scanRanges (f : Frame) : List ScanRange :=
  (List.range (f.param 1)).map
    (fun k => { volume := f.param (2 + 3 * k), first := f.param (3 + 3 * k), count := f.param (4 + 3 * k) })

/-- A LOAD SCAN of good form has the words of the ranges it counts (R189). -/
theorem Frame.params_length_of_goodForm {f : Frame} (hg : f.goodForm = true) (hk : f.kind = 6) (hc : f.code = 14) :
    f.params.length = 2 + 3 * f.param 1 := by
  simp only [Frame.goodForm, hk, Frame.lengthAgrees, hc, if_true, Bool.and_eq_true, decide_eq_true_eq] at hg
  obtain ⟨⟨-, hpayload⟩, -, -, hlength⟩ := hg
  rw [Frame.params, payloadWords_length]
  omega

theorem Frame.scanRanges_eq {f : Frame} (h : f.params.length = 2 + 3 * f.param 1) :
    Machine.scanRanges (f.params.drop 2) = f.scanRanges := by
  rw [Machine.scanRanges_eq (f.param 1) _ (by rw [List.length_drop]; omega), Frame.scanRanges]
  refine List.map_congr_left fun k _ => ?_
  simp only [List.getD_eq_getElem?_getD, List.getElem?_drop, Frame.param, ← Nat.add_assoc]

/-! ### The judgement (R161) -/

/-- The number of ranges and the scan-through word are ones that LOAD SCAN takes (R161, R193). -/
def Frame.scanFormed (f : Frame) : Prop := f.param 0 ≤ 1 ∧ 1 ≤ f.param 1 ∧ f.param 1 ≤ 16

/-- Each range names a volume that is open to the sender (R161). -/
def State.scanVolumesOpen (s : State) (f : Frame) : Prop :=
  ∀ r ∈ f.scanRanges, 1 ≤ r.volume ∧ r.volume ≤ 4 ∧
    (s.initiator f.initiator).volumes.getLsbD (r.volume - 1) = true ∧ (s.volume r.volume).state ≠ .absent

/-- Each range has segments, all inside its volume (R161). -/
def State.scanInRange (s : State) (f : Frame) : Prop :=
  ∀ r ∈ f.scanRanges, r.count ≠ 0 ∧ r.first + r.count ≤ (s.volume r.volume).count

section Judged

variable {s : State} {f : Frame}

theorem scanFormed_iff : (badFlag (f.param 0) || f.param 1 = 0 || 16 < f.param 1) = true ↔ ¬ f.scanFormed := by
  simp only [badFlag, Frame.scanFormed, Bool.or_eq_true, decide_eq_true_eq]
  omega

theorem scanVolumesOpen_iff :
    f.scanRanges.any (fun r => !volumeOpen s f r.volume) = true ↔ ¬ s.scanVolumesOpen f := by
  simp only [State.scanVolumesOpen, ← check2_eq_none_iff, ← volumeOpen_iff, List.any_eq_true, Bool.not_eq_true',
    not_forall, exists_prop, Bool.not_eq_true]

theorem scanInRange_iff :
    f.scanRanges.any (fun r => decide (r.count = 0) || decide ((s.volume r.volume).count < r.first + r.count)) = true ↔
      ¬ s.scanInRange f := by
  simp only [State.scanInRange, List.any_eq_true, Bool.or_eq_true, decide_eq_true_eq, not_forall, exists_prop,
    not_and_or, not_not, Nat.not_le, ne_eq]

open Classical in
/-- The judgement of a LOAD SCAN as a chain of its rows (R161). -/
theorem judgeLoadScan_eq (hlen : f.params.length = 2 + 3 * f.param 1) :
    judgeLoadScan s f =
      if ¬ f.scanFormed then some .format
      else if ¬ s.scanVolumesOpen f then some .noVolume
      else if ¬ s.scanInRange f then some .outOfRange
      else if s.scanQueued ≠ none then some .busy
      else none := by
  simp only [judgeLoadScan, Frame.scanRanges_eq hlen, scanFormed_iff, scanVolumesOpen_iff, scanInRange_iff, refuseWhen,
    Option.isSome_iff_ne_none]

theorem actLoadScan_refused {code : Code} (h : judgeLoadScan s f = some code) :
    actLoadScan f s = refuseControl f code none s := by
  simp only [actLoadScan, h]

/-- Behind a scan the ranges wait in the Queued descriptor (R162). -/
theorem actLoadScan_behind {x : Scan} (h : judgeLoadScan s f = none) (ha : s.scanActive = some x) :
    actLoadScan f s = answerControl f .done [1] { s with scanQueued := some (loadedScan f) } := by
  simp [actLoadScan, promoteScan, h, ha]

/-- Into two Empty descriptors the scan enters the Active one and makes its first visit (R162). -/
theorem actLoadScan_active {r : ScanRange} (h : judgeLoadScan s f = none) (ha : s.scanActive = none)
    (hr : (loadedScan f).ranges[0]? = some r) :
    actLoadScan f s =
      answerControl f .done [0]
        (visitScan ((loadedScan f).promoted r)
          { s with scanQueued := none, scanActive := some ((loadedScan f).promoted r) }) := by
  have hact : actLoadScan f s = answerControl f .done [0] (promoteScan { s with scanQueued := some (loadedScan f) }) := by
    unfold actLoadScan
    rw [h, ha]
    rfl
  exact hact.trans (congrArg (answerControl f .done [0])
    (promoteScan_queued (s := { s with scanQueued := some (loadedScan f) }) ha rfl hr))

end Judged

/-- Settles O38: each row of the judgement in turn, and the two ways the scan is taken. -/
theorem loadScanLoads : Obligations.LoadScanLoads := by
  intro s f rest h
  obtain ⟨⟨-, hs, -, -, hgood⟩, hkind, hcode, -⟩ := id h
  have hlen := Frame.params_length_of_goodForm hgood hkind hcode
  have hloaded : loadedScan f = { loadedScan f with ranges := f.scanRanges } := by
    rw [← Frame.scanRanges_eq hlen]
    rfl
  have hrefused : ∀ code, judgeLoadScan s f = some code →
      exec .loadScan s = .next (s.answered rest (f.refusal code none)) := fun code hj =>
    congrArg Host.Outcome.next (controlEvent_refused h (actLoadScan_refused (s := s.taken rest) hj))
  have haccepted : f.scanFormed → s.scanVolumesOpen f → s.scanInRange f → s.scanQueued = none →
      judgeLoadScan s f = none := fun hf hv hr hq => by
    rw [judgeLoadScan_eq hlen, if_neg (not_not.mpr hf), if_neg (not_not.mpr hv), if_neg (not_not.mpr hr),
      if_neg (not_not.mpr hq)]
  refine ⟨fun (hf : ¬ f.scanFormed) => ?_, fun (hf : f.scanFormed) (hv : ¬ s.scanVolumesOpen f) => ?_,
    fun (hf : f.scanFormed) (hv : s.scanVolumesOpen f) (hr : ¬ s.scanInRange f) => ?_,
    fun (hf : f.scanFormed) (hv : s.scanVolumesOpen f) (hr : s.scanInRange f) hq => ?_,
    fun x hf hv hr hq ha => ?_, fun r hf hv hr hq ha hcan hfirst => ?_⟩
  · exact hrefused _ (by rw [judgeLoadScan_eq hlen, if_pos hf])
  · exact hrefused _ (by rw [judgeLoadScan_eq hlen, if_neg (not_not.mpr hf), if_pos hv])
  · exact hrefused _ (by rw [judgeLoadScan_eq hlen, if_neg (not_not.mpr hf), if_neg (not_not.mpr hv), if_pos hr])
  · exact hrefused _ (by
      rw [judgeLoadScan_eq hlen, if_neg (not_not.mpr hf), if_neg (not_not.mpr hv), if_neg (not_not.mpr hr), if_pos hq])
  · have hact := actLoadScan_behind (s := s.taken rest) (haccepted hf hv hr hq) ha
    rw [hloaded] at hact
    let u : State := { s.taken rest with scanQueued := some { loadedScan f with ranges := f.scanRanges } }
    exact congrArg Host.Outcome.next (controlEvent_placed_quiet (u := u) h rfl rfl rfl hs hact)
  · have hact := actLoadScan_active (s := s.taken rest) (haccepted hf hv hr hq) ha
      (show (loadedScan f).ranges[0]? = some r by rw [hloaded]; exact hfirst)
    rw [hloaded] at hact
    obtain ⟨t, more, hevent, hrest⟩ := controlEvent_promotes h hcan hfirst hact
    exact ⟨t, more, congrArg Host.Outcome.next hevent, hrest⟩

end Sys2Proof.Machine

end

section
/-! PROOF. SET VOLUME. -/

namespace Sys2Proof.Machine

/-! ### What stands at or beyond a count (R25) -/

theorem State.mem_holdList {s : State} {h : Hold} : h ∈ s.holdList ↔ ∃ k, s.hold k = some h := by
  simp only [State.holdList, List.mem_filterMap, id, exists_eq_right]
  constructor
  · intro hm
    obtain ⟨j, hj, hget⟩ := List.getElem_of_mem hm
    have hlt : j < 64 := by simpa using hj
    exact ⟨j + 1, by simpa [State.hold, Table.get1, Table.get, hlt] using hget⟩
  · rintro ⟨k, hk⟩
    obtain ⟨h1, h64⟩ := State.hold_range hk
    have hlt : k - 1 < 64 := by omega
    have hne : k ≠ 0 := by omega
    have hget : s.holds[k - 1] = some h := by
      rw [← hk]
      simp [State.hold, Table.get1, Table.get, hne, hlt]
    rw [← hget]
    simp

/-- Every segment of the volume from a number up is Blank, and no hold reaches there (R25). -/
def State.clearFrom (s : State) (v n : Nat) : Prop :=
  (∀ m, n ≤ m → m < (s.volume v).count → (s.segment v m).state = .blank) ∧
    ∀ k h, s.hold k = some h → h.volume = v → h.last < n

theorem heldFrom_iff (s : State) (v n : Nat) :
    heldFrom s v n = true ↔ ¬ ∀ k h, s.hold k = some h → h.volume = v → h.last < n := by
  simp only [heldFrom, List.any_eq_true, State.mem_holdList, Bool.and_eq_true, decide_eq_true_eq, not_forall,
    exists_prop, Nat.not_lt]
  exact ⟨fun ⟨h, ⟨k, hk⟩, hv, hl⟩ => ⟨k, h, hk, hv, hl⟩, fun ⟨k, h, hk, hv, hl⟩ => ⟨h, ⟨k, hk⟩, hv, hl⟩⟩

/-- A volume that lists no segment at or beyond its count is Blank there. -/
theorem Volume.get_of_count_le {x : Volume} (hb : ∀ e ∈ x.segments, e.1 < x.count) {n : Nat} (hn : x.count ≤ n) :
    Sparse.get Segment.fresh x.segments n = Segment.fresh := by
  by_contra hne
  exact absurd (hb _ (Sparse.mem_of_get_ne _ hne)) (Nat.not_lt.mpr hn)

section Judged

variable {s : State} {f : Frame} {v : Nat}

/-- The test of a SET VOLUME for what it would remove. -/
theorem occupied_iff (hw : s.canonical) (hb : ∀ e ∈ (s.volume v).segments, e.1 < (s.volume v).count) (n : Nat) :
    (!(s.volume v).blankFrom n || heldFrom s v n) = true ↔ ¬ s.clearFrom v n := by
  rw [Bool.or_eq_true, Bool.not_eq_true', ← Bool.not_eq_true, Volume.blankFrom_iff (hw v), heldFrom_iff,
    State.clearFrom, not_and_or]
  refine or_congr_left (not_congr ⟨fun h m hm _ => h m hm, fun h m hm => ?_⟩)
  rcases Nat.lt_or_ge m (s.volume v).count with hlt | hge
  · exact h m hm hlt
  · rw [Volume.get_of_count_le hb hge]
    rfl

/-- The named values and flag words are ones that SET VOLUME takes (R193). -/
def Frame.volumeNamed (f : Frame) : Prop := f.param 1 ≤ 2 ∧ f.param 3 ≤ 1 ∧ f.param 4 ≤ 1

/-- The volume, and the count of one not removed, are in range (R25). -/
def Frame.volumeInRange (f : Frame) : Prop :=
  1 ≤ f.param 0 ∧ f.param 0 ≤ 4 ∧ (f.param 1 ≠ 0 → 9 ≤ f.param 2 ∧ f.param 2 ≤ 65536)

theorem judgeSetVolume_unnamed (hn : ¬ f.volumeNamed) : judgeSetVolume s f = some .format := by
  refine if_pos ?_
  simp only [Frame.volumeNamed] at hn
  simp only [badFlag, Bool.or_eq_true, decide_eq_true_eq]
  omega

theorem judgeSetVolume_named (hn : f.volumeNamed) :
    judgeSetVolume s f =
      if f.param 0 < 1 || 4 < f.param 0 then some .outOfRange
      else if f.param 1 = 0 then
        refuseWhen (!decide ((s.volume (f.param 0)).state = .absent) &&
          (!(s.volume (f.param 0)).blankFrom 0 || heldFrom s (f.param 0) 0)) .stateDenied
      else if f.param 2 < 9 || 65536 < f.param 2 then some .outOfRange
      else
        refuseWhen (decide (f.param 2 < (s.volume (f.param 0)).count) &&
          (!(s.volume (f.param 0)).blankFrom (f.param 2) || heldFrom s (f.param 0) (f.param 2))) .stateDenied := by
  refine if_neg ?_
  obtain ⟨h1, h3, h4⟩ := hn
  simp [badFlag, h1, h3, h4]

theorem judgeSetVolume_outOfRange (hn : f.volumeNamed) (hr : ¬ f.volumeInRange) :
    judgeSetVolume s f = some .outOfRange := by
  rw [judgeSetVolume_named hn]
  by_cases hv : 1 ≤ f.param 0 ∧ f.param 0 ≤ 4
  · obtain ⟨h1, h4⟩ := hv
    simp only [Frame.volumeInRange, h1, h4, true_and, Classical.not_imp] at hr
    obtain ⟨hp, hc⟩ := hr
    rw [if_neg (by simp; omega), if_neg hp, if_pos (by simp; omega)]
  · exact if_pos ((volumeNumber_iff _).mpr hv)

/-- The row of a removal (R25). -/
theorem judgeSetVolume_removal (hn : f.volumeNamed) (hr : f.volumeInRange) (hp : f.param 1 = 0) :
    judgeSetVolume s f =
      refuseWhen (!decide ((s.volume (f.param 0)).state = .absent) &&
        (!(s.volume (f.param 0)).blankFrom 0 || heldFrom s (f.param 0) 0)) .stateDenied := by
  obtain ⟨h1, h4, -⟩ := hr
  rw [judgeSetVolume_named hn, if_neg (by simp; omega), if_pos hp]

theorem judgeSetVolume_absent (hn : f.volumeNamed) (hr : f.volumeInRange) (hp : f.param 1 = 0)
    (ha : (s.volume (f.param 0)).state = .absent) : judgeSetVolume s f = none := by
  rw [judgeSetVolume_removal hn hr hp, ha]
  rfl

open Classical in
theorem judgeSetVolume_present (hn : f.volumeNamed) (hr : f.volumeInRange) (hp : f.param 1 = 0)
    (ha : (s.volume (f.param 0)).state ≠ .absent) (hw : s.canonical)
    (hb : ∀ e ∈ (s.volume (f.param 0)).segments, e.1 < (s.volume (f.param 0)).count) :
    judgeSetVolume s f = if ¬ s.clearFrom (f.param 0) 0 then some .stateDenied else none := by
  simp only [judgeSetVolume_removal hn hr hp, ha, refuseWhen, decide_false, Bool.not_false, Bool.true_and,
    occupied_iff hw hb]

open Classical in
/-- The row of a count (R25). -/
theorem judgeSetVolume_count (hn : f.volumeNamed) (hr : f.volumeInRange) (hp : f.param 1 ≠ 0) (hw : s.canonical)
    (hb : ∀ e ∈ (s.volume (f.param 0)).segments, e.1 < (s.volume (f.param 0)).count) :
    judgeSetVolume s f =
      if f.param 2 < (s.volume (f.param 0)).count ∧ ¬ s.clearFrom (f.param 0) (f.param 2) then some .stateDenied
      else none := by
  obtain ⟨h1, h4, hc⟩ := hr
  obtain ⟨h9, hmax⟩ := hc hp
  rw [judgeSetVolume_named hn, if_neg (by simp; omega), if_neg hp, if_neg (by simp; omega)]
  simp only [refuseWhen, Bool.and_eq_true, decide_eq_true_eq, occupied_iff hw hb]

theorem actSetVolume_refused {code : Code} (h : judgeSetVolume s f = some code) :
    actSetVolume f s = refuseControl f code none s := by
  simp only [actSetVolume, h]

theorem actSetVolume_unchanged (h : judgeSetVolume s f = none) (hp : f.param 1 = 0)
    (ha : (s.volume (f.param 0)).state = .absent) : actSetVolume f s = answerControl f .unchanged [] s := by
  simp only [actSetVolume, h, hp, ha, if_true]

theorem actSetVolume_removed (h : judgeSetVolume s f = none) (hp : f.param 1 = 0)
    (ha : (s.volume (f.param 0)).state ≠ .absent) : actSetVolume f s = writeVolume f (f.param 0) Volume.absent s := by
  simp only [actSetVolume, h, hp, ha, if_true, if_false]

/-- The volume that a SET VOLUME with a count leaves (R25). -/
def Frame.resized (f : Frame) (x : Volume) : Volume :=
  x.resize (wordVolumeState (f.param 1)) (f.param 2) (wordFlag (f.param 3)) (wordFlag (f.param 4))

theorem actSetVolume_resized (h : judgeSetVolume s f = none) (hp : f.param 1 ≠ 0) :
    actSetVolume f s = writeVolume f (f.param 0) (f.resized (s.volume (f.param 0))) s := by
  simp only [actSetVolume, h, hp, if_false]
  rfl

end Judged

/-! ### The write of a volume (R25, R113, R129) -/

/-- Where the Sweeper stands once a volume has a count (R129; log 39). -/
def SweepState.trimmed (st : SweepState) (v count : Nat) : SweepState :=
  match st with
  | .passing u n => if u = v ∧ count ≤ n then .leaving v else st
  | .leaving _ => st
  | .idle => st

theorem Sweeper.trimmed_eq (x : Sweeper) (v count : Nat) :
    x.trimmed v count = { x with state := x.state.trimmed v count } := by
  obtain ⟨st, again⟩ := x
  cases st with
  | passing u n =>
    simp only [Sweeper.trimmed, SweepState.trimmed, Bool.and_eq_true, decide_eq_true_eq]
    split
    · rfl
    · rfl
  | leaving u => rfl
  | idle => rfl

section Written

variable {s : State} {f : Frame} {rest : List RxFrame} {v : Nat} {y : Volume}

/-- A state whose request is answered, with a volume written and the Sweeper trimmed to its count (R25, R129). -/
def State.volumeAnswered (s : State) (v : Nat) (y : Volume) (reply : Frame) (rest : List RxFrame) : State :=
  { s.answered rest reply with
    volumes := s.volumes.setIfInBounds (v - 1) y
    sweeper := { s.sweeper with state := s.sweeper.state.trimmed v y.count } }

/-- A write of a volume is answered, and the collection it ends after it (log 52). -/
theorem writeVolume_eq (h : s.officerAsks f rest 4) (hv : 1 ≤ v) :
    writeVolume f v y (s.taken rest) = endCollection v y.count (s.volumeAnswered v y (f.reply .done []) rest) := by
  obtain ⟨⟨-, -, -, hroom, -⟩, -, -, hl, hen, -, -⟩ := h
  have hlimit : Config.intakeLimit ≤ Config.transmitLimit := by decide
  have hset : (s.taken rest).setVolume v y = { s.taken rest with volumes := s.volumes.setIfInBounds (v - 1) y } :=
    congrArg (fun volumes => { s.taken rest with volumes := volumes }) (if_neg (Nat.ne_of_gt hv))
  rw [writeVolume, Sweeper.trimmed_eq, hset]
  refine congrArg (endCollection v y.count) (State.send_placed _ _ hl ?_ (Nat.lt_of_lt_of_le hroom hlimit))
  show (s.initiator f.initiator).state ≠ .absent
  rw [hen]
  decide

theorem endCollection_conditions (count : Nat) (s : State) :
    (endCollection v count s).conditions = s.conditions := by
  unfold endCollection
  split
  · split
    · simp [stopCollection]
    · rfl
  · rfl

/-- No collection of the volume stands at or beyond the count. -/
theorem endCollection_none {count : Nat}
    (hx : ∀ x, s.collection = some x → ¬ (x.volume = v ∧ count ≤ x.nextSegment)) : endCollection v count s = s := by
  unfold endCollection
  split
  · next x hc => exact if_neg (by simpa using hx x hc)
  · rfl

/-- A collection at or beyond the count stops (R113; log 44). -/
theorem endCollection_stopped {count : Nat} {x : Collection} (hc : s.collection = some x) (hv : x.volume = v)
    (hn : count ≤ x.nextSegment) : endCollection v count s = stopCollection x none s := by
  simp [endCollection, hc, hv, hn]

/-- What the write of a volume does, as R25, R113 and R129 say it. -/
theorem writeVolume_written (h : s.officerAsks f rest 4) (hv : 1 ≤ v) :
    s.volumeWritten v y (f.reply .done []) rest (writeVolume f v y (s.taken rest)) := by
  obtain ⟨⟨-, -, -, hroom, -⟩, -, -, hl, -⟩ := id h
  have hplaced : (s.txQueue ++ [f.reply .done []]).length < 2048 := by
    simp only [Config.intakeLimit] at hroom
    rw [List.length_append, List.length_singleton]
    omega
  have heq := writeVolume_eq (y := y) h hv
  let u := s.volumeAnswered v y (f.reply .done []) rest
  refine ⟨fun x hx hxv hn hp => heq.trans ?_, fun hx => heq.trans (endCollection_none (s := u) hx)⟩
  rw [endCollection_stopped (s := u) hx hxv hn]
  refine (stopCollection_heard (s := u) hl hp hplaced none).trans ?_
  simp only [u, State.volumeAnswered, State.answered, List.append_assoc]
  rfl

/-- A SET VOLUME that writes a volume. -/
theorem setVolume_event (h : s.officerAsks f rest 4) (hv : 1 ≤ v)
    (ha : actSetVolume f (s.taken rest) = writeVolume f v y (s.taken rest)) :
    exec .setVolume s = .next (writeVolume f v y (s.taken rest)) := by
  obtain ⟨⟨-, hs, -⟩, -⟩ := id h
  have hquiet : (actSetVolume f (s.taken rest)).conditions.causes = [] := by
    rw [ha, writeVolume_eq h hv, endCollection_conditions]
    exact hs
  refine congrArg Host.Outcome.next ?_
  rw [controlEvent_taken 4 actSetVolume s f rest h hquiet, ha]

end Written

section Resized

variable {s t : State} {f : Frame}

/-- The volume that a SET VOLUME with a count leaves: what R25 says of its fields, its segments and its zones. -/
theorem resized_facts (hn : f.volumeNamed) (hp : f.param 1 ≠ 0) (hv : 1 ≤ f.param 0 ∧ f.param 0 ≤ 4)
    (hw : Sparse.wf Segment.fresh (s.volume (f.param 0)).segments = true)
    (hb : ∀ e ∈ (s.volume (f.param 0)).segments, e.1 < (s.volume (f.param 0)).count)
    (ht : t.volumes = Table.set1 s.volumes (f.param 0) (f.resized (s.volume (f.param 0)))) :
    let v := f.param 0
    let x := s.volume v
    let y := f.resized x
    t.volume v = y ∧ y.state = (if f.param 1 = 1 then .online else .readOnly) ∧ y.count = f.param 2 ∧
      y.writeInhibit = decide (f.param 3 = 1) ∧ y.commonKey = decide (f.param 4 = 1) ∧
      (∀ n, n < f.param 2 → t.segment v n = if n < x.count then s.segment v n else Segment.fresh) ∧
      y.counts = { x.counts with blank := x.counts.blank + f.param 2 - x.count } ∧
      y.zones.length = ceilDiv (f.param 2) 4096 ∧
      (∀ z, z < ceilDiv (f.param 2) 4096 → t.zone v z = s.zone v z) ∧ (∀ u, u ≠ v → t.volume u = s.volume u) := by
  intro v x y
  have hvolume : ∀ u, t.volume u = if u = v then y else s.volume u := State.volume_of_set1 hv ht
  have hown : t.volume v = y := by rw [hvolume, if_pos rfl]
  have hstate : wordVolumeState (f.param 1) = if f.param 1 = 1 then .online else .readOnly := by
    obtain ⟨h2, -⟩ := hn
    unfold wordVolumeState
    split
    · rfl
    · rw [if_pos (by omega)]
  refine ⟨hown, hstate, rfl, rfl, rfl, fun n hlt => ?_, rfl, ?_, fun z hz => ?_, fun u hu => ?_⟩
  · have hresized : t.segment v n = Sparse.get Segment.fresh x.segments n := by
      rw [State.segment, hown]
      exact (Sparse.get_cut _ hw _ _).trans (if_pos hlt)
    rw [hresized]
    split
    · rfl
    · next hge => exact Volume.get_of_count_le hb (Nat.le_of_not_lt hge)
  · simp [y, Frame.resized, Volume.resize, zoneCount, Config.zoneSegments]
  · rw [State.zone, hown]
    simp [y, x, Frame.resized, Volume.resize, zoneCount, Config.zoneSegments, hz, State.zone]
  · rw [hvolume, if_neg hu]

end Resized

/-- Settles O27: each row of the judgement in turn, and the volume written with what stood beyond it. -/
theorem setVolumeResizes : Obligations.SetVolumeResizes := by
  intro s f rest h v x count named inRange clear refused written
  have hrefused : ∀ code, judgeSetVolume s f = some code → refused code := fun code hj =>
    congrArg Host.Outcome.next (controlEvent_refused h (actSetVolume_refused (s := s.taken rest) hj))
  refine ⟨fun hn => hrefused _ (judgeSetVolume_unnamed hn), fun hn hr => hrefused _ (judgeSetVolume_outOfRange hn hr),
    fun hn hr hp ha => ?_, fun hn hr hw hb => ⟨fun hp ha => ⟨fun hc => ?_, fun hc => ?_⟩,
      fun hp => ⟨fun hlt hc => ?_, fun hc => ?_⟩⟩⟩
  · exact congrArg Host.Outcome.next (controlEvent_only_answered h
      (actSetVolume_unchanged (s := s.taken rest) (judgeSetVolume_absent hn hr hp ha) hp ha))
  · exact hrefused _ (by rw [judgeSetVolume_present hn hr hp ha hw hb]; exact if_pos hc)
  · have hj : judgeSetVolume s f = none := by
      rw [judgeSetVolume_present hn hr hp ha hw hb]
      exact if_neg (not_not.mpr hc)
    obtain ⟨h1, -⟩ := id hr
    exact ⟨_, setVolume_event h h1 (actSetVolume_removed (s := s.taken rest) hj hp ha), writeVolume_written h h1⟩
  · exact hrefused _ (by rw [judgeSetVolume_count hn hr hp hw hb]; exact if_pos ⟨hlt, hc⟩)
  · have hj : judgeSetVolume s f = none := by
      rw [judgeSetVolume_count hn hr hp hw hb]
      exact if_neg (fun ⟨hlt, hoccupied⟩ => hoccupied (hc hlt))
    obtain ⟨h1, h4, -⟩ := id hr
    refine ⟨_, f.resized x, setVolume_event h h1 (actSetVolume_resized (s := s.taken rest) hj hp),
      writeVolume_written h h1, ?_⟩
    obtain ⟨hvolumes, -⟩ := writeVolume_fields f v (f.resized x) (s.taken rest)
    exact resized_facts hn hp ⟨h1, h4⟩ (hw v) hb hvolumes

end Sys2Proof.Machine

end

section
/-! PROOF. LOAD CLASS. -/

namespace Sys2Proof.Machine

/-! ### The entry that the parameters give (R41; log 35) -/

section Given

variable {f : Frame}

/-- A post-trigger word; an absent one of an untriggered entry counts as 0 (log 35). -/
def Frame.postWord (f : Frame) (w : Nat) : Nat := if f.param 4 ≠ 1 ∧ w = 4294967295 then 0 else w

/-- The post-trigger period that the parameters give. -/
def Frame.postPeriod (f : Frame) : Period :=
  { months := f.postWord (f.param 6), days := f.postWord (f.param 7) }

theorem givenPost_eq (f : Frame) : givenPost f = f.postPeriod := by
  unfold givenPost Frame.postPeriod Frame.postWord wordFlag wordOption Config.absentWord
  by_cases ht : f.param 4 = 1
  · simp [ht]
  · simp [ht, apply_ite (fun o : Option Nat => o.getD 0)]

theorem givenClass_eq (f : Frame) :
    givenClass f =
      { base := { months := f.param 1, days := f.param 2 }
        post := if f.param 4 = 1 then some f.postPeriod else none
        permanent := decide (f.param 3 = 1)
        triggered := decide (f.param 4 = 1)
        readProtection := decide (f.param 5 = 1) } := by
  simp [givenClass, wordFlag, givenPost_eq]

/-- The yes/no words are ones that LOAD CLASS takes (R193). -/
def Frame.classNamed (f : Frame) : Prop := f.param 3 ≤ 1 ∧ f.param 4 ≤ 1 ∧ f.param 5 ≤ 1

/-- The class and the two periods are in range (R39, R41). -/
def Frame.classInRange (f : Frame) : Prop :=
  f.param 0 ≤ 63 ∧ f.param 1 ≤ 1199 ∧ f.param 2 ≤ 4095 ∧ f.postWord (f.param 6) ≤ 1199 ∧
    f.postWord (f.param 7) ≤ 4095

/-- An untriggered entry has no post-trigger period (R41). -/
def Frame.classFormed (f : Frame) : Prop :=
  f.param 4 = 0 → f.postWord (f.param 6) = 0 ∧ f.postWord (f.param 7) = 0

/-- The given entry lowers the present one (R42). -/
def State.lowered (s : State) (f : Frame) : Prop :=
  ∃ old, s.classEntry (f.param 0) = some old ∧ old.lowers (givenClass f) = true

theorem classNamed_iff :
    (badFlag (f.param 3) || badFlag (f.param 4) || badFlag (f.param 5)) = true ↔ ¬ f.classNamed := by
  simp only [badFlag, Frame.classNamed, Bool.or_eq_true, decide_eq_true_eq]
  omega

theorem classInRange_iff :
    (decide (63 < f.param 0) || (givenClass f).base.outOfRange || (givenPost f).outOfRange) = true ↔
      ¬ f.classInRange := by
  simp only [givenPost_eq, givenClass, Period.outOfRange, Frame.postPeriod, Frame.classInRange, Bool.or_eq_true,
    decide_eq_true_eq]
  omega

theorem classFormed_iff (hn : f.classNamed) :
    (!wordFlag (f.param 4) && !decide (givenPost f = { months := 0, days := 0 })) = true ↔ ¬ f.classFormed := by
  obtain ⟨-, h4, -⟩ := hn
  simp only [wordFlag, givenPost_eq, Frame.postPeriod, Frame.classFormed, Period.mk.injEq, Bool.and_eq_true,
    Bool.not_eq_true', decide_eq_false_iff_not, Classical.not_imp]
  exact and_congr_left' (by omega)

theorem ClassEntry.lowers_iff (old new : ClassEntry) :
    old.lowers new = true ↔
      new.base.inDays < old.base.inDays ∨
        (old.triggered = true ∧
          (new.post.getD { months := 0, days := 0 }).inDays < (old.post.getD { months := 0, days := 0 }).inDays) ∨
        (old.permanent = true ∧ new.permanent = false) ∨ (old.triggered = true ∧ new.triggered = false) := by
  simp only [ClassEntry.lowers, Bool.or_eq_true, Bool.and_eq_true, Bool.not_eq_true', decide_eq_true_eq, or_assoc]

end Given

/-! ### The judgement (R41, R42) -/

section Judged

variable {s : State} {f : Frame}

theorem judgeLoadClass_unnamed (hn : ¬ f.classNamed) : judgeLoadClass s f = some .format :=
  if_pos (classNamed_iff.mpr hn)

open Classical in
/-- The judgement of a LOAD CLASS as a chain of its rows (R41). -/
theorem judgeLoadClass_eq (hn : f.classNamed) :
    judgeLoadClass s f =
      if f.param 0 = 0 then some .stateDenied
      else if ¬ f.classInRange then some .outOfRange
      else if ¬ f.classFormed then some .format
      else if s.lowered f then some .lowering
      else none := by
  simp only [judgeLoadClass, classNamed_iff, not_not.mpr hn, if_false, classInRange_iff, classFormed_iff hn]
  cases hold : s.classEntry (f.param 0) with
  | none => simp [State.lowered, hold]
  | some old => simp [State.lowered, hold, refuseWhen]

theorem actLoadClass_refused {code : Code} (h : judgeLoadClass s f = some code) :
    actLoadClass f s = refuseControl f code none s := by
  simp only [actLoadClass, h]

theorem actLoadClass_unchanged (h : judgeLoadClass s f = none)
    (he : s.classEntry (f.param 0) = some (givenClass f)) : actLoadClass f s = answerControl f .unchanged [] s := by
  simp only [actLoadClass, h, he, if_true]

theorem actLoadClass_written (h : judgeLoadClass s f = none)
    (he : s.classEntry (f.param 0) ≠ some (givenClass f)) :
    actLoadClass f s =
      answerControl f .done [] { s with classes := Table.set s.classes (f.param 0) (some (givenClass f)) } := by
  simp only [actLoadClass, h, he, if_false]

end Judged

/-- Settles O26: each row of the judgement in turn, and the write of the one entry. -/
theorem loadClassWrites : Obligations.LoadClassWrites := by
  intro s f rest h k post months days given named inRange formed after lowers refused
  obtain ⟨⟨-, hs, -⟩, -⟩ := id h
  have hgiven : givenClass f = given := givenClass_eq f
  have hlowers : lowers ↔ s.lowered f := by
    simp only [lowers, State.lowered, ClassEntry.lowers_iff, hgiven]
    rfl
  have hrefused : ∀ code, judgeLoadClass s f = some code → refused code := fun code hj =>
    congrArg Host.Outcome.next (controlEvent_refused h (actLoadClass_refused (s := s.taken rest) hj))
  refine ⟨fun hn => hrefused _ (judgeLoadClass_unnamed hn), fun hn hk => ?_,
    fun hn hk (hr : ¬ f.classInRange) => ?_, fun hn hk (hr : f.classInRange) (hf : ¬ f.classFormed) => ?_,
    fun hn hk (hr : f.classInRange) (hf : f.classFormed) hl => ?_,
    fun hn hk (hr : f.classInRange) (hf : f.classFormed) hl => ?_⟩
  · exact hrefused _ (by rw [judgeLoadClass_eq hn, if_pos hk])
  · exact hrefused _ (by rw [judgeLoadClass_eq hn, if_neg hk, if_pos hr])
  · exact hrefused _ (by rw [judgeLoadClass_eq hn, if_neg hk, if_neg (not_not.mpr hr), if_pos hf])
  · exact hrefused _ (by
      rw [judgeLoadClass_eq hn, if_neg hk, if_neg (not_not.mpr hr), if_neg (not_not.mpr hf), if_pos (hlowers.mp hl)])
  · have hj : judgeLoadClass s f = none := by
      rw [judgeLoadClass_eq hn, if_neg hk, if_neg (not_not.mpr hr), if_neg (not_not.mpr hf),
        if_neg (hlowers.not.mp hl)]
    rw [← hgiven]
    refine ⟨fun he => ?_, fun he => ?_⟩
    · exact congrArg Host.Outcome.next
        (controlEvent_only_answered h (actLoadClass_unchanged (s := s.taken rest) hj he))
    · let u : State := { s.taken rest with classes := Table.set s.classes k (some (givenClass f)) }
      exact congrArg Host.Outcome.next
        (controlEvent_placed_quiet (u := u) h rfl rfl rfl hs (actLoadClass_written (s := s.taken rest) hj he))

end Sys2Proof.Machine

end

section
/-! PROOF. LOAD INITIATOR. -/

namespace Sys2Proof.Machine

/-! ### The entry that the parameters give (R53) -/

section Given

variable {f : Frame}

/-- The window words of the parameters give a window when both are present. -/
def Frame.givenWindow (f : Frame) : Option Window :=
  if f.param 7 = 4294967295 ∨ f.param 8 = 4294967295 then none else some { volume := f.param 7, base := f.param 8 }

/-- The entry of a LOAD INITIATOR that is no removal (R53). -/
def Frame.presentEntry (f : Frame) : InitiatorEntry :=
  { state := if f.param 1 = 1 then .enabled else .suspended
    key := f.param 2
    officer := decide (f.param 3 = 1)
    disposer := decide (f.param 4 = 1)
    readOnly := decide (f.param 5 = 1)
    volumes := BitVec.ofNat 4 (f.param 6)
    window := f.givenWindow }

theorem wordOption_none {w : Nat} (h : w = 4294967295) : wordOption w = none := if_pos h

theorem wordOption_some {w : Nat} (h : w ≠ 4294967295) : wordOption w = some w := if_neg h

theorem givenEntry_present (h : f.param 1 ≠ 0) : givenEntry f = f.presentEntry := by
  rw [givenEntry, if_neg h, Frame.presentEntry, Frame.givenWindow]
  by_cases hv : f.param 7 = 4294967295
  · simp only [hv, wordOption_none rfl, true_or, if_true]
    cases wordOption (f.param 8) <;> rfl
  · by_cases hb : f.param 8 = 4294967295
    · simp [hb, wordOption_none rfl, wordOption_some hv, wordFlag]
    · simp [hv, hb, wordOption_some hv, wordOption_some hb, wordFlag]

theorem presentEntry_state (f : Frame) : f.presentEntry.state ≠ .absent := by
  unfold Frame.presentEntry
  dsimp only
  split <;> decide

/-! ### The rows (R53, R193) -/

/-- The named values and yes/no words are ones that LOAD INITIATOR takes (R193). -/
def Frame.entryNamed (f : Frame) : Prop :=
  f.param 1 ≤ 2 ∧ (f.param 1 = 0 ∨ (f.param 3 ≤ 1 ∧ f.param 4 ≤ 1 ∧ f.param 5 ≤ 1))

/-- The entry's number and the numbers it holds are in range (R53, row 3). -/
def Frame.entryInRange (f : Frame) : Prop :=
  f.param 0 ≤ 31 ∧
    (f.param 1 = 0 ∨
      (f.param 2 ≤ 15 ∧ (f.param 7 = 4294967295 ∨ (1 ≤ f.param 7 ∧ f.param 7 ≤ 4)) ∧
        (f.param 8 = 4294967295 ∨ (8 ≤ f.param 8 ∧ f.param 8 ≤ 65528))))

/-- The entry has the form R53 asks for (rows 4 and 5). -/
def Frame.entryFormed (f : Frame) : Prop :=
  f.param 1 = 0 ∨
    ((f.param 7 = 4294967295 ↔ f.param 8 = 4294967295) ∧ f.param 6 ≤ 15 ∧
      (f.param 7 ≠ 4294967295 → (f.param 6).testBit (f.param 7 - 1) = true))

/-- The given window shares a segment with that of another entry that is not Absent (R53). -/
def State.windowShared (s : State) (f : Frame) : Prop :=
  f.param 1 ≠ 0 ∧ f.param 7 ≠ 4294967295 ∧ f.param 8 ≠ 4294967295 ∧
    ∃ j x, j ≠ f.param 0 ∧ (s.initiator j).state ≠ .absent ∧ (s.initiator j).window = some x ∧ x.volume = f.param 7 ∧
      x.base < f.param 8 + 8 ∧ f.param 8 < x.base + 8

/-- An Enabled officer remains once entry i is e (R53). -/
def State.officerKept (s : State) (i : Nat) (e : InitiatorEntry) : Prop :=
  (e.state = .enabled ∧ e.officer = true) ∨
    ∃ j, j ≠ i ∧ (s.initiator j).state = .enabled ∧ (s.initiator j).officer = true

theorem entryNamed_iff : badEntryNames f = true ↔ ¬ f.entryNamed := by
  simp only [badEntryNames, badFlag, Frame.entryNamed, Bool.or_eq_true, Bool.and_eq_true, Bool.not_eq_true',
    decide_eq_true_eq, decide_eq_false_iff_not]
  omega

/-- A word that is not absent lies outside a range. -/
def outside (low high : Nat) (o : Option Nat) : Bool := o.any (fun w => decide (w < low) || decide (high < w))

theorem outside_iff (low high w : Nat) :
    outside low high (wordOption w) = true ↔ ¬ (w = 4294967295 ∨ (low ≤ w ∧ w ≤ high)) := by
  by_cases hw : w = 4294967295
  · simp [hw, wordOption_none rfl, outside]
  · simp only [wordOption_some hw, outside, Option.any_some, Bool.or_eq_true, decide_eq_true_eq]
    omega

theorem badEntryRange_eq (f : Frame) :
    badEntryRange f =
      (decide (15 < f.param 2) || outside 1 4 (wordOption (f.param 7)) ||
        outside 8 65528 (wordOption (f.param 8))) := by
  unfold badEntryRange outside
  cases wordOption (f.param 7) <;> cases wordOption (f.param 8) <;> rfl

theorem entryInRange_iff :
    (31 < f.param 0 ∨ (!decide (f.param 1 = 0) && badEntryRange f) = true) ↔ ¬ f.entryInRange := by
  simp only [badEntryRange_eq, outside_iff, Frame.entryInRange, Bool.or_eq_true, Bool.and_eq_true, Bool.not_eq_true',
    decide_eq_true_eq, decide_eq_false_iff_not]
  omega

end Given

section Judged

variable {s : State} {f : Frame}

/-- The volumes of the given entry are the low four bits of their word. -/
theorem presentEntry_hasVolume (f : Frame) {v : Nat} (hv : 1 ≤ v ∧ v ≤ 4) :
    f.presentEntry.hasVolume v = (f.param 6).testBit (v - 1) := by
  obtain ⟨h1, h4⟩ := hv
  have hbit : v - 1 < 4 := by omega
  rw [InitiatorEntry.hasVolume, decide_eq_true h1, decide_eq_true h4]
  show (BitVec.ofNat 4 (f.param 6)).getLsbD (v - 1) = _
  rw [BitVec.getLsbD_ofNat, decide_eq_true hbit, Bool.true_and]

theorem entryFormed_iff (hr : f.entryInRange) :
    (!decide (f.param 1 = 0) && badEntryForm f) = true ↔ ¬ f.entryFormed := by
  by_cases hp : f.param 1 = 0
  · simp [hp, Frame.entryFormed]
  obtain ⟨-, hr⟩ := hr
  obtain ⟨-, hvolume, -⟩ := hr.resolve_left hp
  have hwindow : f.presentEntry.window = f.givenWindow := rfl
  simp only [badEntryForm, givenEntry_present hp, hwindow, Frame.givenWindow, Frame.entryFormed, hp, false_or,
    decide_false, Bool.not_false, Bool.true_and]
  by_cases hv : f.param 7 = 4294967295
  · by_cases hb : f.param 8 = 4294967295
    · simp [hv, hb, wordOption_none]
    · simp [hv, hb, wordOption_none, wordOption_some]
  · have hmember := presentEntry_hasVolume f (hvolume.resolve_left hv)
    by_cases hb : f.param 8 = 4294967295
    · simp [hv, hb, wordOption_none, wordOption_some]
    · simp [hv, hb, wordOption_some, hmember, imp_iff_not_or]

/-- Another entry that is not Absent has a window that shares a segment with the given one. -/
def State.sharesWith (s : State) (i : Nat) (w : Window) (j : Nat) : Bool :=
  !decide (j = i) && s.present j && (s.initiator j).window.any w.shares

theorem windowTaken_some {i : Nat} {e : InitiatorEntry} {w : Window} (h : e.window = some w) :
    windowTaken s i e = (List.range 32).any (s.sharesWith i w) := by
  simp only [windowTaken, h]
  refine congrArg (List.any (List.range 32)) (funext fun j => ?_)
  unfold State.sharesWith
  cases (s.initiator j).window <;> rfl

theorem windowTaken_none {i : Nat} {e : InitiatorEntry} (h : e.window = none) : windowTaken s i e = false := by
  simp only [windowTaken, h]

theorem sharesWith_iff {i j : Nat} {w : Window} :
    s.sharesWith i w j = true ↔
      ∃ x, j ≠ i ∧ (s.initiator j).state ≠ .absent ∧ (s.initiator j).window = some x ∧ x.volume = w.volume ∧
        x.base < w.base + 8 ∧ w.base < x.base + 8 := by
  cases hx : (s.initiator j).window with
  | none => simp [State.sharesWith, hx]
  | some x =>
    simp only [State.sharesWith, State.present, hx, Option.any_some, Window.shares, Bool.and_eq_true, Bool.not_eq_true',
      decide_eq_true_eq, decide_eq_false_iff_not, Option.some.injEq]
    constructor
    · rintro ⟨⟨hj, hp⟩, ⟨hv, hlow⟩, hhigh⟩
      exact ⟨x, hj, hp, rfl, hv.symm, hhigh, hlow⟩
    · rintro ⟨_, hj, hp, rfl, hv, hhigh, hlow⟩
      exact ⟨⟨hj, hp⟩, ⟨hv.symm, hlow⟩, hhigh⟩

theorem windowShared_iff : windowTaken s (f.param 0) (givenEntry f) = true ↔ s.windowShared f := by
  by_cases hp : f.param 1 = 0
  · rw [windowTaken_none (by rw [givenEntry_absent hp]; rfl), State.windowShared]
    simp [hp]
  have hwindow : (givenEntry f).window = f.givenWindow := congrArg InitiatorEntry.window (givenEntry_present hp)
  by_cases hw : f.param 7 = 4294967295 ∨ f.param 8 = 4294967295
  · rw [windowTaken_none (hwindow.trans (if_pos hw)), State.windowShared]
    tauto
  · rw [windowTaken_some (hwindow.trans (if_neg hw)), List.any_eq_true]
    obtain ⟨hv, hb⟩ := not_or.mp hw
    constructor
    · rintro ⟨j, -, hj⟩
      exact ⟨hp, hv, hb, j, sharesWith_iff.mp hj⟩
    · rintro ⟨-, -, -, j, x, hj, hpresent, hx⟩
      exact ⟨j, List.mem_range.mpr (State.initiator_lt hpresent), sharesWith_iff.mpr ⟨x, hj, hpresent, hx⟩⟩

theorem officerKept_iff {i : Nat} (hi : i ≤ 31) (e : InitiatorEntry) :
    lastOfficer s i e = true ↔ ¬ s.officerKept i e := by
  simp only [lastOfficer, Bool.not_eq_true', ← Bool.not_eq_true, List.any_eq_true, List.mem_range, Bool.and_eq_true,
    decide_eq_true_eq]
  refine not_congr ⟨fun hkept => ?_, fun hkept => ?_⟩
  · obtain ⟨j, -, hj⟩ := hkept
    by_cases hji : j = i
    · rw [if_pos hji] at hj
      exact .inl hj
    · rw [if_neg hji] at hj
      exact .inr ⟨j, hji, hj⟩
  · rcases hkept with hown | ⟨j, hji, hen, ho⟩
    · exact ⟨i, Nat.lt_succ_of_le hi, by rw [if_pos rfl]; exact hown⟩
    · exact ⟨j, State.initiator_lt (s := s) (by rw [hen]; decide), by rw [if_neg hji]; exact ⟨hen, ho⟩⟩

theorem judgeLoadInitiator_format (hn : ¬ f.entryNamed) : judgeLoadInitiator s f = some .format :=
  if_pos (entryNamed_iff.mpr hn)

theorem judgeLoadInitiator_outOfRange (hn : f.entryNamed) (hr : ¬ f.entryInRange) :
    judgeLoadInitiator s f = some .outOfRange := by
  rw [judgeLoadInitiator, if_neg (entryNamed_iff.not_left.mpr hn)]
  rcases entryInRange_iff.mpr hr with h | h
  · exact if_pos h
  · rw [if_pos h, ite_self]

open Classical in
/-- The rows of a LOAD INITIATOR behind the ranges (R53). -/
theorem judgeLoadInitiator_eq (hn : f.entryNamed) (hr : f.entryInRange) :
    judgeLoadInitiator s f =
      if ¬ f.entryFormed then some .format
      else if s.windowShared f then some .stateDenied
      else if ¬ s.officerKept (f.param 0) (givenEntry f) then some .stateDenied
      else none := by
  obtain ⟨hi, -⟩ := id hr
  obtain ⟨hnumber, hrange⟩ := not_or.mp (entryInRange_iff.not_left.mpr hr)
  rw [judgeLoadInitiator, if_neg (entryNamed_iff.not_left.mpr hn), if_neg hnumber, if_neg hrange]
  simp only [entryFormed_iff hr, windowShared_iff, officerKept_iff hi]

theorem actLoadInitiator_refused {code : Code} (h : judgeLoadInitiator s f = some code) :
    actLoadInitiator f s = refuseControl f code none s := by
  simp only [actLoadInitiator, h]

theorem actLoadInitiator_unchanged (h : judgeLoadInitiator s f = none) (he : givenEntry f = s.initiator (f.param 0)) :
    actLoadInitiator f s = answerControl f .unchanged [] s := by
  simp only [actLoadInitiator, h, he, if_true]

/-- An entry that is not Absent is written, and nothing else (R53). -/
theorem actLoadInitiator_written (h : judgeLoadInitiator s f = none) (he : givenEntry f ≠ s.initiator (f.param 0))
    (hp : (givenEntry f).state ≠ .absent) :
    actLoadInitiator f s =
      answerControl f .done [] { s with initiators := Table.set s.initiators (f.param 0) (givenEntry f) } := by
  simp only [actLoadInitiator, h, he, if_false, writeEntry, hp]

/-- The sender of the request is present once the entry is written. -/
theorem present_of_entry_set {u : State} {i j : Nat} {e : InitiatorEntry}
    (hu : u.initiators = Table.set s.initiators i e) (he : e.state ≠ .absent) (hj : (s.initiator j).state ≠ .absent) :
    (u.initiator j).state ≠ .absent := by
  rw [State.initiator, hu]
  by_cases hji : j = i
  · rw [← hji, Table.get_set_same _ _ _ _ (State.initiator_lt hj)]
    exact he
  · rw [Table.get_set_other _ _ _ _ _ hji]
    exact hj

/-- A LOAD INITIATOR that writes an entry is answered, since its sender is not Absent then (R53). -/
theorem loadInitiator_written {rest : List RxFrame} (h : s.officerAsks f rest 2) (hj : judgeLoadInitiator s f = none)
    (he : givenEntry f ≠ s.initiator (f.param 0)) (hp : (givenEntry f).state ≠ .absent) :
    exec .loadInitiator s =
      .next { s.answered rest (f.reply .done []) with
        initiators := s.initiators.setIfInBounds (f.param 0) (givenEntry f) } := by
  obtain ⟨⟨-, hs, -, hroom, -⟩, -, -, hl, hen, -, -⟩ := id h
  have hlimit : Config.intakeLimit ≤ Config.transmitLimit := by decide
  have hsender : (s.initiator f.initiator).state ≠ .absent := by
    rw [hen]
    decide
  let u : State := { s.taken rest with initiators := Table.set s.initiators (f.param 0) (givenEntry f) }
  have hpresent : (u.initiator f.initiator).state ≠ .absent := present_of_entry_set rfl hp hsender
  have hact : actLoadInitiator f (s.taken rest) = { u with txQueue := u.txQueue ++ [f.reply .done []] } :=
    (actLoadInitiator_written (s := s.taken rest) hj he hp).trans
      (State.send_placed u (f.reply .done []) hl hpresent (Nat.lt_of_lt_of_le hroom hlimit))
  refine congrArg Host.Outcome.next ?_
  rw [controlEvent_taken 2 actLoadInitiator s f rest h (by rw [hact]; exact hs), hact]
  rfl

end Judged

/-- Settles O24: each row of the judgement in turn, and the write of the one entry. -/
theorem loadInitiatorWrites : Obligations.LoadInitiatorWrites := by
  intro s f rest h i removal none32 v base given named inRange formed shared officered refused
  have hgiven : givenEntry f = given := by
    by_cases hp : f.param 1 = 0
    · rw [givenEntry_absent hp]
      exact (if_pos hp).symm
    · rw [givenEntry_present hp]
      exact (if_neg hp).symm
  have hrefused : ∀ code, judgeLoadInitiator s f = some code → refused code := fun code hj =>
    congrArg Host.Outcome.next (controlEvent_refused h (actLoadInitiator_refused (s := s.taken rest) hj))
  refine ⟨fun hn => hrefused _ (judgeLoadInitiator_format hn),
    fun hn hr => hrefused _ (judgeLoadInitiator_outOfRange hn hr),
    fun hn hr (hf : ¬ f.entryFormed) => ?_, fun hn hr (hf : f.entryFormed) (hw : s.windowShared f) => ?_,
    fun hn hr (hf : f.entryFormed) (hw : ¬ s.windowShared f) (ho : ¬ s.officerKept i given) => ?_,
    fun hn hr (hf : f.entryFormed) (hw : ¬ s.windowShared f) (ho : s.officerKept i given) => ?_⟩
  · exact hrefused _ (by rw [judgeLoadInitiator_eq hn hr, if_pos hf])
  · exact hrefused _ (by rw [judgeLoadInitiator_eq hn hr, if_neg (not_not.mpr hf), if_pos hw])
  · rw [← hgiven] at ho
    refine hrefused _ ?_
    rw [judgeLoadInitiator_eq hn hr, if_neg (not_not.mpr hf), if_neg hw, if_pos ho]
  · rw [← hgiven] at ho ⊢
    have hj : judgeLoadInitiator s f = none := by
      rw [judgeLoadInitiator_eq hn hr, if_neg (not_not.mpr hf), if_neg hw, if_neg (not_not.mpr ho)]
    refine ⟨fun he => ?_, fun he hp => ?_⟩
    · exact congrArg Host.Outcome.next
        (controlEvent_only_answered h (actLoadInitiator_unchanged (s := s.taken rest) hj he))
    · have hgp : (givenEntry f).state ≠ .absent := by
        rw [givenEntry_present hp]
        exact presentEntry_state f
      exact loadInitiator_written h hj he hgp

end Sys2Proof.Machine

end

section
/-! PROOF. The reset line held, main power lost, the backup supply lost. -/

namespace Sys2Proof.Machine

theorem Clock.lost_eq (c : Clock) :
    c.lost = { value := c.mark, state := .unset, backupValid := false, mark := c.mark } := rfl

/-- A loss of main power leaves every volatile block at its start-up value, and the tables as they are (log 8). -/
theorem losePower_startedFrom (s : State) : s.startedFrom (losePower s) :=
  ⟨⟨rfl, rfl, rfl, rfl, rfl⟩,
    ⟨fun c => Table.get_replicate _ 32 c, fun n => Table.get_replicate _ 16 n, fun r => Table.get1_replicate _ 4 r⟩,
    ⟨rfl, rfl, rfl, rfl⟩, ⟨rfl, rfl, rfl, rfl⟩, ⟨rfl, rfl, rfl, rfl, rfl, rfl, rfl, rfl⟩⟩

/-- A descriptor loses its writer with main power, and nothing else (R7). -/
theorem losePower_segment {s : State} (hw : s.canonical) (v n : Nat) :
    (losePower s).segment v n = { s.segment v n with writer := none } := by
  have hvolume : (losePower s).volume v = (s.volume v).forgetWriters :=
    State.volume_of_map (f := Volume.forgetWriters) rfl rfl v
  rw [State.segment, hvolume]
  exact Volume.get_mapped (s.volume v) (f := fun g => { g with writer := none }) rfl (hw v) n

/-- Settles O6: the step of each of the three events, with what a loss of main power leaves. -/
theorem linesAndSupplies : Obligations.LinesAndSupplies := by
  refine ⟨fun s => rfl, fun s => ⟨fun hp => ⟨losePower s, ?_, rfl, rfl, rfl, losePower_startedFrom s, ?_⟩,
    fun hp => ?_, fun hp => ?_⟩⟩
  · exact congrArg Host.Outcome.next (if_pos hp)
  · exact losePower_segment
  · exact congrArg Host.Outcome.next (if_pos hp)
  · exact congrArg Host.Outcome.next (if_neg (by rw [hp]; decide))

end Sys2Proof.Machine

end

section
/-! PROOF. Frames and payload words read back from their bytes. -/

namespace Sys2Proof.Machine

/-! ### Words and two-byte fields (R186, R187) -/

theorem wordBytes_toNat {w : Nat} (h : w < 4294967296) :
    w = (BitVec.ofNat 8 (w / 16777216)).toNat * 16777216 + (BitVec.ofNat 8 (w / 65536)).toNat * 65536 +
      (BitVec.ofNat 8 (w / 256)).toNat * 256 + (BitVec.ofNat 8 w).toNat := by
  simp only [BitVec.toNat_ofNat]
  omega

theorem byteWord_wordBytes {w : Nat} (h : w < 4294967296) :
    byteWord (BitVec.ofNat 8 (w / 16777216)) (BitVec.ofNat 8 (w / 65536)) (BitVec.ofNat 8 (w / 256))
      (BitVec.ofNat 8 w) = w :=
  (byteWord_eq _ _ _ _).trans (wordBytes_toNat h).symm

theorem wordsBytes_cons (w : Nat) (ws : List Nat) : wordsBytes (w :: ws) = wordBytes w ++ wordsBytes ws :=
  List.flatMap_cons

/-- The words of a payload read back from their bytes (R187). -/
theorem payloadWords_wordsBytes (ws : List Nat) (h : ∀ w ∈ ws, w < 4294967296) :
    payloadWords (wordsBytes ws) = ws := by
  induction ws with
  | nil => rfl
  | cons w ws ih =>
    obtain ⟨hw, hws⟩ := List.forall_mem_cons.mp h
    rw [wordsBytes_cons]
    exact congrArg₂ List.cons (byteWord_wordBytes hw) (ih hws)

/-- A byte of the header reads back (R186). -/
theorem ofNat_toNat_byte {n : Nat} (h : n < 256) : (BitVec.ofNat 8 n).toNat = n := by
  rw [BitVec.toNat_ofNat]
  exact Nat.mod_eq_of_lt h

/-- A two-byte field of the header reads back (R186). -/
theorem halfBytes_toNat {n : Nat} (h : n < 65536) :
    (BitVec.ofNat 8 (n / 256)).toNat * 256 + (BitVec.ofNat 8 n).toNat = n := by
  simp only [BitVec.toNat_ofNat]
  omega

/-! ### The check word (R188) -/

theorem checkedBody_append (body : List Byte) (w : Nat) : checkedBody (body ++ wordBytes w) = body := by
  simp [checkedBody, wordBytes]

/-- A frame sent with the check word of its bytes passes (R188). -/
theorem checkPasses_append (body : List Byte) : checkPasses (body ++ wordBytes (checkWord body)) = true := by
  unfold checkPasses
  rw [checkedBody_append]
  simp [wordBytes]

/-- The check word of the nine bytes of the worked example (R188). -/
theorem checkWord_example : checkWord [49#8, 50#8, 51#8, 52#8, 53#8, 54#8, 55#8, 56#8, 57#8] = 3808858755 := by
  decide +kernel

/-! ### A frame and its bytes (R186) -/

/-- The header fields of a frame fit their bytes (R186). -/
def Frame.fits (f : Frame) : Prop :=
  (f.kind < 256 ∧ f.initiator < 256 ∧ f.tag < 256 ∧ f.flags < 256 ∧ f.volume < 256 ∧ f.cls < 256 ∧ f.status < 256 ∧
      f.code < 256) ∧
    f.segment < 65536 ∧ f.offset < 65536 ∧ f.count < 65536 ∧ f.payloadLength < 65536

/-- A frame reads back from its header and payload (R186). -/
theorem Frame.ofBody_body {f : Frame} (h : f.fits) : Frame.ofBody f.body = some f := by
  obtain ⟨⟨hkind, hinitiator, htag, hflags, hvolume, hcls, hstatus, hcode⟩, hsegment, hoffset, hcount, hlength⟩ := h
  simp only [Frame.body, Frame.header, halfBytes, List.cons_append, List.nil_append, Frame.ofBody, ofNat_toNat_byte,
    halfBytes_toNat, *]

/-- Settles O11: the bytes of a frame and of payload words in order, and how each reads back. -/
theorem framesReadBack : Obligations.FramesReadBack := by
  refine ⟨fun f hkind hinitiator htag hflags hvolume hcls hstatus hcode hsegment hoffset hcount hlength => ⟨?_, ?_⟩,
    fun f => ?_, checkWord_example, fun w ws hw => ?_, rfl, payloadWords_wordsBytes⟩
  · exact checkPasses_append f.body
  · rw [Frame.wire, checkedBody_append]
    exact Frame.ofBody_body ⟨⟨hkind, hinitiator, htag, hflags, hvolume, hcls, hstatus, hcode⟩, hsegment, hoffset,
      hcount, hlength⟩
  · intro byte body
    show body ++ wordBytes (checkWord body) = body ++ wordsBytes [checkWord body]
    rw [wordsBytes_cons]
    exact congrArg (body ++ ·) (List.append_nil _).symm
  · exact ⟨_, _, _, _, wordsBytes_cons w ws, wordBytes_toNat hw⟩

end Sys2Proof.Machine

end
